-- ==== Sys2Proof/Word.lean ====
section
/-! DEFINITION. The word types of the TB16: what the manual treats as bits. -/

namespace Sys2Proof

/-- One byte of the host link, and every 8-bit field (R187, R188). -/
abbrev Byte := BitVec 8

/-- A 16-bit field of the link. -/
abbrev Word16 := BitVec 16

/-- A case clock value: milliseconds, wrapping at 2^32 (00_scope.md, Conventions). -/
abbrev Word32 := BitVec 32

/-- A bay number, 0 to 15. -/
abbrev BayNo := Fin 16

/-- A bay set as the link carries it: bit n stands for bay n (R188). -/
abbrev BaySet := BitVec 16

end Sys2Proof
end

