-- ==== Sys2Proof/Syntax.lean ====
section
/-! DEFINITION. The commands of the TB16: one constructor of `Instr` for each row of spec/opcode_table.json.

Every command but `powerOn` begins with `dt`, the microseconds that have passed since the command before it (log 1).
A command that ends a timer takes place no earlier than the timer's due time (log 2). -/

namespace Sys2Proof

/-- A request frame after its KIND: FLAGS, TAG and body (R187). -/
structure Req where
  flags : Byte
  tag   : Byte
  body  : List Byte
  deriving DecidableEq, Repr

/-- The twenty-five request kinds of R190. -/
inductive ReqKind where
  | status | viewBay | viewPin | viewUnpin | viewEnvironment | readJolts
  | spinUp | spinDown | load | unload | testWinding | release | clearFaults | takeContext | setMasks
  | forceSafe | leaveSafe
  | setSetting | getSetting | setProfile | getProfile | setBay | commit | recall | restart
  deriving DecidableEq, Repr

/-- What discards a frame being received, other than a byte gap (R175). -/
inductive DiscardCause where
  /-- A byte arrives with a bad stop bit. -/
  | badStop (byte : Byte)
  /-- A byte in the place of LENGTH that lies outside 3 to 243. -/
  | badLength (byte : Byte)
  deriving DecidableEq, Repr

/-- The commands, in the order of the opcode table. -/
inductive Instr where
  /-- POWER_ON: power is applied (R26). -/
  | powerOn
  /-- RESET_N: the reset line is asserted (R26). -/
  | resetN (dt : Nat)
  /-- START_UP_LOAD_END: the start-up load completes (R169). -/
  | startUpLoadEnd (dt : Nat)
  /-- PRESENCE_DEBOUNCE_DONE: the 500th consecutive asserted PRES sample of a bay (R8). -/
  | presenceDebounceDone (dt : Nat) (bay : BayNo)
  /-- REMOVAL: a deasserted PRES sample of a bay (R9). -/
  | removal (dt : Nat) (bay : BayNo)
  /-- TACH_PULSE: a rising edge of a bay's TACH (R11). -/
  | tachPulse (dt : Nat) (bay : BayNo)
  /-- SPEED_LOSS_GAP_EXPIRY: the speed-loss gap of a bay ends (R14). -/
  | speedLossGapExpiry (dt : Nat) (bay : BayNo)
  /-- TACH_FIRST_EXPIRY: the tach-first timer of a bay ends (R42). -/
  | tachFirstExpiry (dt : Nat) (bay : BayNo)
  /-- HOLD_TIMER_EXPIRY: the hold timer of a bay ends (R43). -/
  | holdTimerExpiry (dt : Nat) (bay : BayNo)
  /-- STOP_GAP_EXPIRY: the stop gap of a bay ends (R49). -/
  | stopGapExpiry (dt : Nat) (bay : BayNo)
  /-- STOP_TIMEOUT_EXPIRY: the stop timeout of a bay ends (R49). -/
  | stopTimeoutExpiry (dt : Nat) (bay : BayNo)
  /-- PRK_DEASSERTED: PRK of a bay goes from asserted to deasserted (R59). -/
  | prkDeasserted (dt : Nat) (bay : BayNo)
  /-- SETTLE_COMPLETE: the settle period of a bay ends (R61). -/
  | settleComplete (dt : Nat) (bay : BayNo)
  /-- LOAD_TIMER_EXPIRY: the load timer of a bay ends (R60). -/
  | loadTimerExpiry (dt : Nat) (bay : BayNo)
  /-- PARK: PRK of a bay asserts (R69, R59). -/
  | park (dt : Nat) (bay : BayNo)
  /-- UNLOAD_DEADLINE_EXPIRY: the unload deadline of a bay ends (R71). -/
  | unloadDeadlineExpiry (dt : Nat) (bay : BayNo)
  /-- OFFSET_READING_COMPLETE: the converter's zero-current reading, in mA, is complete (R154). -/
  | offsetReadingComplete (dt : Nat) (bay : BayNo) (reading : Nat)
  /-- TEST_PULSE_END: the test pulse timer ends and the converter converts the current sense, in mA (R155). -/
  | testPulseEnd (dt : Nat) (bay : BayNo) (conversion : Nat)
  /-- MOTION_SAMPLE: the sensor's ready indication and its three axes in signed mg (R79). -/
  | motionSample (dt : Nat) (ready : Bool) (x y z : Int)
  /-- SENSOR_LOST: the missing samples that bring the missing-sample count to 20 (R80). -/
  | sensorLost (dt : Nat)
  /-- SUPPLY_READING: a reading of the 12 V rail in mV (R114). -/
  | supplyReading (dt : Nat) (millivolts : Nat)
  /-- QUIET_TIMER_EXPIRY: the quiet timer ends (R126). -/
  | quietTimerExpiry (dt : Nat)
  /-- COMMIT_COMPLETE: the commit engine finishes; the read-back matches the copy or differs (R171). -/
  | commitComplete (dt : Nat) (readBackMatches : Bool)
  /-- FRAME_DISCARD: a bad stop bit, or a LENGTH out of range (R175). -/
  | frameDiscard (dt : Nat) (cause : DiscardCause)
  /-- BYTE_GAP_TIMEOUT: more than 10 ms between bytes of a frame (R175). -/
  | byteGapTimeout (dt : Nat)
  /-- CRC_MISMATCH: a complete frame whose CRC fails (R176). -/
  | crcMismatch (dt : Nat)
  /-- UNKNOWN_KIND: a frame that passes its check and whose KIND names no request (R176). -/
  | unknownKind (dt : Nat) (kind : Byte) (req : Req)
  /-- TX_FRAME_END: the last byte of a frame leaves TXD (R181). -/
  | txFrameEnd (dt : Nat)
  /-- STATUS (R184). -/
  | status (dt : Nat) (req : Req)
  /-- VIEW BAY (R185). -/
  | viewBay (dt : Nat) (req : Req)
  /-- VIEW PIN (R186). -/
  | viewPin (dt : Nat) (req : Req)
  /-- VIEW UNPIN (R186). -/
  | viewUnpin (dt : Nat) (req : Req)
  /-- VIEW ENVIRONMENT (R151). -/
  | viewEnvironment (dt : Nat) (req : Req)
  /-- READ JOLTS (R98). -/
  | readJolts (dt : Nat) (req : Req)
  /-- SPIN UP (R53). -/
  | spinUp (dt : Nat) (req : Req)
  /-- SPIN DOWN (R55). -/
  | spinDown (dt : Nat) (req : Req)
  /-- LOAD (R76). -/
  | load (dt : Nat) (req : Req)
  /-- UNLOAD (R77). -/
  | unload (dt : Nat) (req : Req)
  /-- TEST WINDING (R152). -/
  | testWinding (dt : Nat) (req : Req)
  /-- RELEASE (R142). -/
  | release (dt : Nat) (req : Req)
  /-- CLEAR FAULTS (R145). -/
  | clearFaults (dt : Nat) (req : Req)
  /-- TAKE CONTEXT (R24). -/
  | takeContext (dt : Nat) (req : Req)
  /-- SET MASKS (R147). -/
  | setMasks (dt : Nat) (req : Req)
  /-- FORCE SAFE (R131). -/
  | forceSafe (dt : Nat) (req : Req)
  /-- LEAVE SAFE (R132). -/
  | leaveSafe (dt : Nat) (req : Req)
  /-- SET (R165). -/
  | setSetting (dt : Nat) (req : Req)
  /-- GET (R166). -/
  | getSetting (dt : Nat) (req : Req)
  /-- SET PROFILE (R161). -/
  | setProfile (dt : Nat) (req : Req)
  /-- GET PROFILE (R162). -/
  | getProfile (dt : Nat) (req : Req)
  /-- SET BAY (R163). -/
  | setBay (dt : Nat) (req : Req)
  /-- COMMIT (R170). -/
  | commit (dt : Nat) (req : Req)
  /-- RECALL (R172). -/
  | recall (dt : Nat) (req : Req)
  /-- RESTART (R174). -/
  | restart (dt : Nat) (req : Req)
  /-- RXD_BYTE: a byte with a good stop bit arrives on RXD (R175). -/
  | rxdByte (dt : Nat) (byte : Byte)
  /-- PRESENCE_DEBOUNCE_RESTART: a deasserted PRES sample of a VACANT bay (R8). -/
  | presenceDebounceRestart (dt : Nat) (bay : BayNo)
  deriving DecidableEq, Repr

end Sys2Proof
end

