-- ==== Sys2Proof/Decode.lean ====
section
/-! DEFINITION. The codes of the request kinds (R190), and the host's table-word decoder.

No row of spec/opcode_table.json gives bits, so no word spells a command there. The frames by which the host reaches
the part are decoded from bytes in Machine/Link.lean and Machine/Requests.lean, with the codes below. -/

namespace Sys2Proof

/-- The KIND code of a request (R190). -/
def ReqKind.code : ReqKind → Byte
  | .status => 0x01 | .viewBay => 0x02 | .viewPin => 0x03 | .viewUnpin => 0x04
  | .viewEnvironment => 0x05 | .readJolts => 0x06
  | .spinUp => 0x10 | .spinDown => 0x11 | .load => 0x12 | .unload => 0x13 | .testWinding => 0x14
  | .release => 0x15 | .clearFaults => 0x16 | .takeContext => 0x17 | .setMasks => 0x18
  | .forceSafe => 0x20 | .leaveSafe => 0x21
  | .setSetting => 0x30 | .getSetting => 0x31 | .setProfile => 0x32 | .getProfile => 0x33
  | .setBay => 0x34 | .commit => 0x35 | .recall => 0x36 | .restart => 0x37

/-- The number of body bytes of a request (R190). -/
def ReqKind.bodyLen : ReqKind → Nat
  | .status | .viewPin | .viewUnpin | .viewEnvironment | .forceSafe | .leaveSafe
  | .commit | .recall | .restart => 0
  | .viewBay | .readJolts | .takeContext | .getSetting | .getProfile => 1
  | .spinDown | .load | .testWinding | .release | .setMasks | .setBay => 2
  | .spinUp | .unload | .clearFaults | .setSetting => 3
  | .setProfile => 19

/-- The twenty-five kinds, for the search by code. -/
def ReqKind.all : List ReqKind :=
  [.status, .viewBay, .viewPin, .viewUnpin, .viewEnvironment, .readJolts,
   .spinUp, .spinDown, .load, .unload, .testWinding, .release, .clearFaults, .takeContext, .setMasks,
   .forceSafe, .leaveSafe,
   .setSetting, .getSetting, .setProfile, .getProfile, .setBay, .commit, .recall, .restart]

/-- The request a KIND names, if it names one (R176). -/
def ReqKind.ofCode? (kind : Byte) : Option ReqKind :=
  ReqKind.all.find? (fun k => k.code == kind)

/-- The command a table word spells: the table gives no row any bits, so none. -/
def decodeTableWord (_nbits _w : Nat) : Option Instr := none

end Sys2Proof
end

