-- ==== Sys2Proof/Config.lean ====
section
/-! DEFINITION. The free values: what the manual leaves open and no proof can see. -/

namespace Sys2Proof.Config

/-- Free value (log 8). The speed that two TACH pulses with the same µs time stamp give, by the pulses per
revolution: R11 divides by an interval of 0 there and states no result. The model limits it to 65535 rpm, as R11
limits every speed. -/
opaque speedOfZeroInterval : Nat → Nat

/-- Free value (log 9). The order in which holders that receive one event without an order among them take it (R182):
at the model's free-value count `tick`, the place chosen for the `k`-th holder among those after it. -/
opaque holderOrder : Nat → Nat → Nat

end Sys2Proof.Config
end

