-- ==== Sys2Proof/Machine/Bits.lean ====
section
/-! DEFINITION. Bit fields, byte order and the CRC-16 of the link and the store image. -/

namespace Sys2Proof.Machine

/-- The sixteen bays in ascending order: the order in which a bay set is handled (00_scope.md, Bay sets). -/
def allBays : List BayNo := [0, 1, 2, 3, 4, 5, 6, 7, 8, 9, 10, 11, 12, 13, 14, 15]

/-- Bit `k` of a field of `w` bits. -/
def bitAt (w k : Nat) : BitVec w := 1#w <<< k

/-- Whether a bay stands in a set (R188). -/
def inSet (set : BaySet) (b : BayNo) : Bool := set.getLsbD b.val

/-- A set with one more bay. -/
def addToSet (set : BaySet) (b : BayNo) : BaySet := set ||| bitAt 16 b.val

/-- The set of the bays that satisfy `p`. -/
def baySetOf (p : BayNo → Bool) : BaySet :=
  allBays.foldl (fun set b => if p b then addToSet set b else set) 0

/-- A number sent in one byte. -/
def byteOf (n : Nat) : Byte := BitVec.ofNat 8 n

/-- A 16-bit field, least significant byte first (R188). -/
def le16 (w : Word16) : List Byte := [w.extractLsb' 0 8, w.extractLsb' 8 8]

/-- A 32-bit field, least significant byte first (R188). -/
def le32 (w : Word32) : List Byte :=
  [w.extractLsb' 0 8, w.extractLsb' 8 8, w.extractLsb' 16 8, w.extractLsb' 24 8]

/-- A number sent in two bytes. -/
def le16OfNat (n : Nat) : List Byte := le16 (BitVec.ofNat 16 n)

/-- The 16-bit field that two bytes carry, low byte first (R188). -/
def word16 (lo hi : Byte) : Word16 := hi ++ lo

/-- `k` bits of the CRC-16 with polynomial 0x1021, not reflected (R176). -/
def crcBits : Nat → Word16 → Word16
  | 0, crc => crc
  | k + 1, crc => if crc.msb then crcBits k ((crc <<< 1) ^^^ 0x1021) else crcBits k (crc <<< 1)

/-- One byte of the CRC. -/
def crcByte (crc : Word16) (b : Byte) : Word16 :=
  crcBits 8 (crc ^^^ (b.zeroExtend 16 <<< 8))

/-- The CRC-16 of R176: initial value 0xFFFF, final XOR 0x0000. -/
def crc16 (bytes : List Byte) : Word16 := bytes.foldl crcByte 0xFFFF

end Sys2Proof.Machine
end

