-- ==== Sys2Proof/Machine/Types.lean ====
section
/-! DEFINITION. The names and the plain records of the TB16: bay states, intents, classes, profiles and settings. -/

namespace Sys2Proof.Machine

/-- The thirteen bay states, in the order of R1. -/
inductive BayState where
  | vacant | stopped | queued | spinningUp | spun | loading | loaded | parkQueued | unloading
  | spinningDown | diag | held | fenced
  deriving DecidableEq, Repr

/-- What a bay does after its unload or spin-down (R18). -/
inductive Intent where
  | none | stopAfter | holdAfter | respin
  deriving DecidableEq, Repr

/-- The outcome of the last winding test (R22). -/
inductive WindingResult where
  | none | pass | openCircuit | shortCircuit | aborted
  deriving DecidableEq, Repr

/-- The kind of a spin-up queue entry (R28). -/
inductive EntryKind where
  | spin | test
  deriving DecidableEq, Repr

/-- The seven bay fault classes, in the order of R133. -/
inductive BayFault where
  | spinStall | spinSlow | speedLoss | loadLate | unloadLate | winding | pulled
  deriving DecidableEq, Repr

/-- The six case fault classes, in the order of R133. -/
inductive CaseFault where
  | supplyLow | supplyCut | sensorLost | joltLoaded | storeBad | quiet
  deriving DecidableEq, Repr

/-- The events of a bay, in the order of R192. -/
inductive BayEvent where
  | present | vacant | spun | loaded | parked | stopped | held | fenced | testDone | loadRefused
  deriving DecidableEq, Repr

/-- The events of the case, in the order of R192. -/
inductive CaseEvent where
  | started | safeEntered | safeLeft | motionChanged | supplyChanged | joltOpened | joltClosed
  | committed | commitFailed
  deriving DecidableEq, Repr

/-- The motion class (R84). -/
inductive MotionClass where
  | unsettled | still | rolling
  deriving DecidableEq, Repr

/-- The supply class (R115). -/
inductive SupplyClass where
  | normal | low | cut
  deriving DecidableEq, Repr

/-- The transit mode (R127). -/
inductive TransitMode where
  | normal | transitSafe
  deriving DecidableEq, Repr

/-- The arbiter mode (R36, setting 4). -/
inductive ArbiterMode where
  | arrival | rotate | ranked
  deriving DecidableEq, Repr

/-- The rolling policy (R88, setting 8). -/
inductive RollingPolicy where
  | keep | park | parkAndStop
  deriving DecidableEq, Repr

/-- The kinds of sweep (R101). -/
inductive SweepKind where
  | jolt | park | parkAndStop | sensorLost | transit | cut
  deriving DecidableEq, Repr

/-- The status codes (R178), which also stand as the outcome of a single bay. -/
inductive Status where
  | done | accepted | partly | kept | busy | state | motion | safeMode | supply | pending | exposed
  | argument | unknown | store
  deriving DecidableEq, Repr

/-- The eleven fields of a profile (R160); the speed window is the two values `speedLow` and `speedHigh`. -/
structure Profile where
  surgeCost      : Nat
  pulsesPerRev   : Nat
  speedLow       : Nat
  speedHigh      : Nat
  tachFirst      : Nat
  holdTime       : Nat
  retryLimit     : Nat
  rank           : Nat
  loadTimeout    : Nat
  loadSettle     : Nat
  unloadDeadline : Nat
  stopTimeout    : Nat
  deriving DecidableEq, Repr

/-- The twenty-one case settings, in the order of R164. -/
structure CaseSettings where
  surgeBudget      : Nat
  leanBudget       : Nat
  concurrencyLimit : Nat
  arbiterMode      : ArbiterMode
  skipLimit        : Nat
  unloadWidth      : Nat
  originRotation   : Bool
  rollingPolicy    : RollingPolicy
  spinWhileRolling : Bool
  joltThreshold    : Nat
  rollThreshold    : Nat
  rollCount        : Nat
  stillnessDwell   : Nat
  supplyLow        : Nat
  supplyCutoff     : Nat
  quietCode        : Nat
  exposureLimit    : Nat
  commonProfile    : Bool
  testPulseWidth   : Nat
  openThreshold    : Nat
  shortThreshold   : Nat
  deriving DecidableEq, Repr

/-- The working settings: what COMMIT copies and the store image holds (R168, R170). A set mask bit means masked;
bit k is the k-th class of R133. -/
structure WorkingSettings where
  case       : CaseSettings
  masks      : BitVec 13
  profiles   : Vector Profile 8
  selections : Vector (Fin 8) 16
  deriving DecidableEq, Repr

/-- The store image (R168): its values, followed by their CRC-16 as it stands in the store. -/
structure StoreImage where
  values : WorkingSettings
  crc    : Word16
  deriving DecidableEq, Repr

/-- One valid motion sample, in signed mg (R79). -/
structure Accel where
  x : Int
  y : Int
  z : Int
  deriving DecidableEq, Repr

end Sys2Proof.Machine
end

