-- ==== Sys2Proof/Machine/Defaults.lean ====
section
/-! DEFINITION. The factory defaults and the fixed lengths that the manual states. -/

namespace Sys2Proof.Machine

/-- The factory profile (R160). -/
def Profile.factory : Profile where
  surgeCost := 8
  pulsesPerRev := 2
  speedLow := 7020
  speedHigh := 7380
  tachFirst := 1000
  holdTime := 12
  retryLimit := 3
  rank := 0
  loadTimeout := 1500
  loadSettle := 200
  unloadDeadline := 150
  stopTimeout := 30

/-- The factory case settings (R164). -/
def CaseSettings.factory : CaseSettings where
  surgeBudget := 24
  leanBudget := 8
  concurrencyLimit := 4
  arbiterMode := .arrival
  skipLimit := 3
  unloadWidth := 4
  originRotation := true
  rollingPolicy := .park
  spinWhileRolling := false
  joltThreshold := 3000
  rollThreshold := 150
  rollCount := 8
  stillnessDwell := 3000
  supplyLow := 11000
  supplyCutoff := 10000
  quietCode := 4
  exposureLimit := 0
  commonProfile := false
  testPulseWidth := 5
  openThreshold := 100
  shortThreshold := 3000

/-- The default masks (R133): SPIN_STALL, SPIN_SLOW, LOAD_LATE and SUPPLY_LOW masked, classes 0, 1, 3 and 7. -/
def factoryMasks : BitVec 13 := 0b0000010001011

/-- The factory defaults (R168): every bay selection is 0. -/
def WorkingSettings.factory : WorkingSettings where
  case := .factory
  masks := factoryMasks
  profiles := Vector.replicate 8 Profile.factory
  selections := Vector.replicate 16 0

/-- One millisecond, in µs. -/
def ms : Nat := 1000

/-- The presence debounce: 500 samples, one every 1 ms (R8). -/
def debounceLength : Nat := 500 * ms

/-- The speed-loss gap (R14). -/
def speedLossGapLength : Nat := 500 * ms

/-- The stop gap (R49). -/
def stopGapLength : Nat := 1000 * ms

/-- The longest interval between two TACH pulses that gives a measurement (R11). -/
def tachLongest : Nat := 1000 * ms

/-- The offset reading of the converter (R154). -/
def offsetLength : Nat := 1 * ms

/-- The period of the motion samples, 2.5 ms (R79). -/
def samplePeriod : Nat := 2500

/-- The period of the supply readings and of the PRES samples (R114, R8). -/
def readingPeriod : Nat := ms

/-- The first µs at which more than 10 ms have passed since the end of a byte (R175). -/
def byteGap : Nat := 10 * ms + 1

/-- The span after the last jolt in which another merges into its record (R89). -/
def joltMergeSpan : Nat := 200 * ms

/-- The switch limit per su, in mA (R16). -/
def milliampPerSu : Nat := 250

/-- The switch limit of a test pulse, in mA (R16). -/
def testPulseLimit : Nat := 8000

end Sys2Proof.Machine
end

