-- ==== Sys2Proof/Machine/Image.lean ====
section
/-! DEFINITION. The bytes of profiles, settings and the store image, and the CRC of the image (R168, R188, R191). -/

namespace Sys2Proof.Machine

/-- The value of an arbiter mode. -/
def ArbiterMode.value : ArbiterMode → Nat
  | .arrival => 0 | .rotate => 1 | .ranked => 2

/-- The value of a rolling policy. -/
def RollingPolicy.value : RollingPolicy → Nat
  | .keep => 0 | .park => 1 | .parkAndStop => 2

/-- The value of a setting, by its number (R164); 0 for a number that names none. -/
def CaseSettings.get (c : CaseSettings) (number : Nat) : Nat :=
  match number with
  | 1 => c.surgeBudget
  | 2 => c.leanBudget
  | 3 => c.concurrencyLimit
  | 4 => c.arbiterMode.value
  | 5 => c.skipLimit
  | 6 => c.unloadWidth
  | 7 => c.originRotation.toNat
  | 8 => c.rollingPolicy.value
  | 9 => c.spinWhileRolling.toNat
  | 10 => c.joltThreshold
  | 11 => c.rollThreshold
  | 12 => c.rollCount
  | 13 => c.stillnessDwell
  | 14 => c.supplyLow
  | 15 => c.supplyCutoff
  | 16 => c.quietCode
  | 17 => c.exposureLimit
  | 18 => c.commonProfile.toNat
  | 19 => c.testPulseWidth
  | 20 => c.openThreshold
  | 21 => c.shortThreshold
  | _ => 0

/-- The profile image, 18 bytes (R191). -/
def Profile.image (p : Profile) : List Byte :=
  [byteOf p.surgeCost, byteOf p.pulsesPerRev] ++ le16OfNat p.speedLow ++ le16OfNat p.speedHigh
    ++ le16OfNat p.tachFirst ++ [byteOf p.holdTime, byteOf p.retryLimit, byteOf p.rank]
    ++ le16OfNat p.loadTimeout ++ le16OfNat p.loadSettle ++ le16OfNat p.unloadDeadline
    ++ [byteOf p.stopTimeout]

/-- The contents of the store image as bytes, in the order of R168: the twenty-one settings, the masks, the eight
profiles and the sixteen selections, each in the bytes that the link sends for it (log 6). -/
def WorkingSettings.bytes (w : WorkingSettings) : List Byte :=
  (List.range 21).flatMap (fun k => le16OfNat (w.case.get (k + 1))) ++ le16 (w.masks.zeroExtend 16)
    ++ w.profiles.toList.flatMap Profile.image ++ w.selections.toList.map (fun p => byteOf p.val)

/-- The CRC-16 over all of the contents (R168): the CRC of R176. -/
def WorkingSettings.crc (w : WorkingSettings) : Word16 := crc16 w.bytes

/-- The image that a whole write leaves: the values with their CRC (R168, R171). -/
def StoreImage.written (w : WorkingSettings) : StoreImage where
  values := w
  crc := w.crc

/-- An image marked invalid (R171), or one that failed its read-back: its CRC is the complement of the one that would
match, so that it fails its check (log 6, log 7). -/
def StoreImage.spoiled (i : StoreImage) : StoreImage where
  values := i.values
  crc := ~~~ i.values.crc

/-- The image of a new part, which fails its check (R168); its values are the factory defaults (log 6). -/
def StoreImage.newPart : StoreImage := (StoreImage.written .factory).spoiled

end Sys2Proof.Machine
end

