-- ==== Sys2Proof/Machine/State.lean ====
section
/-! DEFINITION. The state of the TB16 as plain data, block by block (00_scope.md, Block Overview), the reasons a step
can stop, and the state after reset. -/

namespace Sys2Proof.Machine

/-- The timers of one bay (R3), each the time in µs at which it falls due, absent while it does not run. The presence
debounce is due at the 500th consecutive asserted sample (R8). -/
structure Timers where
  debounce       : Option Nat
  tachFirst      : Option Nat
  hold           : Option Nat
  gap            : Option Nat
  load           : Option Nat
  settle         : Option Nat
  unloadDeadline : Option Nat
  stopGap        : Option Nat
  stopTimeout    : Option Nat
  testPulse      : Option Nat
  deriving DecidableEq, Repr

/-- One bay: the record of R4 with what its sequencer and its lines hold. The selected profile is held in the working
settings, and the queue entry in the arbiter's queue. -/
structure BayRec where
  state          : BayState
  entryTime      : Word32
  presence       : Bool
  latched        : Option Profile
  attempts       : Nat
  lastSpinUp     : Option Nat
  speed          : Option Nat
  spindleOn      : Bool
  intent         : Intent
  loadOnArrival  : Bool
  sticky         : Byte
  pending        : Byte
  winding        : WindingResult
  windingCurrent : Option Nat
  joltsLoaded    : Nat
  joltsParked    : Nat
  joltsStopped   : Nat
  rollsLoaded    : Nat
  /-- The case clock at the SPIN grant (R40). -/
  grantTime      : Word32
  /-- The time stamp of the last TACH pulse, µs (R11). -/
  lastPulse      : Option Nat
  /-- Consecutive measurements inside the window, in SPINNING_UP (R13). -/
  atSpeed        : Nat
  /-- The speed-loss detector (R14). -/
  armed          : Bool
  /-- Consecutive measurements outside the window, while armed (R14). -/
  outside        : Nat
  /-- SPEN: the switch limit in mA while it is asserted (R15, R16). -/
  spen           : Option Nat
  /-- HLD asserted (R15). -/
  hld            : Bool
  /-- The level of the PRK input: asserted (R59, R69). -/
  prk            : Bool
  timers         : Timers
  deriving DecidableEq, Repr

/-- One spin-up queue entry (R28). Its load-after is the bay's load-on-arrival flag for a SPIN entry and no for a TEST
entry (R19). -/
structure SpinEntry where
  bay  : BayNo
  kind : EntryKind
  skip : Nat
  deriving DecidableEq, Repr

/-- The current-measurement converter (R153, R154). -/
structure Converter where
  holder    : Option BayNo
  offsetDue : Option Nat
  offset    : Option Nat
  deriving DecidableEq, Repr

/-- The Admission Arbiter (R28, R31, R153). -/
structure Arbiter where
  queue     : List SpinEntry
  held      : Nat
  grants    : Nat
  pointer   : BayNo
  converter : Converter
  deriving DecidableEq, Repr

/-- The Unload Scheduler (R62, R64, R100). The queue is the emergency section followed by the ordinary section. -/
structure Scheduler where
  emergency : List BayNo
  ordinary  : List BayNo
  unloading : Nat
  origin    : BayNo
  pointer   : BayNo
  deriving DecidableEq, Repr

/-- A jolt record (R92). -/
structure JoltRec where
  isOpen      : Bool
  time        : Word32
  peak        : Nat
  count       : Nat
  classBefore : MotionClass
  loaded      : BaySet
  parked      : BaySet
  late        : BaySet
  pulled      : BaySet
  duration    : Option Nat
  deriving DecidableEq, Repr

/-- The Motion Monitor (R96). Lists run from the oldest to the newest. -/
structure Motion where
  cls         : MotionClass
  ring        : List Nat
  lastSamples : List Accel
  /-- The time in µs at which the dwell timer last restarted (R86). -/
  dwellStart  : Nat
  missing     : Nat
  lost        : Bool
  /-- The time in µs of the last jolt sample (R89; log 17). -/
  lastJolt    : Option Nat
  jolts       : List JoltRec
  opened      : Word16
  /-- The earliest time in µs of the next sample (R79). -/
  nextSample  : Nat
  deriving DecidableEq, Repr

/-- The Supply Monitor (R114). No last reading is the no-reading condition. -/
structure Supply where
  lastReading : Option Nat
  cls         : SupplyClass
  budget      : Nat
  /-- The earliest time in µs of the next reading; absent until the start-up load has ended (R114). -/
  nextReading : Option Nat
  deriving DecidableEq, Repr

/-- The Transit Safety Unit (R124, R127). -/
structure Transit where
  mode     : TransitMode
  quietDue : Option Nat
  deriving DecidableEq, Repr

/-- The Fault Unit (R134); the masks are in the working settings. -/
structure FaultUnit where
  caseSticky  : Byte
  casePending : Byte
  attn        : Bool
  deriving DecidableEq, Repr

/-- The Settings Store (R168–R170). -/
structure Store where
  working : WorkingSettings
  image   : StoreImage
  /-- The copy being written, while a commit is in progress (R170). -/
  commit  : Option WorkingSettings
  /-- The start-up load is running (R169). -/
  loading : Bool
  deriving DecidableEq, Repr

/-- A source of notices (R182). -/
inductive Source where
  | bay (b : BayNo)
  | theCase
  deriving DecidableEq, Repr

/-- An entry of the notice queue (R182), with the result that a TEST_DONE in its set carries. -/
structure Notice where
  source   : Source
  state    : Byte
  events   : Word16
  testDone : WindingResult
  faults   : Byte
  deriving DecidableEq, Repr

/-- A reply (R177). -/
structure Reply where
  kind    : Byte
  tag     : Byte
  status  : Status
  summary : Byte
  body    : List Byte
  deriving DecidableEq, Repr

/-- The frame leaving on TXD (R181), and the time at which its last byte has left. -/
structure TxFrame where
  bytes   : List Byte
  isReply : Bool
  due     : Nat
  deriving DecidableEq, Repr

/-- The receiver (R175): hunting, or inside a frame with the bytes received after SYNC, LENGTH first. -/
inductive Receiver where
  | hunting
  | inside (received : List Byte)
  deriving DecidableEq, Repr

/-- The Link Interface (chapter 10). -/
structure Link where
  rx      : Receiver
  /-- The time in µs at which the byte-gap watch of the frame being received falls due (R175). -/
  gapDue  : Option Nat
  slot    : Option Reply
  tx      : Option TxFrame
  notices : List Notice
  /-- The VIEW cursor, 0 to 16 (R185). -/
  cursor  : Fin 17
  /-- The cursor saved by VIEW PIN, while the pin is set (R186). -/
  pin     : Option (Fin 17)
  deriving DecidableEq, Repr

/-- The state of the TB16. -/
structure State where
  /-- Time in µs since power-on: the case clock in ms and the µs count of the TACH time stamps are read from it. -/
  now       : Nat
  bays      : Vector BayRec 16
  arbiter   : Arbiter
  scheduler : Scheduler
  motion    : Motion
  supply    : Supply
  transit   : Transit
  faults    : FaultUnit
  store     : Store
  link      : Link
  /-- The model's own count of free values taken (log 9). -/
  freeTick  : Nat
  /-- The commands that wait, oldest first. -/
  pending   : List Instr
  deriving DecidableEq, Repr

/-- The reasons a step stops with a fault: none. Every command has an effect in every state, so no arm of the machine
raises a fault; the fault classes of R133 are data of the machine. -/
inductive Fault where
  deriving DecidableEq, Repr

/-- The reasons a step is refused. -/
inductive Refusal where
  /-- A command without a meaning in this model, by its mnemonic: raised only by a refused arm of `exec`. Safe: it
  proves nothing about the hardware. No arm of this model is refused. -/
  | notModelled (mnemonic : String)
  deriving DecidableEq, Repr

/-- No timer runs. -/
def Timers.stopped : Timers where
  debounce := none
  tachFirst := none
  hold := none
  gap := none
  load := none
  settle := none
  unloadDeadline := none
  stopGap := none
  stopTimeout := none
  testPulse := none

/-- A bay after power-on (R26). -/
def BayRec.reset : BayRec where
  state := .vacant
  entryTime := 0
  presence := false
  latched := none
  attempts := 0
  lastSpinUp := none
  speed := none
  spindleOn := false
  intent := .none
  loadOnArrival := false
  sticky := 0
  pending := 0
  winding := .none
  windingCurrent := none
  joltsLoaded := 0
  joltsParked := 0
  joltsStopped := 0
  rollsLoaded := 0
  grantTime := 0
  lastPulse := none
  atSpeed := 0
  armed := false
  outside := 0
  spen := none
  hld := false
  prk := false
  timers := { Timers.stopped with debounce := some debounceLength }

/-- The converter free (R153). -/
def Converter.free : Converter where
  holder := none
  offsetDue := none
  offset := none

/-- The arbiter after power-on and RESTART (R31, R153). -/
def Arbiter.reset : Arbiter where
  queue := []
  held := 0
  grants := 0
  pointer := 15
  converter := .free

/-- The scheduler after power-on and RESTART (R63, R100). -/
def Scheduler.reset : Scheduler where
  emergency := []
  ordinary := []
  unloading := 0
  origin := 0
  pointer := 0

/-- The Motion Monitor after power-on (R96); the first sample falls at 2.5 ms (R79). -/
def Motion.reset : Motion where
  cls := .unsettled
  ring := []
  lastSamples := []
  dwellStart := 0
  missing := 0
  lost := false
  lastJolt := none
  jolts := []
  opened := 0
  nextSample := samplePeriod

/-- The Supply Monitor in its no-reading condition (R114). -/
def Supply.reset : Supply where
  lastReading := none
  cls := .cut
  budget := 0
  nextReading := none

/-- The Transit Safety Unit after power-on (R127). -/
def Transit.reset : Transit where
  mode := .normal
  quietDue := none

/-- The Fault Unit after power-on (R134). -/
def FaultUnit.reset : FaultUnit where
  caseSticky := 0
  casePending := 0
  attn := false

/-- The Settings Store of a new part after power-on, the start-up load running (R168, R169). -/
def Store.reset : Store where
  working := .factory
  image := .newPart
  commit := none
  loading := true

/-- The Link Interface after power-on (R175, R177, R183, R185). -/
def Link.reset : Link where
  rx := .hunting
  gapDue := none
  slot := none
  tx := none
  notices := []
  cursor := 0
  pin := none

/-- A new part right after power-on (R26), with an empty queue of commands. -/
def State.reset : State where
  now := 0
  bays := Vector.replicate 16 BayRec.reset
  arbiter := .reset
  scheduler := .reset
  motion := .reset
  supply := .reset
  transit := .reset
  faults := .reset
  store := .reset
  link := .reset
  freeTick := 0
  pending := []

end Sys2Proof.Machine
end

