-- ==== Sys2Proof/Machine/Flags.lean ====
section
/-! DEFINITION. The codes of the enumerations, the bits of the fault, mask and event fields, and the flag bytes
(R133, R178, R179, R188, R190, R192). -/

namespace Sys2Proof.Machine

/-- The code of a bay state: its position in R1 (R188). -/
def BayState.code : BayState → Byte
  | .vacant => 0 | .stopped => 1 | .queued => 2 | .spinningUp => 3 | .spun => 4 | .loading => 5
  | .loaded => 6 | .parkQueued => 7 | .unloading => 8 | .spinningDown => 9 | .diag => 10
  | .held => 11 | .fenced => 12

/-- Intent is 0 NONE to 3 RESPIN (R188). -/
def Intent.code : Intent → Byte
  | .none => 0 | .stopAfter => 1 | .holdAfter => 2 | .respin => 3

/-- Winding result is 0 NONE to 4 ABORTED (R188). -/
def WindingResult.code : WindingResult → Byte
  | .none => 0 | .pass => 1 | .openCircuit => 2 | .shortCircuit => 3 | .aborted => 4

/-- Motion class is 0 UNSETTLED, 1 STILL, 2 ROLLING (R188). -/
def MotionClass.code : MotionClass → Byte
  | .unsettled => 0 | .still => 1 | .rolling => 2

/-- Supply class is 0 NORMAL, 1 LOW, 2 CUT (R188). -/
def SupplyClass.code : SupplyClass → Byte
  | .normal => 0 | .low => 1 | .cut => 2

/-- Transit mode is 0 NORMAL, 1 TRANSIT_SAFE (R190). -/
def TransitMode.code : TransitMode → Byte
  | .normal => 0 | .transitSafe => 1

/-- The status codes (R190). -/
def Status.code : Status → Byte
  | .done => 0x00 | .accepted => 0x01 | .partly => 0x02 | .kept => 0x03 | .busy => 0x04
  | .state => 0x05 | .motion => 0x06 | .safeMode => 0x07 | .supply => 0x08 | .pending => 0x09
  | .exposed => 0x0A | .argument => 0x0B | .unknown => 0x0C | .store => 0x0D

/-- The position of a bay class in R133, which is also its bit in a bay fault set (R188). -/
def BayFault.index : BayFault → Nat
  | .spinStall => 0 | .spinSlow => 1 | .speedLoss => 2 | .loadLate => 3 | .unloadLate => 4
  | .winding => 5 | .pulled => 6

/-- The bit of a case class in a case fault set (R188). -/
def CaseFault.index : CaseFault → Nat
  | .supplyLow => 0 | .supplyCut => 1 | .sensorLost => 2 | .joltLoaded => 3 | .storeBad => 4
  | .quiet => 5

/-- The bit of a bay class in a fault set. -/
def BayFault.bit (c : BayFault) : Byte := bitAt 8 c.index

/-- The bit of a case class in a fault set. -/
def CaseFault.bit (c : CaseFault) : Byte := bitAt 8 c.index

/-- Whether a bay class is masked: the bay classes are bits 0 to 6 of the mask field (R188). -/
def BayFault.maskedBy (masks : BitVec 13) (c : BayFault) : Bool := masks.getLsbD c.index

/-- Whether a case class is masked: the case classes follow the bay classes in one run (R188). -/
def CaseFault.maskedBy (masks : BitVec 13) (c : CaseFault) : Bool := masks.getLsbD (7 + c.index)

/-- The bit of a bay event (R192). -/
def BayEvent.bit : BayEvent → Word16
  | .present => bitAt 16 0 | .vacant => bitAt 16 1 | .spun => bitAt 16 2 | .loaded => bitAt 16 3
  | .parked => bitAt 16 4 | .stopped => bitAt 16 5 | .held => bitAt 16 6 | .fenced => bitAt 16 7
  | .testDone => bitAt 16 8 | .loadRefused => bitAt 16 9

/-- The bit of a case event (R192). -/
def CaseEvent.bit : CaseEvent → Word16
  | .started => bitAt 16 0 | .safeEntered => bitAt 16 1 | .safeLeft => bitAt 16 2
  | .motionChanged => bitAt 16 3 | .supplyChanged => bitAt 16 4 | .joltOpened => bitAt 16 5
  | .joltClosed => bitAt 16 6 | .committed => bitAt 16 7 | .commitFailed => bitAt 16 8

/-- A flag as the bit `k` of a byte. -/
def flagBit (k : Nat) (f : Bool) : Byte := if f then bitAt 8 k else 0

/-- ATTN's condition: the case pending set or the pending set of some bay is not empty (R138). -/
def State.anyPending (s : State) : Bool :=
  s.faults.casePending != 0 || s.bays.any (fun r => r.pending != 0)

/-- The SUMMARY byte (R179, R190), with the notice-waiting item given. -/
def State.summary (s : State) (noticeWaiting : Bool) : Byte :=
  s.transit.mode.code ||| (s.motion.cls.code <<< 1) ||| (s.supply.cls.code <<< 3)
    ||| flagBit 5 s.faults.attn ||| flagBit 6 noticeWaiting ||| flagBit 7 s.store.loading

/-- The bays whose pending set is not empty (R150). -/
def State.baysWithPending (s : State) : BaySet := baySetOf (fun b => s.bays[b].pending != 0)

end Sys2Proof.Machine
end

