-- ==== Sys2Proof/Machine/Ops.lean ====
section
/-! DEFINITION. The named operations that every family shares: time, bay records, profiles, notices, fault reports and
the change of a bay's state. -/

namespace Sys2Proof.Machine

/-! ### Time -/

/-- The case clock at a time in µs: milliseconds, wrapping at 2^32 (00_scope.md, Conventions). -/
def caseClock (now : Nat) : Word32 := BitVec.ofNat 32 (now / ms)

/-- The case clock of a state. -/
def State.clock (s : State) : Word32 := caseClock s.now

/-- `dt` µs pass. -/
def State.elapse (dt : Nat) (s : State) : State := { s with now := s.now + dt }

/-- Time goes on to `t`, if it has not passed it: an event takes place no earlier than its due time (log 2). -/
def State.advanceTo (t : Nat) (s : State) : State := { s with now := max s.now t }

/-- The first multiple of `period` at or after `t`. -/
def markAt (period t : Nat) : Nat := (t + period - 1) / period * period

/-- Time goes on to the first mark of `period` at or after the present and `earliest` (log 3). -/
def State.toMark (period earliest : Nat) (s : State) : State :=
  { s with now := markAt period (max s.now earliest) }

/-! ### Bay records -/

/-- The record of a bay. -/
def State.bay (s : State) (b : BayNo) : BayRec := s.bays[b]

/-- The record of a bay changed by `f`. -/
def State.modBay (b : BayNo) (f : BayRec → BayRec) (s : State) : State :=
  { s with bays := s.bays.set b.val (f (s.bay b)) b.isLt }

/-- Every record changed by `f`. -/
def State.modBays (f : BayRec → BayRec) (s : State) : State := { s with bays := s.bays.map f }

/-- The bays taken one after the other, in ascending order. -/
def State.forBays (f : BayNo → State → State) (s : State) : State :=
  allBays.foldl (fun s b => f b s) s

/-- The case settings in force. -/
def State.settings (s : State) : CaseSettings := s.store.working.case

/-- The effective profile of a bay (R5). -/
def State.effective (s : State) (b : BayNo) : Profile :=
  if s.settings.commonProfile then s.store.working.profiles[0]
  else s.store.working.profiles[s.store.working.selections[b]]

/-- The profile that governs a bay: the latched copy while it is present, the effective profile otherwise (R5). -/
def State.governing (s : State) (b : BayNo) : Profile :=
  (s.bay b).latched.getD (s.effective b)

/-- The loaded condition: LOADING, LOADED, PARK_QUEUED, UNLOADING (R23, chapter 3). -/
def BayState.inLoadedCondition : BayState → Bool
  | .loading | .loaded | .parkQueued | .unloading => true
  | .vacant | .stopped | .queued | .spinningUp | .spun | .spinningDown | .diag | .held | .fenced => false

/-! ### Notices (R182) -/

/-- The byte that stands for the state of a source (R182, R192). -/
def State.sourceState (s : State) (noticeWaiting : Bool) : Source → Byte
  | .bay b => (s.bay b).state.code
  | .theCase => s.summary noticeWaiting

/-- A new entry: the source and its state, and empty sets. -/
def Notice.fresh (src : Source) (st : Byte) : Notice where
  source := src
  state := st
  events := 0
  testDone := .none
  faults := 0

/-- An addition to a source: in place where the source has an entry, in a new entry at the tail otherwise (R182). -/
def addToNotices (src : Source) (st : Byte) (f : Notice → Notice) (ns : List Notice) : List Notice :=
  if ns.any (fun n => n.source == src) then
    ns.map (fun n => if n.source == src then f { n with state := st } else n)
  else ns ++ [f (Notice.fresh src st)]

/-- An addition to the notice queue, with the source's current state (log 14). -/
def State.addNotice (src : Source) (f : Notice → Notice) (s : State) : State :=
  { s with link := { s.link with notices := addToNotices src (s.sourceState true src) f s.link.notices } }

/-- An event of a bay; TEST_DONE carries the winding result as the record holds it (R156, R182). -/
def State.addBayEvent (b : BayNo) (e : BayEvent) (s : State) : State :=
  s.addNotice (.bay b) fun n =>
    { n with
      events := n.events ||| e.bit
      testDone := if e = .testDone then (s.bay b).winding else n.testDone }

/-- An event of the case. -/
def State.addCaseEvent (e : CaseEvent) (s : State) : State :=
  s.addNotice .theCase fun n => { n with events := n.events ||| e.bit }

/-- A list in the order that `choice` names: each entry is put at a chosen place among those after it. -/
def freelyOrdered {α : Type} (choice : Nat → Nat) : List α → List α
  | [] => []
  | [a] => [a]
  | a :: rest =>
    let ordered := freelyOrdered (fun k => choice (k + 1)) rest
    let place := choice 0 % (ordered.length + 1)
    ordered.take place ++ a :: ordered.drop place

/-- An event taken by one holder after the other, each whole. -/
def State.inTurn (holders : List (State → State)) (s : State) : State := holders.foldl (fun s h => h s) s

/-- An event whose holders take it in no order (R10, R48, R119, R130). They touch different state, so their listed order
gives every block (log 27). The notice queue is the one that a free order of the holders leaves: each holder's additions
stand in the order in which that holder makes them, and the order among holders alone is open (R182, log 9). -/
def State.inFreeOrder (holders : List (State → State)) (s : State) : State :=
  let t := s.inTurn holders
  { t with
    freeTick := t.freeTick + 1
    link := { t.link with
      notices := (s.inTurn (freelyOrdered (Config.holderOrder t.freeTick) holders)).link.notices } }

/-! ### Fault reports (R136–R138) -/

/-- ATTN recomputed (R138). -/
def State.recomputeAttn (s : State) : State :=
  { s with faults := { s.faults with attn := s.anyPending } }

/-- The Fault Unit's answer to a bay class: hold if the class is unmasked (R137). -/
def State.answersHold (c : BayFault) (s : State) : Bool := !c.maskedBy s.store.working.masks

/-- A report of a bay class (R136). -/
def State.reportBay (c : BayFault) (b : BayNo) (s : State) : State :=
  let s1 := s.modBay b (fun r => { r with sticky := r.sticky ||| c.bit })
  if s.answersHold c then
    ((s1.modBay b (fun r => { r with pending := r.pending ||| c.bit })).recomputeAttn).addNotice (.bay b)
      (fun n => { n with faults := n.faults ||| c.bit })
  else s1

/-- A report of a case class (R136). -/
def State.reportCase (c : CaseFault) (s : State) : State :=
  let s1 := { s with faults := { s.faults with caseSticky := s.faults.caseSticky ||| c.bit } }
  if c.maskedBy s.store.working.masks then s1
  else
    ({ s1 with faults := { s1.faults with casePending := s1.faults.casePending ||| c.bit } }.recomputeAttn).addNotice
      .theCase (fun n => { n with faults := n.faults ||| c.bit })

/-! ### The change of a bay's state (R2, R3, R15) -/

/-- States whose entry makes the latched profile absent (R5). -/
def BayState.dropsLatched : BayState → Bool
  | .stopped | .vacant | .fenced => true
  | .queued | .spinningUp | .spun | .loading | .loaded | .parkQueued | .unloading | .spinningDown
  | .diag | .held => false

/-- States whose entry makes the intent NONE (R18). -/
def BayState.clearsIntent : BayState → Bool
  | .spun | .stopped | .held | .fenced | .vacant => true
  | .queued | .spinningUp | .loading | .loaded | .parkQueued | .unloading | .spinningDown | .diag => false

/-- States whose entry clears the load-on-arrival flag (R19): the start of its load, HELD, FENCED, and VACANT, which
is entered by removal. -/
def BayState.clearsLoadOnArrival : BayState → Bool
  | .loading | .held | .fenced | .vacant => true
  | .stopped | .queued | .spinningUp | .spun | .loaded | .parkQueued | .unloading | .spinningDown
  | .diag => false

/-- The timers after a change of state (R3): those of the state left are cancelled, those of the state entered start,
and the speed-loss gap runs on among the states it belongs to. -/
def Timers.onEntry (st : BayState) (p : Profile) (prk : Bool) (now : Nat) (t : Timers) : Timers :=
  match st with
  | .vacant => { Timers.stopped with debounce := some (now / ms * ms + debounceLength) }
  | .spinningUp =>
    { Timers.stopped with
      tachFirst := some (now + p.tachFirst * ms)
      hold := some (now + p.holdTime * 1000 * ms) }
  | .spun => { Timers.stopped with gap := some (now + speedLossGapLength) }
  | .loading =>
    { Timers.stopped with
      gap := t.gap
      load := some (now + p.loadTimeout * ms)
      settle := if prk then none else some (now + p.loadSettle * ms) }
  | .loaded | .parkQueued => { Timers.stopped with gap := t.gap }
  | .unloading =>
    { Timers.stopped with gap := t.gap, unloadDeadline := some (now + p.unloadDeadline * ms) }
  | .spinningDown =>
    { Timers.stopped with
      stopGap := some (now + stopGapLength)
      stopTimeout := some (now + p.stopTimeout * 1000 * ms) }
  | .stopped | .queued | .diag | .held | .fenced => Timers.stopped

/-- The speed-loss detector after a change of state: armed by SPUN, kept in the loaded condition, disarmed elsewhere
(R14). -/
def BayState.armedOnEntry (st : BayState) (armed : Bool) : Bool :=
  match st with
  | .spun => true
  | .loading | .loaded | .parkQueued | .unloading => armed
  | .vacant | .stopped | .queued | .spinningUp | .spinningDown | .diag | .held | .fenced => false

/-- SPEN after a change of state (R15), with the switch limit of R16. -/
def BayState.spenOnEntry (st : BayState) (p : Profile) (spindleOn : Bool) : Option Nat :=
  match st with
  | .spinningUp | .spun | .loading | .loaded | .parkQueued | .unloading => some (p.surgeCost * milliampPerSu)
  | .held => if spindleOn then some (p.surgeCost * milliampPerSu) else none
  | .vacant | .stopped | .queued | .spinningDown | .diag | .fenced => none

/-- HLD after a change of state (R15). -/
def BayState.hldOnEntry : BayState → Bool
  | .loading | .loaded | .parkQueued => true
  | .vacant | .stopped | .queued | .spinningUp | .spun | .unloading | .spinningDown | .diag | .held
  | .fenced => false

/-- The record after a change of state, under the profile that governs the bay at the change. The at-speed count starts
at 0 in SPINNING_UP (R13), and SPUN clears the attempt count (R6). R14 gives the speed-loss count no start value: that it
is 0 at every entry into SPUN, also that of a bay which comes from UNLOADING with its detector still armed, is the model's
choice (log 36). -/
def BayRec.enter (st : BayState) (p : Profile) (now : Nat) (r : BayRec) : BayRec :=
  { r with
    state := st
    entryTime := caseClock now
    latched := if st.dropsLatched then none else r.latched
    intent := if st.clearsIntent then .none else r.intent
    loadOnArrival := if st.clearsLoadOnArrival then false else r.loadOnArrival
    attempts := if st = .spun then 0 else r.attempts
    atSpeed := if st = .spinningUp then 0 else r.atSpeed
    armed := st.armedOnEntry r.armed
    outside := if st = .spun then 0 else r.outside
    spen := st.spenOnEntry p r.spindleOn
    hld := st.hldOnEntry
    timers := r.timers.onEntry st p r.prk now }

/-- The event that the entry into a state raises (R2). -/
def entryEvent (old st : BayState) : Option BayEvent :=
  match st with
  | .stopped => some (if old = .vacant then .present else .stopped)
  | .vacant => some .vacant
  | .spun => some .spun
  | .loaded => some .loaded
  | .held => some .held
  | .fenced => some .fenced
  | .queued | .spinningUp | .loading | .parkQueued | .unloading | .spinningDown | .diag => none

/-- A bay changes its state and raises no event. -/
def State.enterQuietly (b : BayNo) (st : BayState) (s : State) : State :=
  s.modBay b (BayRec.enter st (s.governing b) s.now)

/-- An event added where there is one. -/
def State.addBayEvent? (b : BayNo) (e : Option BayEvent) (s : State) : State :=
  match e with
  | some e => s.addBayEvent b e
  | none => s

/-- A bay changes its state and raises the event of the entry (R2). -/
def State.enter (b : BayNo) (st : BayState) (s : State) : State :=
  (s.enterQuietly b st).addBayEvent? b (entryEvent (s.bay b).state st)

/-- A bay changes its state; the event `e` is added ahead of the event of the entry (R69, R156). -/
def State.enterAfter (e : BayEvent) (b : BayNo) (st : BayState) (s : State) : State :=
  ((s.enterQuietly b st).addBayEvent b e).addBayEvent? b (entryEvent (s.bay b).state st)

/-- The intent of a bay written. -/
def State.setIntent (b : BayNo) (i : Intent) (s : State) : State :=
  s.modBay b (fun r => { r with intent := i })

/-- The load-on-arrival flag of a bay written. -/
def State.setLoadOnArrival (b : BayNo) (f : Bool) (s : State) : State :=
  s.modBay b (fun r => { r with loadOnArrival := f })

/-- A bay enters SPINNING_DOWN with an intent (R49). -/
def State.spinDownWith (b : BayNo) (i : Intent) (s : State) : State :=
  (s.setIntent b i).enter b .spinningDown

/-- A bay enters HELD with a spindle condition (R17). -/
def State.holdWith (b : BayNo) (spindleOn : Bool) (s : State) : State :=
  (s.modBay b (fun r => { r with spindleOn := spindleOn })).enter b .held

/-- The intent under a rule that writes STOP_AFTER and leaves HOLD_AFTER (R55, R77, R106). -/
def Intent.toStop : Intent → Intent
  | .holdAfter => .holdAfter
  | .none | .stopAfter | .respin => .stopAfter

end Sys2Proof.Machine
end

