-- ==== Sys2Proof/Machine/Frames.lean ====
section
/-! DEFINITION. The images of records, and the frames of replies and notices (chapter 11). -/

namespace Sys2Proof.Machine

/-- The SYNC byte (R187). -/
def syncByte : Byte := 0xC3

/-- A frame: SYNC, LENGTH, the bytes from KIND to the end of the body, and the CRC over LENGTH through the body, low
byte first (R176, R187). -/
def frameOf (fromKind : List Byte) : List Byte :=
  let checked := byteOf fromKind.length :: fromKind
  syncByte :: checked ++ le16 (crc16 checked)

/-- An optional number, sent as 0 while it is absent (R188). -/
def optional16 (n : Option Nat) : List Byte := le16OfNat (n.getD 0)

/-- The spin-up queue entry of a bay (R20). -/
def State.entryOf (s : State) (b : BayNo) : Option SpinEntry :=
  s.arbiter.queue.find? (fun e => e.bay == b)

/-- The load-after of an entry: the bay's flag for SPIN, no for TEST (R19). -/
def State.loadAfter (s : State) (e : SpinEntry) : Bool :=
  match e.kind with
  | .spin => (s.bay e.bay).loadOnArrival
  | .test => false

/-- The queue entry byte: bit 0 kind, bit 1 load-after, bits 2–4 skip count (R191); 0 where there is no entry. -/
def State.entryByte (s : State) (b : BayNo) : Byte :=
  match s.entryOf b with
  | some e => flagBit 0 (e.kind == .test) ||| flagBit 1 (s.loadAfter e) ||| (byteOf e.skip <<< 2)
  | none => 0

/-- The flags byte of a bay record (R191). The spindle condition is sent as the field stands in every state, though it
drives nothing outside HELD (R4, R17): the model's choice under R189 (log 35). -/
def State.recordFlags (s : State) (b : BayNo) : Byte :=
  let r := s.bay b
  flagBit 0 r.presence ||| flagBit 1 r.spindleOn ||| flagBit 2 r.loadOnArrival
    ||| flagBit 3 r.latched.isSome ||| flagBit 4 r.lastSpinUp.isSome ||| flagBit 5 r.speed.isSome
    ||| flagBit 6 (s.entryOf b).isSome ||| flagBit 7 r.windingCurrent.isSome

/-- The bay record image, 46 bytes (R191). -/
def State.bayImage (s : State) (b : BayNo) : List Byte :=
  let r := s.bay b
  [byteOf b.val, r.state.code] ++ le32 r.entryTime
    ++ [s.recordFlags b, byteOf s.store.working.selections[b].val, byteOf r.attempts, r.intent.code,
        s.entryByte b, r.sticky, r.pending, r.winding.code]
    ++ optional16 r.windingCurrent ++ optional16 r.lastSpinUp ++ optional16 r.speed
    ++ le16OfNat r.joltsLoaded ++ le16OfNat r.joltsParked ++ le16OfNat r.joltsStopped
    ++ le16OfNat r.rollsLoaded
    ++ (match r.latched with
        | some p => p.image
        | none => List.replicate 18 0)

/-- The length of the unload queue, both sections (R62). -/
def State.unloadQueueLength (s : State) : Nat :=
  s.scheduler.emergency.length + s.scheduler.ordinary.length

/-- The flags byte of the environment record, with its bit 0 given (R191). -/
def State.environmentFlags (s : State) (bit0 : Bool) : Byte :=
  flagBit 0 bit0 ||| flagBit 1 s.motion.lost ||| flagBit 2 s.supply.lastReading.isSome
    ||| flagBit 3 s.store.commit.isSome

/-- The mask field, 16 bits (R188). -/
def maskField (masks : BitVec 13) : List Byte := le16 (masks.zeroExtend 16)

/-- The environment record, 18 bytes (R150, R191). -/
def State.environmentImage (s : State) : List Byte :=
  maskField s.store.working.masks ++ [s.faults.caseSticky, s.faults.casePending]
    ++ le16 s.baysWithPending
    ++ [s.environmentFlags (s.transit.mode == .transitSafe), s.motion.cls.code, s.supply.cls.code]
    ++ optional16 s.supply.lastReading
    ++ [byteOf s.supply.budget, byteOf s.arbiter.held, byteOf s.arbiter.grants,
        byteOf s.arbiter.queue.length, byteOf s.unloadQueueLength, byteOf s.scheduler.unloading,
        byteOf s.settings.quietCode]

/-- The status image, 28 bytes (R184, R191). -/
def State.statusImage (s : State) : List Byte :=
  [s.environmentFlags false] ++ optional16 s.supply.lastReading
    ++ [byteOf s.supply.budget, byteOf s.arbiter.held, byteOf s.arbiter.grants,
        byteOf s.arbiter.queue.length, byteOf s.unloadQueueLength, byteOf s.scheduler.unloading,
        s.faults.casePending]
    ++ le16 s.baysWithPending
    ++ allBays.map (fun b => (s.bay b).state.code)

/-- A jolt record, 18 bytes (R191). -/
def JoltRec.image (j : JoltRec) : List Byte :=
  [flagBit 0 j.isOpen ||| (j.classBefore.code <<< 1)] ++ le32 j.time ++ le16OfNat j.peak
    ++ [byteOf j.count] ++ le16 j.loaded ++ le16 j.parked ++ le16 j.late ++ le16 j.pulled
    ++ optional16 j.duration

/-- The frame of a reply (R187). -/
def Reply.frame (r : Reply) : List Byte :=
  frameOf ([r.kind, r.tag, r.status.code, r.summary] ++ r.body)

/-- The source byte of a notice (R192). -/
def Source.code : Source → Byte
  | .bay b => byteOf b.val
  | .theCase => 16

/-- The frame of a notice, with the source's state as it stands when sending starts (R182, R192). -/
def Notice.frame (n : Notice) (st : Byte) : List Byte :=
  frameOf ([0xE0, 0, n.source.code, st] ++ le16 n.events ++ [n.testDone.code, n.faults, 0])

/-! ### The transmit line (R181) -/

/-- The time a frame occupies the line, in µs: 10 bit times a byte at 230400 baud, rounded up (log 16). -/
def lineTime (bytes : Nat) : Nat := (bytes * 10 * 1000000 + 230399) / 230400

/-- A frame put on the line. -/
def State.transmit (bytes : List Byte) (isReply : Bool) (s : State) : State :=
  { s with link := { s.link with
      tx := some { bytes := bytes, isReply := isReply, due := s.now + lineTime bytes.length } } }

/-- An idle line takes the unsent reply, or else the oldest notice entry (R181, R182). -/
def State.lineUp (s : State) : State :=
  if s.link.tx.isSome then s
  else
    match s.link.slot with
    | some r => s.transmit r.frame true
    | none =>
      match s.link.notices with
      | [] => s
      | n :: rest =>
        let s1 := { s with link := { s.link with notices := rest } }
        s1.transmit (n.frame (s1.sourceState (!rest.isEmpty) n.source)) false

/-- One event of the part: `dt` µs pass, the event is taken whole, and an idle line starts its next frame (log 20). -/
def State.takeEvent (dt : Nat) (body : State → State) (s : State) : Host.Outcome State Fault Refusal :=
  .next (body (s.elapse dt)).lineUp

end Sys2Proof.Machine
end

