-- ==== Sys2Proof/Machine/Arbiter.lean ====
section
/-! DEFINITION. The Admission Arbiter: the spin-up queue, the grant evaluation, grants and releases (2.1 to 2.3). -/

namespace Sys2Proof.Machine

/-- The arbiter changed by `f`. -/
def State.modArbiter (f : Arbiter → Arbiter) (s : State) : State := { s with arbiter := f s.arbiter }

/-- Whether some bay is in DIAG (R35, R153). -/
def State.someDiag (s : State) : Bool := s.bays.any (fun r => r.state == .diag)

/-- The motion class admits spin-up (R35). -/
def State.motionAdmitsSpinUp (s : State) : Bool :=
  match s.motion.cls with
  | .still | .unsettled => true
  | .rolling => s.settings.spinWhileRolling && s.settings.rollingPolicy != .parkAndStop

/-- An entry takes part in a pass (R35). -/
def State.eligible (s : State) (e : SpinEntry) : Bool :=
  match e.kind with
  | .spin => s.motionAdmitsSpinUp
  | .test => !s.someDiag

/-- The cost of an entry, in su (R37). -/
def State.cost (s : State) (e : SpinEntry) : Nat :=
  match e.kind with
  | .spin => (s.effective e.bay).surgeCost
  | .test => 1

/-- An entry fits under the effective budget (R37). -/
def State.fits (s : State) (e : SpinEntry) : Bool := s.arbiter.held + s.cost e ≤ s.supply.budget

/-- Insertion before the first entry whose key is not smaller. -/
def insertByKey {α : Type} (key : α → Nat) (a : α) : List α → List α
  | [] => [a]
  | x :: xs => if key a ≤ key x then a :: x :: xs else x :: insertByKey key a xs

/-- A list by rising key; entries of equal key keep their order. -/
def sortByKey {α : Type} (key : α → Nat) : List α → List α
  | [] => []
  | x :: xs => insertByKey key x (sortByKey key xs)

/-- The distance of a bay from the bay above the rotate pointer, ascending and wrapping (R36). -/
def rotateDistance (pointer b : BayNo) : Nat := (b.val + 31 - pointer.val) % 16

/-- The eligible entries in the order of the arbiter mode (R36). -/
def State.inModeOrder (s : State) (es : List SpinEntry) : List SpinEntry :=
  match s.settings.arbiterMode with
  | .arrival => es
  | .rotate => sortByKey (fun e => rotateDistance s.arbiter.pointer e.bay) es
  | .ranked => sortByKey (fun e => 3 - (s.effective e.bay).rank) es

/-- The queue with the skip count of one bay's entry raised by 1 (R38). -/
def raiseSkip (b : BayNo) (q : List SpinEntry) : List SpinEntry :=
  q.map (fun e => if e.bay == b then { e with skip := e.skip + 1 } else e)

/-- What a pass decides (R34, R37, R38): the entry to grant, and the candidate that is skipped for it. -/
structure PassResult where
  granted : SpinEntry
  skipped : Option BayNo
  deriving DecidableEq, Repr

/-- One pass over the queue (R34–R38); none where it grants nothing. -/
def State.pass (s : State) : Option PassResult :=
  if s.settings.concurrencyLimit ≤ s.arbiter.grants || s.transit.mode == .transitSafe then none
  else
    match s.inModeOrder (s.arbiter.queue.filter s.eligible) with
    | [] => none
    | candidate :: rest =>
      if s.fits candidate then some { granted := candidate, skipped := none }
      else if 0 < s.settings.skipLimit && candidate.skip < s.settings.skipLimit then
        (rest.find? s.fits).map (fun e => { granted := e, skipped := some candidate.bay })
      else none

/-- The entry of a bay leaves the queue, the others keeping their order (R28). -/
def State.dropEntry (b : BayNo) (s : State) : State :=
  s.modArbiter (fun a => { a with queue := a.queue.filter (fun e => e.bay != b) })

/-- The arbiter's effects of a grant (R39): the entry leaves the queue, its cost and 1 are added, the pointer moves. -/
def State.takeGrant (e : SpinEntry) (s : State) : State :=
  let cost := s.cost e
  (s.dropEntry e.bay).modArbiter (fun a =>
    { a with held := a.held + cost, grants := a.grants + 1, pointer := e.bay })

/-- A SPIN grant at the bay (R40): the effective profile is latched, the grant time written. -/
def State.grantSpin (b : BayNo) (s : State) : State :=
  (s.modBay b (fun r => { r with latched := some (s.effective b), grantTime := s.clock })).enter b .spinningUp

/-- A TEST grant at the bay (R154): the bay has the converter, and the offset reading starts. -/
def State.grantTest (b : BayNo) (s : State) : State :=
  (s.modArbiter (fun a => { a with
    converter := { holder := some b, offsetDue := some (s.now + offsetLength), offset := none } })).enter b .diag

/-- A grant (R39). -/
def State.grant (e : SpinEntry) (s : State) : State :=
  match e.kind with
  | .spin => (s.takeGrant e).grantSpin e.bay
  | .test => (s.takeGrant e).grantTest e.bay

/-- The result of a pass carried out. -/
def State.carryOut (p : PassResult) (s : State) : State :=
  match p.skipped with
  | some c => (s.modArbiter (fun a => { a with queue := raiseSkip c a.queue })).grant p.granted
  | none => s.grant p.granted

/-- Passes until one grants nothing, at most `n` of them. -/
def State.passes : Nat → State → State
  | 0, s => s
  | n + 1, s =>
    match s.pass with
    | none => s
    | some p => State.passes n (s.carryOut p)

/-- A grant evaluation (R34). Each grant takes an entry from the queue, so the queue's length bounds the passes that
grant. -/
def State.evaluate (s : State) : State := State.passes s.arbiter.queue.length s

/-- A bay joins the queue at the tail with skip count 0 and enters QUEUED (R28, R29). -/
def State.joinQueue (b : BayNo) (k : EntryKind) (s : State) : State :=
  (s.modArbiter (fun a => { a with queue := a.queue ++ [{ bay := b, kind := k, skip := 0 }] })).enter b .queued

/-- The surge that a bay's grant holds (R41). -/
def State.grantCost (b : BayNo) (s : State) : Nat :=
  match (s.bay b).state with
  | .spinningUp => (s.governing b).surgeCost
  | .diag => 1
  | .vacant | .stopped | .queued | .spun | .loading | .loaded | .parkQueued | .unloading | .spinningDown
  | .held | .fenced => 0

/-- The grant of a SPINNING_UP or DIAG bay given back, with the converter of a DIAG bay (R41, R156). The evaluation
that the release runs is taken when the bay has left the state (log 18). -/
def State.releaseGrant (b : BayNo) (s : State) : State :=
  let cost := s.grantCost b
  s.modArbiter (fun a => { a with
    held := a.held - cost
    grants := a.grants - 1
    converter := if (s.bay b).state = .diag then .free else a.converter })

/-- A spin-up aborted without a failure (R46): SPINNING_DOWN with the intent of the cause, then the evaluation. -/
def State.abortSpinUp (b : BayNo) (i : Intent) (s : State) : State :=
  ((s.releaseGrant b).spinDownWith b i).evaluate

end Sys2Proof.Machine
end

