-- ==== Sys2Proof/Machine/Load.lean ====
section
/-! DEFINITION. Load admission, the start of a load and the deferred load start (3.1, 3.2, R48). -/

namespace Sys2Proof.Machine

/-- The exposure limit is not 0 and the bay's jolts-while-loaded count has reached it (R48, R57). -/
def State.exposed (b : BayNo) (s : State) : Bool :=
  s.settings.exposureLimit != 0 && s.settings.exposureLimit ≤ (s.bay b).joltsLoaded

/-- An admitted load starts (R58); the entry clears the load-on-arrival flag. -/
def State.startLoad (b : BayNo) (s : State) : State := s.enter b .loading

/-- Load admission of a SPUN bay for a request (R57, R54, R76): the conditions in the order of the table of R57, after
the transit mode, which the request has tested. -/
def State.loadSpun (b : BayNo) (s : State) : Status × State :=
  if s.exposed b then (.exposed, s.setLoadOnArrival b false)
  else if s.motion.cls ≠ .still then (.motion, s)
  else if s.supply.cls = .cut then (.supply, s)
  else (.accepted, s.startLoad b)

/-- A deferred load start tried for one bay: a SPUN bay whose load-on-arrival flag is set (R48). -/
def State.tryDeferredLoad (b : BayNo) (s : State) : State :=
  if (s.bay b).state = .spun && (s.bay b).loadOnArrival then
    if s.exposed b then (s.setLoadOnArrival b false).addBayEvent b .loadRefused
    else if s.transit.mode = .normal && s.motion.cls = .still && s.supply.cls ≠ .cut then s.startLoad b
    else s
  else s

/-- The deferred load starts of every bay at one trigger, each its own holder; they need no order (R48, log 9). -/
def State.tryDeferredLoads (s : State) : State :=
  s.inFreeOrder (allBays.map State.tryDeferredLoad)

end Sys2Proof.Machine
end

