-- ==== Sys2Proof/Machine/Jolts.lean ====
section
/-! DEFINITION. Jolt records: marks, close, and the exposure counters (4.5, 4.6, R23). -/

namespace Sys2Proof.Machine

/-- The Motion Monitor changed by `f`. -/
def State.modMotion (f : Motion → Motion) (s : State) : State := { s with motion := f s.motion }

/-- The newest record of the list changed by `f`. -/
def modNewest (f : JoltRec → JoltRec) : List JoltRec → List JoltRec
  | [] => []
  | [j] => [f j]
  | j :: js => j :: modNewest f js

/-- The newest record. -/
def State.newestJolt (s : State) : Option JoltRec := s.motion.jolts.getLast?

/-- Every bay of the loaded set stands in the parked, late or pulled set (R94). -/
def JoltRec.complete (j : JoltRec) : Bool := (j.parked ||| j.late ||| j.pulled) &&& j.loaded == j.loaded

/-- The record closed at a case clock (R94): the duration stops at 65535. -/
def JoltRec.close (clock : Word32) (j : JoltRec) : JoltRec :=
  { j with isOpen := false, duration := some (min 65535 (clock - j.time).toNat) }

/-- The open record closes when its loaded set is complete, and JOLT_CLOSED is raised (R94). -/
def State.closeJolt (s : State) : State :=
  match s.newestJolt with
  | some j =>
    if j.isOpen && j.complete then
      (s.modMotion (fun m => { m with jolts := modNewest (JoltRec.close s.clock) m.jolts })).addCaseEvent .joltClosed
    else s
  | none => s

/-- How a bay left the loaded condition (R93). -/
inductive JoltMark where
  | parked | late | pulled
  deriving DecidableEq, Repr

/-- A mark put on a record. -/
def JoltRec.mark (k : JoltMark) (b : BayNo) (j : JoltRec) : JoltRec :=
  match k with
  | .parked => { j with parked := addToSet j.parked b }
  | .late => { j with late := addToSet j.late b }
  | .pulled => { j with pulled := addToSet j.pulled b }

/-- A bay of the loaded set that has no mark yet (R93). -/
def JoltRec.awaits (b : BayNo) (j : JoltRec) : Bool :=
  inSet j.loaded b && !inSet (j.parked ||| j.late ||| j.pulled) b

/-- A bay marked in the open record, which closes with its last mark (R93, R94). -/
def State.markJolt (k : JoltMark) (b : BayNo) (s : State) : State :=
  match s.newestJolt with
  | some j =>
    if j.isOpen && j.awaits b then
      (s.modMotion (fun m => { m with jolts := modNewest (JoltRec.mark k b) m.jolts })).closeJolt
    else s
  | none => s

/-- A counter that stops at 65535 (R23). -/
def saturate16 (n : Nat) : Nat := min 65535 (n + 1)

/-- The exposure of a new jolt record at one bay, by the bay's condition (R23, R90). -/
def BayRec.exposeToJolt (r : BayRec) : BayRec :=
  match r.state with
  | .loading | .loaded | .parkQueued | .unloading => { r with joltsLoaded := saturate16 r.joltsLoaded }
  | .spinningUp | .spun | .spinningDown => { r with joltsParked := saturate16 r.joltsParked }
  | .stopped | .queued | .diag | .held | .fenced => { r with joltsStopped := saturate16 r.joltsStopped }
  | .vacant => r

/-- The exposure of an entry into ROLLING at one bay (R23, R88). -/
def BayRec.exposeToRolling (r : BayRec) : BayRec :=
  if r.state.inLoadedCondition then { r with rollsLoaded := saturate16 r.rollsLoaded } else r

/-- The bays in the loaded condition (R90). -/
def State.loadedSet (s : State) : BaySet := baySetOf (fun b => (s.bay b).state.inLoadedCondition)

end Sys2Proof.Machine
end

