-- ==== Sys2Proof/Machine/Scheduler.lean ====
section
/-! DEFINITION. The Unload Scheduler: parks, the start pass, unload requests, emergency placements and sweeps
(3.4 to 3.6, chapter 5). -/

namespace Sys2Proof.Machine

/-- The scheduler changed by `f`. -/
def State.modScheduler (f : Scheduler → Scheduler) (s : State) : State := { s with scheduler := f s.scheduler }

/-- A bay's entry leaves the unload queue, from whichever section holds it (R10, R62). -/
def State.dropUnload (b : BayNo) (s : State) : State :=
  s.modScheduler (fun q => { q with
    emergency := q.emergency.filter (· != b), ordinary := q.ordinary.filter (· != b) })

/-- One bay leaves UNLOADING (R64). -/
def State.lowerUnloading (s : State) : State :=
  s.modScheduler (fun q => { q with unloading := q.unloading - 1 })

/-- What a bay does when it parks, by its intent (R69, R70). -/
inductive AfterPark where
  | spun
  | spinDown (i : Intent)
  | hold (spindleOn : Bool)
  deriving DecidableEq, Repr

/-- The table of R69 with R70: HOLD_AFTER with an empty pending set is read as STOP_AFTER (log 15), and the spindle
condition is ON when the detector is still armed and the case is NORMAL. -/
def BayRec.afterPark (mode : TransitMode) (r : BayRec) : AfterPark :=
  match r.intent with
  | .none => if mode = .normal then .spun else .spinDown .stopAfter
  | .stopAfter => .spinDown .stopAfter
  | .respin => .spinDown .respin
  | .holdAfter => if r.pending = 0 then .spinDown .stopAfter else .hold (r.armed && mode = .normal)

/-- The bay leaves UNLOADING for what follows its park, raising PARKED first (R69, R70). -/
def State.leaveUnloading (b : BayNo) (s : State) : State :=
  match (s.bay b).afterPark s.transit.mode with
  | .spun => s.enterAfter .parked b .spun
  | .spinDown i => (s.setIntent b i).enterAfter .parked b .spinningDown
  | .hold on => (s.modBay b (fun r => { r with spindleOn := on })).enterAfter .parked b .held

/-- The park of an UNLOADING bay (R69), without the start pass, which runs at the end of the event (R64, log 18). -/
def State.parkCore (b : BayNo) (s : State) : State :=
  (s.lowerUnloading.leaveUnloading b).markJolt .parked b

/-- A bay starts unloading; with PRK already asserted it parks in the same event (R65). -/
def State.startUnload (b : BayNo) (s : State) : State :=
  let s1 := (s.modScheduler (fun q => { q with unloading := q.unloading + 1 })).enter b .unloading
  if (s1.bay b).prk then s1.parkCore b else s1

/-- The head of the unload queue, and the queue without it (R62). -/
def Scheduler.popHead (q : Scheduler) : Option (BayNo × Scheduler) :=
  match q.emergency with
  | b :: rest => some (b, { q with emergency := rest })
  | [] =>
    match q.ordinary with
    | b :: rest => some (b, { q with ordinary := rest })
    | [] => none

/-- At most `n` starts: while the count is below W, the head of the queue starts unloading (R64). -/
def State.starts : Nat → State → State
  | 0, s => s
  | n + 1, s =>
    if s.settings.unloadWidth ≤ s.scheduler.unloading then s
    else
      match s.scheduler.popHead with
      | none => s
      | some (b, q) => State.starts n ({ s with scheduler := q }.startUnload b)

/-- A start pass (R64). Each start takes an entry from the queue, so the queue's length bounds the starts. -/
def State.startPass (s : State) : State := State.starts s.unloadQueueLength s

/-- The park of an UNLOADING bay with the start pass that ends it (R69, R64). -/
def State.parkBay (b : BayNo) (s : State) : State := (s.parkCore b).startPass

/-- An ordinary unload request for a LOADING or LOADED bay whose intent is written (R66): at once where the count is
below W and the queue empty, else at the tail of the ordinary section. -/
def State.ordinaryUnload (b : BayNo) (s : State) : State :=
  if s.scheduler.unloading < s.settings.unloadWidth && s.unloadQueueLength == 0 then s.startUnload b
  else
    ((s.modScheduler (fun q => { q with ordinary := q.ordinary ++ [b] })).enter b .parkQueued).startPass

/-- An emergency placement, by the bay's state (R67). The start pass belongs to the event that places. -/
def State.emergencyPlacement (b : BayNo) (s : State) : State :=
  match (s.bay b).state with
  | .loading | .loaded =>
    (s.modScheduler (fun q => { q with emergency := q.emergency ++ [b] })).enter b .parkQueued
  | .parkQueued =>
    if s.scheduler.emergency.contains b then s
    else (s.dropUnload b).modScheduler (fun q => { q with emergency := q.emergency ++ [b] })
  | .vacant | .stopped | .queued | .spinningUp | .spun | .unloading | .spinningDown | .diag | .held
  | .fenced => s

/-! ### Sweeps -/

/-- The kinds that write STOP_AFTER (R105, R106). -/
def SweepKind.stops : SweepKind → Bool
  | .transit | .parkAndStop => true
  | .jolt | .park | .sensorLost | .cut => false

/-- The intent that a sweep leaves a bay in the loaded condition (R105, R106). -/
def State.sweepIntent (k : SweepKind) (b : BayNo) (s : State) : State :=
  if k.stops then s.modBay b (fun r => { r with intent := r.intent.toStop }) else s

/-- What the walk does at one bay (R102, R106–R109). -/
def State.sweepBay (k : SweepKind) (b : BayNo) (s : State) : State :=
  match (s.bay b).state with
  | .loading | .loaded | .parkQueued => (s.emergencyPlacement b).sweepIntent k b
  | .unloading => s.sweepIntent k b
  | .spun => if k = .parkAndStop then s.spinDownWith b .stopAfter else s
  | .spinningUp => if k = .parkAndStop then s.abortSpinUp b .stopAfter else s
  | .vacant | .stopped | .queued | .spinningDown | .diag | .held | .fenced => s

/-- The sixteen bays from the origin upward, wrapping from 15 to 0 (R102). -/
def walkFrom (origin : BayNo) : List BayNo := allBays.map (fun k => origin + k)

/-- A sweep (R102–R104): the origin is copied to the pointer, the walk examines every bay once, the origin advances
with rotation on, and one start pass ends the event. After sixteen positions the pointer stands where it began (R100). -/
def State.sweep (k : SweepKind) (s : State) : State :=
  let origin := s.scheduler.origin
  let walked := (walkFrom origin).foldl (fun s b => s.sweepBay k b)
    (s.modScheduler (fun q => { q with pointer := q.origin }))
  (walked.modScheduler (fun q => { q with
    origin := if s.settings.originRotation then q.origin + 1 else q.origin })).startPass

end Sys2Proof.Machine
end

