-- ==== Sys2Proof/Machine/Spindle.lean ====
section
/-! DEFINITION. Spindles: measurements, reaching speed, losing speed, spin-up failures, coming to rest, and the aborted
winding test that a TACH pulse makes (1.4, 2.4 to 2.6, 3.6, 7.3, 8.5). -/

namespace Sys2Proof.Machine

/-! ### The end of a winding test before its reading (R156, R158, R159) -/

/-- A test aborted: ABORTED with the current absent, the grant and the converter given back, SPEN off by the entry, and
TEST_DONE ahead of the event of the state entered. -/
def State.abortTest (b : BayNo) (st : BayState) (s : State) : State :=
  ((s.releaseGrant b).modBay b (fun r => { r with winding := .aborted, windingCurrent := none })).enterAfter
    .testDone b st

/-! ### Spin-up failures and the end of a spin-down -/

/-- A spin-up failure of a class (R44, R45). -/
def State.spinUpFailure (c : BayFault) (b : BayNo) (s : State) : State :=
  let limit := (s.governing b).retryLimit
  let failed := ((s.releaseGrant b).modBay b (fun r => { r with attempts := min 7 (r.attempts + 1) })).reportBay c b
  let next :=
    if limit ≤ (failed.bay b).attempts then failed.enter b .fenced
    else if s.answersHold c then failed.holdWith b false
    else failed.spinDownWith b .respin
  next.evaluate

/-- A bay reaches STOPPED from SPINNING_DOWN (R50): speed 0, and under RESPIN in a NORMAL case it rejoins the queue. -/
def State.reachStopped (b : BayNo) (s : State) : State :=
  let respin := (s.bay b).intent = .respin && s.transit.mode = .normal
  let stopped := (s.modBay b (fun r => { r with speed := some 0 })).enter b .stopped
  if respin then (stopped.joinQueue b .spin).evaluate else stopped

/-! ### Speed loss (R14, R73, R74, R139) -/

/-- The detector disarmed (R14); its count is returned to 0, which R14 leaves open (log 36). -/
def BayRec.disarm (r : BayRec) : BayRec :=
  { r with armed := false, outside := 0, timers := { r.timers with gap := none } }

/-- The intent that a speed loss writes in the loaded condition (R73, R74). -/
def Intent.afterSpeedLoss (hold : Bool) (i : Intent) : Intent :=
  if hold then .holdAfter
  else
    match i with
    | .none => .respin
    | .stopAfter => .stopAfter
    | .holdAfter => .holdAfter
    | .respin => .respin

/-- The armed detector reports a speed loss, and the bay acts on the answer by its state (R14). -/
def State.speedLoss (b : BayNo) (s : State) : State :=
  let hold := s.answersHold .speedLoss
  let reported := (s.modBay b BayRec.disarm).reportBay .speedLoss b
  match (s.bay b).state with
  | .spun => if hold then reported.holdWith b false else reported.spinDownWith b .respin
  | .loading | .loaded | .parkQueued =>
    ((reported.modBay b (fun r => { r with intent := r.intent.afterSpeedLoss hold })).emergencyPlacement
      b).startPass
  | .unloading => reported.modBay b (fun r => { r with intent := r.intent.afterSpeedLoss hold })
  | .vacant | .stopped | .queued | .spinningUp | .spinningDown | .diag | .held | .fenced => reported

/-! ### TACH pulses (R11–R14, R42, R49, R158) -/

/-- The speed of an interval of whole µs: rounded down and limited to 65535 rpm; an interval of 0 gives a free value
within the limit (R11, log 8). -/
def speedOf (interval pulsesPerRev : Nat) : Nat :=
  if interval = 0 then min 65535 (Config.speedOfZeroInterval pulsesPerRev)
  else min 65535 (60000000 / (interval * pulsesPerRev))

/-- The measurement that a pulse at this time gives, if it gives one (R11). -/
def State.measure (b : BayNo) (s : State) : Option Nat :=
  match (s.bay b).lastPulse with
  | none => none
  | some t =>
    if tachLongest < s.now - t then none
    else some (speedOf (s.now - t) (s.governing b).pulsesPerRev)

/-- A measurement lies within a profile's window, both ends included (R13). -/
def Profile.inWindow (p : Profile) (speed : Nat) : Bool := p.speedLow ≤ speed && speed ≤ p.speedHigh

/-- The at-speed event (R47): the spin-up time, the release, SPUN, and a deferred load start. -/
def State.reachSpeed (b : BayNo) (s : State) : State :=
  let timed := (s.releaseGrant b).modBay b (fun r => { r with lastSpinUp := some (s.clock - r.grantTime).toNat })
  ((timed.enter b .spun).tryDeferredLoad b).evaluate

/-- A measurement in SPINNING_UP: inside the window it adds to the at-speed count, outside it returns it to 0; the
fourth in a row is the at-speed event (R13). -/
def State.countAtSpeed (b : BayNo) (speed : Nat) (s : State) : State :=
  if (s.governing b).inWindow speed then
    let counted := s.modBay b (fun r => { r with atSpeed := r.atSpeed + 1 })
    if 4 ≤ (counted.bay b).atSpeed then counted.reachSpeed b else counted
  else s.modBay b (fun r => { r with atSpeed := 0 })

/-- A measurement while the detector is armed: outside the window it counts, inside it returns the count to 0; the
fourth in a row is a speed loss (R14). -/
def State.countSpeedLoss (b : BayNo) (speed : Nat) (s : State) : State :=
  if (s.governing b).inWindow speed then s.modBay b (fun r => { r with outside := 0 })
  else
    let counted := s.modBay b (fun r => { r with outside := r.outside + 1 })
    if 4 ≤ (counted.bay b).outside then counted.speedLoss b else counted

/-- The pulse stamped, and its measurement written into the speed field (R11, R12). -/
def State.stampPulse (b : BayNo) (m : Option Nat) (s : State) : State :=
  s.modBay b (fun r => { r with
    lastPulse := some s.now
    speed := match m with
      | some v => some v
      | none => r.speed })

/-- What a measurement does, where there is one. -/
def State.onMeasurement (m : Option Nat) (f : Nat → State → State) (s : State) : State :=
  match m with
  | some v => f v s
  | none => s

/-- A TACH pulse of a bay that is not VACANT, by its state. -/
def State.pulse (b : BayNo) (s : State) : State :=
  let m := s.measure b
  let stamped := s.stampPulse b m
  match (s.bay b).state with
  | .spinningUp =>
    (stamped.modBay b (fun r => { r with timers := { r.timers with tachFirst := none } })).onMeasurement m
      (State.countAtSpeed b)
  | .diag => (stamped.abortTest b .stopped).evaluate
  | .spinningDown =>
    stamped.modBay b (fun r => { r with timers := { r.timers with stopGap := some (s.now + stopGapLength) } })
  | .spun | .loading | .loaded | .parkQueued | .unloading =>
    if (s.bay b).armed then
      (stamped.modBay b (fun r => { r with
        timers := { r.timers with gap := some (s.now + speedLossGapLength) } })).onMeasurement m
        (State.countSpeedLoss b)
    else stamped
  | .stopped | .queued | .held | .fenced => stamped
  | .vacant => s

/-! ### The ends of the timers of a bay -/

/-- The event of a timer's end: it takes place no earlier than the timer's due time, and does not take place while the
timer does not run (R3, log 2). -/
def State.onDue (due : Option Nat) (f : State → State) (s : State) : State :=
  match due with
  | some t => f (s.advanceTo t)
  | none => s

/-- An event of a bay that takes place in one state alone (R3). -/
def State.inState (b : BayNo) (st : BayState) (f : State → State) (s : State) : State :=
  if (s.bay b).state = st then f s else s

/-! ### The commands -/

/-- TACH_PULSE (R11). -/
def execTachPulse (dt : Nat) (b : BayNo) (s : State) : Host.Outcome State Fault Refusal :=
  s.takeEvent dt (State.pulse b)

/-- SPEED_LOSS_GAP_EXPIRY (R14). -/
def execSpeedLossGapExpiry (dt : Nat) (b : BayNo) (s : State) : Host.Outcome State Fault Refusal :=
  s.takeEvent dt (fun s =>
    if (s.bay b).armed then s.onDue (s.bay b).timers.gap (State.speedLoss b) else s)

/-- TACH_FIRST_EXPIRY (R42). -/
def execTachFirstExpiry (dt : Nat) (b : BayNo) (s : State) : Host.Outcome State Fault Refusal :=
  s.takeEvent dt (fun s =>
    s.inState b .spinningUp (fun s => s.onDue (s.bay b).timers.tachFirst (State.spinUpFailure .spinStall b)))

/-- HOLD_TIMER_EXPIRY (R43). -/
def execHoldTimerExpiry (dt : Nat) (b : BayNo) (s : State) : Host.Outcome State Fault Refusal :=
  s.takeEvent dt (fun s =>
    s.inState b .spinningUp (fun s => s.onDue (s.bay b).timers.hold (State.spinUpFailure .spinSlow b)))

/-- STOP_GAP_EXPIRY (R49). -/
def execStopGapExpiry (dt : Nat) (b : BayNo) (s : State) : Host.Outcome State Fault Refusal :=
  s.takeEvent dt (fun s =>
    s.inState b .spinningDown (fun s => s.onDue (s.bay b).timers.stopGap (State.reachStopped b)))

/-- STOP_TIMEOUT_EXPIRY (R49). -/
def execStopTimeoutExpiry (dt : Nat) (b : BayNo) (s : State) : Host.Outcome State Fault Refusal :=
  s.takeEvent dt (fun s =>
    s.inState b .spinningDown (fun s => s.onDue (s.bay b).timers.stopTimeout (State.reachStopped b)))

end Sys2Proof.Machine
end

