-- ==== Sys2Proof/Machine/Heads.lean ====
section
/-! DEFINITION. Heads: the settle period, the load timer, parks and the unload deadline (3.2, 3.5). -/

namespace Sys2Proof.Machine

/-- PRK clears: the settle period of a LOADING bay starts at the edge (R59). -/
def State.clearPrk (b : BayNo) (s : State) : State :=
  let settle := s.now + (s.governing b).loadSettle * ms
  if (s.bay b).prk && (s.bay b).state = .loading then
    s.modBay b (fun r => { r with prk := false, timers := { r.timers with settle := some settle } })
  else s.modBay b (fun r => { r with prk := false })

/-- PRK asserts: an UNLOADING bay parks (R69), and the settle period of a LOADING bay is cancelled (R59). Elsewhere
PRK is not watched (R61, R72, R140). -/
def State.assertPrk (b : BayNo) (s : State) : State :=
  let asserted := s.modBay b (fun r => { r with prk := true })
  match (s.bay b).state with
  | .unloading => asserted.parkBay b
  | .loading => asserted.modBay b (fun r => { r with timers := { r.timers with settle := none } })
  | .vacant | .stopped | .queued | .spinningUp | .spun | .loaded | .parkQueued | .spinningDown | .diag
  | .held | .fenced => asserted

/-- The load timer ends: LOAD_LATE, and an ordinary unload with the intent of the answer (R60). -/
def State.loadLate (b : BayNo) (s : State) : State :=
  let i : Intent := if s.answersHold .loadLate then .holdAfter else .none
  ((s.reportBay .loadLate b).setIntent b i).ordinaryUnload b

/-- The unload deadline ends: the count falls, the record is marked late, UNLOAD_LATE is reported, and the bay becomes
FENCED or HELD with spindle condition OFF; a start pass ends the event (R71, R64). -/
def State.unloadLate (b : BayNo) (s : State) : State :=
  let reported := ((s.lowerUnloading).markJolt .late b).reportBay .unloadLate b
  (if s.answersHold .unloadLate then reported.holdWith b false else reported.enter b .fenced).startPass

/-- PRK_DEASSERTED (R59). -/
def execPrkDeasserted (dt : Nat) (b : BayNo) (s : State) : Host.Outcome State Fault Refusal :=
  s.takeEvent dt (State.clearPrk b)

/-- SETTLE_COMPLETE (R61). -/
def execSettleComplete (dt : Nat) (b : BayNo) (s : State) : Host.Outcome State Fault Refusal :=
  s.takeEvent dt (fun s =>
    s.inState b .loading (fun s => s.onDue (s.bay b).timers.settle (fun s => s.enter b .loaded)))

/-- LOAD_TIMER_EXPIRY (R60). -/
def execLoadTimerExpiry (dt : Nat) (b : BayNo) (s : State) : Host.Outcome State Fault Refusal :=
  s.takeEvent dt (fun s =>
    s.inState b .loading (fun s => s.onDue (s.bay b).timers.load (State.loadLate b)))

/-- PARK (R69). -/
def execPark (dt : Nat) (b : BayNo) (s : State) : Host.Outcome State Fault Refusal :=
  s.takeEvent dt (State.assertPrk b)

/-- UNLOAD_DEADLINE_EXPIRY (R71). -/
def execUnloadDeadlineExpiry (dt : Nat) (b : BayNo) (s : State) : Host.Outcome State Fault Refusal :=
  s.takeEvent dt (fun s =>
    s.inState b .unloading (fun s => s.onDue (s.bay b).timers.unloadDeadline (State.unloadLate b)))

end Sys2Proof.Machine
end

