-- ==== Sys2Proof/Machine/Operands.lean ====
section
/-! DEFINITION. The operand forms of the request bodies: the CHECK flag, choices, setting values and profile images
(R160, R164, R187, R189, R191). -/

namespace Sys2Proof.Machine

/-- FLAGS bit 0 is CHECK; bits 1–7 are ignored (R187, R189). -/
def checkFlag (r : Req) : Bool := r.flags.getLsbD 0

/-- A choice byte, load-after or stop-after: 0 no, 1 yes, and no meaning above 1 (R188, R189). -/
def choiceOf (b : Byte) : Option Bool :=
  if b = 0 then some false else if b = 1 then some true else none

/-- The scope of CLEAR FAULTS (R189). -/
inductive FaultScope where
  | wholeCase | bays
  deriving DecidableEq, Repr

/-- The scope byte: 0 CASE, 1 BAYS, and no meaning above 1 (R189). -/
def scopeOf (b : Byte) : Option FaultScope :=
  if b = 0 then some .wholeCase else if b = 1 then some .bays else none

/-- An on/off value: off is 0 and on is 1 (R188). -/
def onOffOf (v : Nat) : Option Bool :=
  match v with
  | 0 => some false
  | 1 => some true
  | _ => none

/-- An arbiter mode value: its position in R164's list (R188). -/
def arbiterModeOf (v : Nat) : Option ArbiterMode :=
  match v with
  | 0 => some .arrival
  | 1 => some .rotate
  | 2 => some .ranked
  | _ => none

/-- A rolling policy value (R188). -/
def rollingPolicyOf (v : Nat) : Option RollingPolicy :=
  match v with
  | 0 => some .keep
  | 1 => some .park
  | 2 => some .parkAndStop
  | _ => none

/-- A value within a range, both ends included. -/
def within (lo hi v : Nat) : Bool := lo ≤ v && v ≤ hi

/-- The settings with one of them set, where the value lies in its range and passes its cross-check against the other
setting of its pair as it stands (R164, R165). -/
def CaseSettings.set? (c : CaseSettings) (number v : Nat) : Option CaseSettings :=
  match number with
  | 1 => if within 1 63 v then some { c with surgeBudget := v } else none
  | 2 => if within 0 63 v then some { c with leanBudget := v } else none
  | 3 => if within 1 8 v then some { c with concurrencyLimit := v } else none
  | 4 => (arbiterModeOf v).map (fun m => { c with arbiterMode := m })
  | 5 => if within 0 7 v then some { c with skipLimit := v } else none
  | 6 => if within 1 16 v then some { c with unloadWidth := v } else none
  | 7 => (onOffOf v).map (fun f => { c with originRotation := f })
  | 8 => (rollingPolicyOf v).map (fun p => { c with rollingPolicy := p })
  | 9 => (onOffOf v).map (fun f => { c with spinWhileRolling := f })
  | 10 => if within 500 16000 v && c.rollThreshold < v then some { c with joltThreshold := v } else none
  | 11 => if within 50 2000 v && v < c.joltThreshold then some { c with rollThreshold := v } else none
  | 12 => if within 1 64 v then some { c with rollCount := v } else none
  | 13 => if within 500 30000 v then some { c with stillnessDwell := v } else none
  | 14 => if within 9000 12500 v && c.supplyCutoff + 400 ≤ v then some { c with supplyLow := v } else none
  | 15 => if within 8000 12000 v && v + 400 ≤ c.supplyLow then some { c with supplyCutoff := v } else none
  | 16 => if within 0 7 v then some { c with quietCode := v } else none
  | 17 => if within 0 255 v then some { c with exposureLimit := v } else none
  | 18 => (onOffOf v).map (fun f => { c with commonProfile := f })
  | 19 => if within 1 20 v then some { c with testPulseWidth := v } else none
  | 20 => if within 10 2000 v && v < c.shortThreshold then some { c with openThreshold := v } else none
  | 21 => if within 100 8000 v && c.openThreshold < v then some { c with shortThreshold := v } else none
  | _ => none

/-- The ranges and the three cross-checks of R164; the enumerated and on/off settings cannot be out of range. -/
def CaseSettings.valid (c : CaseSettings) : Bool :=
  within 1 63 c.surgeBudget && within 0 63 c.leanBudget && within 1 8 c.concurrencyLimit
    && within 0 7 c.skipLimit && within 1 16 c.unloadWidth
    && within 500 16000 c.joltThreshold && within 50 2000 c.rollThreshold
    && c.rollThreshold < c.joltThreshold
    && within 1 64 c.rollCount && within 500 30000 c.stillnessDwell
    && within 9000 12500 c.supplyLow && within 8000 12000 c.supplyCutoff
    && c.supplyCutoff + 400 ≤ c.supplyLow
    && within 0 7 c.quietCode && within 0 255 c.exposureLimit && within 1 20 c.testPulseWidth
    && within 10 2000 c.openThreshold && within 100 8000 c.shortThreshold
    && c.openThreshold < c.shortThreshold

/-- The ranges of R160, and speed low below speed high. -/
def Profile.valid (p : Profile) : Bool :=
  within 1 32 p.surgeCost && within 1 8 p.pulsesPerRev
    && within 1000 16000 p.speedLow && within 1000 16000 p.speedHigh && p.speedLow < p.speedHigh
    && within 100 5000 p.tachFirst && within 1 60 p.holdTime && within 1 7 p.retryLimit
    && within 0 3 p.rank && within 100 5000 p.loadTimeout && within 10 1000 p.loadSettle
    && within 10 1000 p.unloadDeadline && within 2 120 p.stopTimeout

/-- Every value of a set of settings passes its check (R168). -/
def WorkingSettings.valid (w : WorkingSettings) : Bool := w.case.valid && w.profiles.all Profile.valid

/-- The store image passes its check (R168): its CRC matches its contents, and every value passes its own check. -/
def StoreImage.passes (i : StoreImage) : Bool := i.values.valid && i.crc == i.values.crc

/-- The number that two bytes carry, low byte first (R188). -/
def nat16 (lo hi : Byte) : Nat := (word16 lo hi).toNat

/-- The eighteen bytes of a profile image (R191). -/
def profileOf : List Byte → Option Profile
  | [cost, ppr, sl0, sl1, sh0, sh1, tf0, tf1, hold, retry, rank, lt0, lt1, ls0, ls1, ud0, ud1, stop] =>
    some {
      surgeCost := cost.toNat
      pulsesPerRev := ppr.toNat
      speedLow := nat16 sl0 sl1
      speedHigh := nat16 sh0 sh1
      tachFirst := nat16 tf0 tf1
      holdTime := hold.toNat
      retryLimit := retry.toNat
      rank := rank.toNat
      loadTimeout := nat16 lt0 lt1
      loadSettle := nat16 ls0 ls1
      unloadDeadline := nat16 ud0 ud1
      stopTimeout := stop.toNat }
  | _ => none

/-- A bay number from a byte (0 to 15). -/
def bayOf (b : Byte) : Option BayNo := if h : b.toNat < 16 then some ⟨b.toNat, h⟩ else none

/-- A profile number from a byte (0 to 7). -/
def profileNoOf (b : Byte) : Option (Fin 8) := if h : b.toNat < 8 then some ⟨b.toNat, h⟩ else none

end Sys2Proof.Machine
end

