-- ==== Sys2Proof/Machine/Requests.lean ====
section
/-! DEFINITION. What every request shares: the reply, the CHECK flag and the handling of a bay set (7.8, 10.2, 10.3). -/

namespace Sys2Proof.Machine

/-- A reply placed in the slot, its SUMMARY copied as it stands (R177, R179). -/
def State.replyWith (kind tag : Byte) (st : Status) (body : List Byte) (s : State) : State :=
  { s with link := { s.link with
      slot := some { kind := kind, tag := tag, status := st,
                     summary := s.summary (!s.link.notices.isEmpty), body := body } } }

/-- The reply to a request: KIND is the request's KIND plus 0x80 (R177). -/
def State.answer (k : ReqKind) (r : Req) (st : Status) (body : List Byte) (s : State) : State :=
  s.replyWith (k.code + 0x80) r.tag st body

/-- The case pending set refuses a request that carries the CHECK flag (R148). -/
def State.refuses (r : Req) (s : State) : Bool := checkFlag r && s.faults.casePending != 0

/-- A request of a kind that honours the CHECK flag, after the checks of its body (R148). -/
def State.checked (k : ReqKind) (r : Req) (go : State → State) (s : State) : State :=
  if s.refuses r then s.answer k r .pending [] else go s

/-- The reply STATUS of a bay-set request, from the outcomes of its bays (R180). -/
def combineOutcomes (os : List (BayNo × Status)) : Status :=
  if os.all (fun o => o.2 == .done) then .done
  else if os.all (fun o => o.2 == .accepted) then .accepted
  else .partly

/-- The reply body of a bay-set request: bay and outcome, in ascending order (R180, R191). -/
def outcomeBody (os : List (BayNo × Status)) : List Byte :=
  os.flatMap (fun o => [byteOf o.1.val, o.2.code])

/-- The bays of a set handled in ascending order, each whole before the next (R180). -/
def State.handleBays (set : BaySet) (f : BayNo → State → Status × State) (s : State) :
    List (BayNo × Status) × State :=
  allBays.foldl
    (fun acc b =>
      if inSet set b then
        let out := f b acc.2
        (acc.1 ++ [(b, out.1)], out.2)
      else acc)
    ([], s)

/-- A bay-set request whose whole-request tests have passed (R180). -/
def State.answerBays (k : ReqKind) (r : Req) (set : BaySet) (f : BayNo → State → Status × State) (s : State) :
    State :=
  let out := s.handleBays set f
  out.2.answer k r (combineOutcomes out.1) (outcomeBody out.1)

/-- The CHECK flag at one bay (R149): a bay with a pending fault gets PENDING and is left as it is. -/
def checkedBay (r : Req) (f : BayNo → State → Status × State) (b : BayNo) (s : State) : Status × State :=
  if checkFlag r && (s.bay b).pending != 0 then (.pending, s) else f b s

/-- The transit mode at one bay (R52, R75, R152): a bay named in TRANSIT_SAFE gets SAFE and is left as it is. -/
def safeBay (f : BayNo → State → Status × State) (b : BayNo) (s : State) : Status × State :=
  if s.transit.mode = .transitSafe then (.safeMode, s) else f b s

/-- A bay-set request that honours the CHECK flag (R52, R55, R75, R77, R152). -/
def State.checkedBays (k : ReqKind) (r : Req) (set : BaySet) (f : BayNo → State → Status × State) (s : State) :
    State :=
  if set = 0 then s.answer k r .argument []
  else s.checked k r (State.answerBays k r set (checkedBay r f))

end Sys2Proof.Machine
end

