-- ==== Sys2Proof/Machine/BayRequests.lean ====
section
/-! DEFINITION. The handlers of the requests that move bays: SPIN UP, SPIN DOWN, LOAD, UNLOAD, TEST WINDING, RELEASE,
CLEAR FAULTS and TAKE CONTEXT (1.8, 2.7, 2.8, 3.7, 3.8, 7.5, 7.6, 8.1). -/

namespace Sys2Proof.Machine

/-- A QUEUED bay's entry is of kind SPIN. -/
def State.queuedForSpin (b : BayNo) (s : State) : Bool :=
  match s.entryOf b with
  | some e => e.kind == .spin
  | none => false

/-- The load-on-arrival flag set where the choice is yes (R53: load-after no leaves it as it stands). -/
def State.askLoad (b : BayNo) (loadAfter : Bool) (s : State) : State :=
  if loadAfter then s.setLoadOnArrival b true else s

/-- SPIN UP at one bay, by its state (R53, R54). -/
def State.spinUpBay (loadAfter : Bool) (b : BayNo) (s : State) : Status × State :=
  match (s.bay b).state with
  | .stopped => (.accepted, ((s.askLoad b loadAfter).joinQueue b .spin).evaluate)
  | .queued => if s.queuedForSpin b then (.accepted, s.askLoad b loadAfter) else (.state, s)
  | .spinningUp => (.accepted, s.askLoad b loadAfter)
  | .spun => if loadAfter then s.loadSpun b else (.done, s)
  | .loading | .loaded => (.done, s)
  | .vacant | .spinningDown | .diag | .held | .fenced | .parkQueued | .unloading => (.state, s)

/-- SPIN UP (R52): load-after above 1 and an empty set are refused with ARGUMENT (R189). -/
def handleSpinUp (r : Req) (s : State) : State :=
  match r.body with
  | [lo, hi, choice] =>
    match choiceOf choice with
    | some loadAfter => s.checkedBays .spinUp r (word16 lo hi) (safeBay (State.spinUpBay loadAfter))
    | none => s.answer .spinUp r .argument []
  | _ => s.answer .spinUp r .argument []

/-- SPIN DOWN at one bay, by its state (R55, R51, R56). -/
def State.spinDownBay (b : BayNo) (s : State) : Status × State :=
  let clear (t : State) : State := t.setLoadOnArrival b false
  match (s.bay b).state with
  | .queued => (.done, (clear ((s.dropEntry b).enter b .stopped)).evaluate)
  | .spinningUp => (.accepted, clear (s.abortSpinUp b .stopAfter))
  | .spun => (.accepted, clear (s.spinDownWith b .stopAfter))
  | .loading | .loaded => (.accepted, clear ((s.setIntent b .stopAfter).ordinaryUnload b))
  | .parkQueued | .unloading => (.accepted, clear (s.modBay b (fun r => { r with intent := r.intent.toStop })))
  | .stopped => (.done, clear s)
  | .spinningDown =>
    (.done, clear (s.modBay b (fun r => { r with
      intent := if r.intent = .respin then .stopAfter else r.intent })))
  | .diag | .held | .fenced | .vacant => (.state, s)

/-- SPIN DOWN (R55). -/
def handleSpinDown (r : Req) (s : State) : State :=
  match r.body with
  | [lo, hi] => s.checkedBays .spinDown r (word16 lo hi) State.spinDownBay
  | _ => s.answer .spinDown r .argument []

/-- LOAD at one bay, by its state (R76). -/
def State.loadBay (b : BayNo) (s : State) : Status × State :=
  match (s.bay b).state with
  | .spun => s.loadSpun b
  | .queued => if s.queuedForSpin b then (.accepted, s.setLoadOnArrival b true) else (.state, s)
  | .spinningUp => (.accepted, s.setLoadOnArrival b true)
  | .loading | .loaded => (.done, s)
  | .vacant | .stopped | .parkQueued | .unloading | .spinningDown | .diag | .held | .fenced => (.state, s)

/-- LOAD (R75). -/
def handleLoad (r : Req) (s : State) : State :=
  match r.body with
  | [lo, hi] => s.checkedBays .load r (word16 lo hi) (safeBay State.loadBay)
  | _ => s.answer .load r .argument []

/-- UNLOAD at one bay, by its state (R77). -/
def State.unloadBay (stopAfter : Bool) (b : BayNo) (s : State) : Status × State :=
  match (s.bay b).state with
  | .loading | .loaded =>
    (.accepted, ((s.setLoadOnArrival b false).setIntent b (if stopAfter then .stopAfter else .none)).ordinaryUnload b)
  | .parkQueued | .unloading =>
    (.accepted, (s.setLoadOnArrival b false).modBay b (fun r => { r with
      intent := if stopAfter then r.intent.toStop else r.intent }))
  | .spun =>
    if stopAfter then (.accepted, (s.setLoadOnArrival b false).spinDownWith b .stopAfter)
    else (.done, s.setLoadOnArrival b false)
  | .vacant | .stopped | .queued | .spinningUp | .spinningDown | .diag | .held | .fenced => (.state, s)

/-- UNLOAD (R77): stop-after above 1 is refused with ARGUMENT (R189). -/
def handleUnload (r : Req) (s : State) : State :=
  match r.body with
  | [lo, hi, choice] =>
    match choiceOf choice with
    | some stopAfter => s.checkedBays .unload r (word16 lo hi) (State.unloadBay stopAfter)
    | none => s.answer .unload r .argument []
  | _ => s.answer .unload r .argument []

/-- TEST WINDING at one bay (R152). -/
def State.testBay (b : BayNo) (s : State) : Status × State :=
  if (s.bay b).state = .stopped then (.accepted, (s.joinQueue b .test).evaluate) else (.state, s)

/-- TEST WINDING (R152). -/
def handleTestWinding (r : Req) (s : State) : State :=
  match r.body with
  | [lo, hi] => s.checkedBays .testWinding r (word16 lo hi) (safeBay State.testBay)
  | _ => s.answer .testWinding r .argument []

/-- The speed is present and within the latched window (R142, R12). -/
def BayRec.speedHolds (r : BayRec) : Bool :=
  match r.latched, r.speed with
  | some p, some v => p.inWindow v
  | _, _ => false

/-- A HELD bay's pending set emptied and ATTN recomputed, ahead of its leaving HELD (R143). -/
def State.emptyPending (b : BayNo) (s : State) : State :=
  (s.modBay b (fun r => { r with pending := 0 })).recomputeAttn

/-- RELEASE at one bay (R142, R143). -/
def State.releaseBay (b : BayNo) (s : State) : Status × State :=
  let r := s.bay b
  if r.state = .held && r.prk then
    if r.spindleOn && r.speedHolds && s.transit.mode = .normal then (.done, (s.emptyPending b).enter b .spun)
    else (.accepted, (s.emptyPending b).spinDownWith b .stopAfter)
  else (.state, s)

/-- RELEASE (R142): the CHECK flag is ignored. -/
def handleRelease (r : Req) (s : State) : State :=
  match r.body with
  | [lo, hi] =>
    if word16 lo hi = 0 then s.answer .release r .argument []
    else s.answerBays .release r (word16 lo hi) State.releaseBay
  | _ => s.answer .release r .argument []

/-- CLEAR FAULTS at one bay (R145): a HELD bay keeps its pending set. -/
def State.clearBay (b : BayNo) (s : State) : Status × State :=
  (.done, s.modBay b (fun r =>
    if r.state = .held then { r with sticky := r.sticky &&& r.pending }
    else { r with sticky := 0, pending := 0 }))

/-- CLEAR FAULTS of a bay set: ATTN is recomputed after the last bay, before the reply is built (R145). -/
def State.clearBays (r : Req) (set : BaySet) (s : State) : State :=
  let out := s.handleBays set State.clearBay
  out.2.recomputeAttn.answer .clearFaults r (combineOutcomes out.1) (outcomeBody out.1)

/-- CLEAR FAULTS (R145): the CHECK flag is ignored; with scope CASE the bay set is not read. -/
def handleClearFaults (r : Req) (s : State) : State :=
  match r.body with
  | [scope, lo, hi] =>
    match scopeOf scope with
    | some .wholeCase =>
      ({ s with faults := { s.faults with caseSticky := 0, casePending := 0 } }.recomputeAttn).answer .clearFaults r
        .done []
    | some .bays =>
      if word16 lo hi = 0 then s.answer .clearFaults r .argument []
      else s.clearBays r (word16 lo hi)
    | none => s.answer .clearFaults r .argument []
  | _ => s.answer .clearFaults r .argument []

/-- The fields that reinit clears (R25). -/
def BayRec.reinit (r : BayRec) : BayRec :=
  { r with
    sticky := 0
    pending := 0
    attempts := 0
    intent := .none
    spindleOn := false
    loadOnArrival := false
    joltsLoaded := 0
    joltsParked := 0
    joltsStopped := 0
    rollsLoaded := 0
    winding := .none
    windingCurrent := none
    lastSpinUp := none }

/-- Reinit of a bay (R25): a HELD or FENCED bay goes to STOPPED. -/
def State.reinitBay (b : BayNo) (s : State) : State :=
  let cleared := (s.modBay b BayRec.reinit).recomputeAttn
  if (s.bay b).state = .held || (s.bay b).state = .fenced then cleared.enter b .stopped else cleared

/-- TAKE CONTEXT accepts the bay (R24). -/
def BayRec.acceptsContext (r : BayRec) : Bool :=
  match r.state with
  | .stopped | .vacant | .fenced => true
  | .held => !r.spindleOn && r.prk
  | .queued | .spinningUp | .spun | .loading | .loaded | .parkQueued | .unloading | .spinningDown
  | .diag => false

/-- TAKE CONTEXT of a bay that exists (R24): the record as it stood, then the reinit. -/
def State.takeContextOf (r : Req) (b : BayNo) (s : State) : State :=
  if (s.bay b).acceptsContext then (s.reinitBay b).answer .takeContext r .done (s.bayImage b)
  else s.answer .takeContext r .state []

/-- TAKE CONTEXT (R24). -/
def handleTakeContext (r : Req) (s : State) : State :=
  match r.body with
  | [n] =>
    match bayOf n with
    | some b => s.checked .takeContext r (State.takeContextOf r b)
    | none => s.answer .takeContext r .argument []
  | _ => s.answer .takeContext r .argument []

end Sys2Proof.Machine
end

