-- ==== Sys2Proof/Machine/Motion.lean ====
section
/-! DEFINITION. The Motion Monitor: samples, the lost sensor, the motion class and jolts (chapter 4). -/

namespace Sys2Proof.Machine

/-- A reading lies within −16000 to 16000 mg (R79). -/
def axisValid (a : Int) : Bool := -16000 ≤ a && a ≤ 16000

/-- A sample is valid when the sensor is ready and all three axes are in range (R79). -/
def sampleValid (ready : Bool) (a : Accel) : Bool := ready && axisValid a.x && axisValid a.y && axisValid a.z

/-- The largest of the three absolute differences (R82). -/
def Accel.differs (a b : Accel) : Nat :=
  max (a.x - b.x).natAbs (max (a.y - b.y).natAbs (a.z - b.z).natAbs)

/-- The deviation of a sample: against the valid sample eight valid samples earlier, and 0 while there is none (R82). -/
def Motion.deviation (m : Motion) (a : Accel) : Nat :=
  if m.lastSamples.length < 8 then 0
  else
    match m.lastSamples with
    | old :: _ => a.differs old
    | [] => 0

/-- A list with one more entry at the end, keeping the last `n` (R82, R83). -/
def pushKeeping {α : Type} (n : Nat) (l : List α) (a : α) : List α :=
  (l ++ [a]).drop (l.length + 1 - n)

/-- The roll count figure: the deviations in the ring at or above the roll threshold (R85). -/
def Motion.rollFigure (m : Motion) (threshold : Nat) : Nat := (m.ring.filter (fun d => threshold ≤ d)).length

/-- The dwell timer restarted by a deviation at or above the roll threshold while UNSETTLED (R86). -/
def State.restartDwell (d : Nat) (s : State) : State :=
  if s.motion.cls = .unsettled && s.settings.rollThreshold ≤ d then s.modMotion (fun m => { m with dwellStart := s.now })
  else s

/-- The class after a sample, by the first row of R85 that applies; the ring holds the new deviation and the dwell timer
has had its restart. The dwell timer's elapsed time is compared in exact µs: whether it counts in whole ms of the case
clock is the model's choice (R86, log 31). -/
def State.settledClass (d : Nat) (s : State) : MotionClass :=
  let rolls := s.settings.rollCount ≤ s.motion.rollFigure s.settings.rollThreshold
  match s.motion.cls with
  | .still =>
    if rolls then .rolling
    else if s.settings.rollThreshold ≤ d then .unsettled
    else .still
  | .unsettled =>
    if rolls then .rolling
    else if s.settings.stillnessDwell * ms ≤ s.now - s.motion.dwellStart then .still
    else .unsettled
  | .rolling => if rolls then .rolling else .unsettled

/-- A change of the motion class (R87): the event, the grant evaluation, and on a change to STILL the deferred load
starts. Every entry into UNSETTLED restarts the dwell timer (R86). -/
def State.changeClass (new : MotionClass) (s : State) : State :=
  let changed := (s.modMotion (fun m => { m with
    cls := new
    dwellStart := if new = .unsettled then s.now else m.dwellStart })).addCaseEvent .motionChanged
  let evaluated := changed.evaluate
  if new = .still then evaluated.tryDeferredLoads else evaluated

/-- The exposure additions of an entry into ROLLING (R88). -/
def State.exposeToRolling (s : State) : State := s.modBays BayRec.exposeToRolling

/-- The sweep that an entry into ROLLING hands, by the rolling policy (R88). -/
def RollingPolicy.sweepKind : RollingPolicy → Option SweepKind
  | .keep => none
  | .park => some .park
  | .parkAndStop => some .parkAndStop

/-- The class settled at a sample (R85), with the effects of a change (R87, R88); the sweep that an entry into ROLLING
hands is taken after the whole sample (R88, R89). -/
def State.settleClass (d : Nat) (s : State) : State × Option SweepKind :=
  let new := s.settledClass d
  if new = s.motion.cls then (s, none)
  else if new = .rolling then ((s.changeClass new).exposeToRolling, s.settings.rollingPolicy.sweepKind)
  else (s.changeClass new, none)

/-- A record that opens (R90, R95): the ninth removes the oldest. -/
def State.openJolt (before : MotionClass) (d : Nat) (s : State) : State :=
  let set := s.loadedSet
  let record : JoltRec :=
    { isOpen := true, time := s.clock, peak := d, count := 1, classBefore := before, loaded := set,
      parked := 0, late := 0, pulled := 0, duration := none }
  let opened := (s.modMotion (fun m => { m with
    jolts := pushKeeping 8 m.jolts record, opened := m.opened + 1 })).modBays BayRec.exposeToJolt
  let reported := if set = 0 then opened else opened.reportCase .joltLoaded
  (reported.addCaseEvent .joltOpened).closeJolt

/-- A jolt merged into the newest record (R91). -/
def JoltRec.merge (d : Nat) (j : JoltRec) : JoltRec :=
  { j with peak := max j.peak d, count := min 255 (j.count + 1) }

/-- A jolt merges: a record is open, or the last jolt lies 200 ms or less before this sample (R89). -/
def State.joltMerges (s : State) : Bool :=
  (match s.newestJolt with
    | some j => j.isOpen
    | none => false) ||
  (match s.motion.lastJolt with
    | some t => s.now - t ≤ joltMergeSpan
    | none => false)

/-- The jolt test of a valid sample (R89), with the sweep that a new record hands. -/
def State.testJolt (before : MotionClass) (d : Nat) (s : State) : State × Option SweepKind :=
  if s.settings.joltThreshold ≤ d then
    let stamp (t : State) : State := t.modMotion (fun m => { m with lastJolt := some s.now })
    if s.joltMerges then
      (stamp (s.modMotion (fun m => { m with jolts := modNewest (JoltRec.merge d) m.jolts })), none)
    else (stamp (s.openJolt before d), some .jolt)
  else (s, none)

/-- A sweep that was handed, if one was. -/
def State.sweep? (k : Option SweepKind) (s : State) : State :=
  match k with
  | some k => s.sweep k
  | none => s

/-- A deviation entered in the ring, with its sample (R82, R83). -/
def State.enterRing (a : Accel) (d : Nat) (s : State) : State :=
  s.modMotion (fun m => { m with
    missing := 0
    ring := pushKeeping 64 m.ring d
    lastSamples := pushKeeping 8 m.lastSamples a })

/-- The first valid sample after a loss (R81): the recovery, then the sample as the first of the empty ring. -/
def State.recover (a : Accel) (s : State) : State :=
  ((s.modMotion (fun m => { m with lost := false, missing := 0, ring := [], lastSamples := [] })).changeClass
    .unsettled).enterRing a 0

/-- A valid sample (R79): the deviation and the ring, the class, the jolt test, and then the sweeps handed, the rolling
sweep first (R89). The grant evaluation of a class change is run before the jolt test of the same sample, so that the
exposure of a new record reads a bay granted by it as SPINNING_UP: the model's choice (R87, R90, log 33). -/
def State.validSample (a : Accel) (s : State) : State :=
  if s.motion.lost then s.recover a
  else
    let d := s.motion.deviation a
    let before := s.motion.cls
    let (settled, rolling) := ((s.enterRing a d).restartDwell d).settleClass d
    let (tested, jolt) := settled.testJolt before d
    (tested.sweep? rolling).sweep? jolt

/-- The sensor is lost (R80): the flag, the class forced to ROLLING with the exposures of the entry and no sweep of the
policy, SENSOR_LOST, and the SENSOR_LOST sweep. -/
def State.loseSensor (s : State) : State :=
  let flagged := s.modMotion (fun m => { m with lost := true })
  let rolled := if s.motion.cls = .rolling then flagged else (flagged.changeClass .rolling).exposeToRolling
  (rolled.reportCase .sensorLost).sweep .sensorLost

/-- A missing sample (R80): the count rises, and at 20 the sensor is lost, once for each loss. The twentieth sample falls
47.5 ms after the first, where R96 says 50 ms: the model follows the count (log 32). -/
def State.missingSample (s : State) : State :=
  let counted := s.modMotion (fun m => { m with missing := m.missing + 1 })
  if 20 ≤ counted.motion.missing && !counted.motion.lost then counted.loseSensor else counted

/-- Time goes on to the next sample's mark, and the sample after it is due one period later (R79, log 3). -/
def State.toSample (s : State) : State :=
  let t := s.toMark samplePeriod s.motion.nextSample
  t.modMotion (fun m => { m with nextSample := t.now + samplePeriod })

/-- A run of `n` missing samples, one at each mark. -/
def State.missingSamples : Nat → State → State
  | 0, s => s
  | n + 1, s => State.missingSamples n s.toSample.missingSample

/-- MOTION_SAMPLE (R79). -/
def execMotionSample (dt : Nat) (ready : Bool) (x y z : Int) (s : State) : Host.Outcome State Fault Refusal :=
  s.takeEvent dt (fun s =>
    let a : Accel := { x := x, y := y, z := z }
    if sampleValid ready a then s.toSample.validSample a else s.toSample.missingSample)

/-- SENSOR_LOST (R80): the missing samples still lacking to a count of 20, the last of which loses the sensor. A lost
sensor is reported once for each loss (log 12). -/
def execSensorLost (dt : Nat) (s : State) : Host.Outcome State Fault Refusal :=
  s.takeEvent dt (fun s =>
    if s.motion.lost then s else State.missingSamples (max 1 (20 - s.motion.missing)) s)

end Sys2Proof.Machine
end

