-- ==== Sys2Proof/Machine/Supply.lean ====
section
/-! DEFINITION. The Supply Monitor: readings, classes, the effective budget and the cut (6.1 to 6.3). -/

namespace Sys2Proof.Machine

/-- The supply monitor changed by `f`. -/
def State.modSupply (f : Supply → Supply) (s : State) : State := { s with supply := f s.supply }

/-- The effective budget of a class (R33, R117); the no-reading condition reads CUT. -/
def CaseSettings.budgetOf (c : CaseSettings) : SupplyClass → Nat
  | .normal => c.surgeBudget
  | .low => min c.leanBudget c.surgeBudget
  | .cut => 0

/-- The effective budget derived anew (R117). -/
def State.deriveBudget (s : State) : State :=
  s.modSupply (fun m => { m with budget := s.settings.budgetOf m.cls })

/-- The class of a first reading, without hysteresis (R115). -/
def CaseSettings.firstClass (c : CaseSettings) (v : Nat) : SupplyClass :=
  if v ≤ c.supplyCutoff then .cut else if v ≤ c.supplyLow then .low else .normal

/-- The class of a later reading, by the first row of R116 that applies, with a hysteresis of 200 mV. -/
def CaseSettings.nextClass (c : CaseSettings) (old : SupplyClass) (v : Nat) : SupplyClass :=
  if v ≤ c.supplyCutoff then .cut
  else
    match old with
    | .normal => if v ≤ c.supplyLow then .low else .normal
    | .low => if c.supplyLow + 200 ≤ v then .normal else .low
    | .cut =>
      if c.supplyLow + 200 ≤ v then .normal
      else if c.supplyCutoff + 200 ≤ v then .low
      else .cut

/-- The cut at the bay in DIAG (R121): the test is aborted and its TEST entry joins the tail. -/
def State.cutTest (b : BayNo) (s : State) : State :=
  (((s.releaseGrant b).modArbiter (fun a => { a with
    queue := a.queue ++ [{ bay := b, kind := .test, skip := 0 }] })).modBay b
    (fun r => { r with winding := .aborted, windingCurrent := none })).enterAfter .testDone b .queued |>.evaluate

/-- The cut at one bay outside the sweep (R119–R122). -/
def State.cutBay (b : BayNo) (s : State) : State :=
  match (s.bay b).state with
  | .spinningUp => s.abortSpinUp b .respin
  | .diag => s.cutTest b
  | .vacant | .stopped | .queued | .spun | .loading | .loaded | .parkQueued | .unloading | .spinningDown
  | .held | .fenced => s

/-- The cut actions (R119). The holders, each bay and the Unload Scheduler, take them in no order (log 9); the sweep is
one event of the scheduler, so the bays that park in its start pass raise PARKED in queue order (R64, R103). -/
def State.cutActions (s : State) : State :=
  s.inFreeOrder (allBays.map State.cutBay ++ [State.sweep .cut])

/-- The effects of an entry into a class (R118). -/
def State.enterClass (new : SupplyClass) (s : State) : State :=
  match new with
  | .normal => s
  | .low => s.reportCase .supplyLow
  | .cut => (s.reportCase .supplyCut).cutActions

/-- A change of the supply class (R118): the class and the budget, SUPPLY_CHANGED, the effects of the entry, the grant
evaluation, and on leaving CUT the deferred load starts (R123). -/
def State.changeSupply (new : SupplyClass) (s : State) : State :=
  let changed := ((s.modSupply (fun m => { m with cls := new })).deriveBudget).addCaseEvent .supplyChanged
  let evaluated := (changed.enterClass new).evaluate
  if s.supply.cls = .cut && new ≠ .cut then evaluated.tryDeferredLoads else evaluated

/-- A reading taken whole (R114–R116): the first is a class change in every case. -/
def State.takeReading (millivolts : Nat) (s : State) : State :=
  let v := min 15000 millivolts
  let read := s.modSupply (fun m => { m with lastReading := some v, nextReading := some (s.now + readingPeriod) })
  if s.supply.lastReading.isNone then read.changeSupply (s.settings.firstClass v)
  else
    let new := s.settings.nextClass s.supply.cls v
    if new = s.supply.cls then read else read.changeSupply new

/-- SUPPLY_READING (R114): on a 1 ms mark; no reading is taken before the start-up load has ended. -/
def execSupplyReading (dt : Nat) (millivolts : Nat) (s : State) : Host.Outcome State Fault Refusal :=
  s.takeEvent dt (fun s =>
    match s.supply.nextReading with
    | some t => (s.toMark readingPeriod t).takeReading millivolts
    | none => s)

end Sys2Proof.Machine
end

