-- ==== Sys2Proof/Machine/Transit.lean ====
section
/-! DEFINITION. The Transit Safety Unit: the quiet timer and the entry into TRANSIT_SAFE (6.4, 6.5). -/

namespace Sys2Proof.Machine

/-- The length that a quiet code names, in ms; none for 0 (off) and 7 (start safe) (R124). -/
def quietLength (code : Nat) : Option Nat :=
  match code with
  | 1 => some 1000
  | 2 => some 2000
  | 3 => some 5000
  | 4 => some 10000
  | 5 => some 30000
  | 6 => some 60000
  | _ => none

/-- The transit unit changed by `f`. -/
def State.modTransit (f : Transit → Transit) (s : State) : State := { s with transit := f s.transit }

/-- The quiet timer started under the code in force, or stopped for codes 0 and 7 (R124, R125). -/
def State.startQuiet (s : State) : State :=
  s.modTransit (fun t => { t with quietDue := (quietLength s.settings.quietCode).map (fun l => s.now + l * ms) })

/-- A frame that passes its check restarts the quiet timer while it runs (R124). -/
def State.restartQuiet (s : State) : State :=
  if s.transit.quietDue.isSome then s.startQuiet else s

/-- A new quiet code acts on the timer: in NORMAL it starts or stops it, in TRANSIT_SAFE it does nothing (R125). -/
def State.quietCodeChanged (s : State) : State :=
  match s.transit.mode with
  | .normal => s.startQuiet
  | .transitSafe => s

/-- The entry into TRANSIT_SAFE at one bay outside the sweep (R130), and every bay's load-on-arrival flag cleared. -/
def State.transitBay (b : BayNo) (s : State) : State :=
  let handled :=
    match (s.bay b).state with
    | .queued => ((s.dropEntry b).enter b .stopped).evaluate
    | .spinningUp => s.abortSpinUp b .stopAfter
    | .diag => (s.abortTest b .stopped).evaluate
    | .spun => s.spinDownWith b .stopAfter
    | .held => s.modBay b (fun r => { r with spindleOn := false, spen := none })
    | .loading | .loaded | .parkQueued | .unloading | .spinningDown | .stopped | .fenced | .vacant => s
  handled.setLoadOnArrival b false

/-- Entry into TRANSIT_SAFE (R130), from NORMAL only (R128). The mode changes first, so no evaluation of the entry
grants. The holders, the unit's own case event, each bay and the Unload Scheduler, take the entry in no order (R182,
log 9); the sweep is one event of the scheduler, so the bays that park in its start pass raise PARKED in queue order
(R64, R103). -/
def State.enterSafe (s : State) : State :=
  match s.transit.mode with
  | .transitSafe => s
  | .normal =>
    (s.modTransit (fun _ => { mode := .transitSafe, quietDue := none })).inFreeOrder
      (State.addCaseEvent .safeEntered :: allBays.map State.transitBay ++ [State.sweep .transit])

/-- What the unit does at the end of the start-up load and after a RESTART (R127). -/
def State.startTransit (s : State) : State :=
  if s.settings.quietCode = 7 then s.enterSafe else s.startQuiet

/-- QUIET_TIMER_EXPIRY (R126). -/
def execQuietTimerExpiry (dt : Nat) (s : State) : Host.Outcome State Fault Refusal :=
  s.takeEvent dt (fun s => s.onDue s.transit.quietDue (fun s => (s.reportCase .quiet).enterSafe))

end Sys2Proof.Machine
end

