-- ==== Sys2Proof/Machine/CaseRequests.lean ====
section
/-! DEFINITION. The handlers of the requests of the case: views, READ JOLTS, masks, transit, settings, profiles, the
store and RESTART (4.8, 6.6, 7.7, 7.9, chapter 9, 10.6, 10.7). -/

namespace Sys2Proof.Machine

/-- The link changed by `f`. -/
def State.modLink (f : Link → Link) (s : State) : State := { s with link := f s.link }

/-- The working settings changed by `f`. -/
def State.modWorking (f : WorkingSettings → WorkingSettings) (s : State) : State :=
  { s with store := { s.store with working := f s.store.working } }

/-- The CHECK flag of a request with an empty body: it is honoured after the body's length (R148, R176). -/
def withEmptyBody (k : ReqKind) (r : Req) (go : State → State) (s : State) : State :=
  match r.body with
  | [] => go s
  | _ :: _ => s.answer k r .argument []

/-! ### Views -/

/-- STATUS (R184): the CHECK flag is ignored. -/
def handleStatus (r : Req) (s : State) : State :=
  withEmptyBody .status r (fun s => s.answer .status r .done s.statusImage) s

/-- VIEW BAY NEXT (R185). -/
def State.viewNext (r : Req) (s : State) : State :=
  if h : s.link.cursor.val < 16 then
    let b : BayNo := ⟨s.link.cursor.val, h⟩
    (s.modLink (fun l => { l with cursor := b.succ })).answer .viewBay r .done (s.bayImage b)
  else s.answer .viewBay r .done []

/-- VIEW BAY of a bay that the body names (R185). -/
def State.viewNamed (r : Req) (b : BayNo) (s : State) : State :=
  if s.link.pin.isSome then s.answer .viewBay r .state []
  else (s.modLink (fun l => { l with cursor := b.succ })).answer .viewBay r .done (s.bayImage b)

/-- VIEW BAY (R185): the CHECK flag is ignored. -/
def handleViewBay (r : Req) (s : State) : State :=
  match r.body with
  | [n] =>
    if n = 0xFF then s.viewNext r
    else
      match bayOf n with
      | some b => s.viewNamed r b
      | none => s.answer .viewBay r .argument []
  | _ => s.answer .viewBay r .argument []

/-- The reply to VIEW PIN and VIEW UNPIN: the cursor after the request (10.7). -/
def State.answerCursor (k : ReqKind) (r : Req) (s : State) : State :=
  s.answer k r .done [byteOf s.link.cursor.val]

/-- VIEW PIN (R186). -/
def handleViewPin (r : Req) (s : State) : State :=
  withEmptyBody .viewPin r
    (fun s => (s.modLink (fun l => { l with pin := some (l.pin.getD l.cursor) })).answerCursor .viewPin r) s

/-- VIEW UNPIN (R186). -/
def handleViewUnpin (r : Req) (s : State) : State :=
  withEmptyBody .viewUnpin r
    (fun s => (s.modLink (fun l => { l with cursor := l.pin.getD l.cursor, pin := none })).answerCursor .viewUnpin r)
    s

/-- VIEW ENVIRONMENT (R151): the record as it stood, then every mask set; the CHECK flag is ignored. -/
def handleViewEnvironment (r : Req) (s : State) : State :=
  withEmptyBody .viewEnvironment r
    (fun s => (s.modWorking (fun w => { w with masks := BitVec.allOnes 13 })).answer .viewEnvironment r .done
      s.environmentImage) s

/-- READ JOLTS (R98): the count of records opened, the number on the list, and the records from the index on. -/
def handleReadJolts (r : Req) (s : State) : State :=
  match r.body with
  | [index] =>
    if 7 < index.toNat then s.answer .readJolts r .argument []
    else
      s.checked .readJolts r (fun s =>
        s.answer .readJolts r .done
          (le16 s.motion.opened ++ [byteOf s.motion.jolts.length]
            ++ (s.motion.jolts.drop index.toNat).flatMap JoltRec.image))
  | _ => s.answer .readJolts r .argument []

/-! ### Masks and transit -/

/-- SET MASKS (R147): bits 13–15 are ignored (R189), and so is the CHECK flag. -/
def handleSetMasks (r : Req) (s : State) : State :=
  match r.body with
  | [lo, hi] =>
    (s.modWorking (fun w => { w with masks := (word16 lo hi).extractLsb' 0 13 })).answer .setMasks r .done []
  | _ => s.answer .setMasks r .argument []

/-- FORCE SAFE (R131). -/
def handleForceSafe (r : Req) (s : State) : State :=
  withEmptyBody .forceSafe r (State.checked .forceSafe r (fun s => s.enterSafe.answer .forceSafe r .done [])) s

/-- The return to NORMAL (R132). -/
def State.leaveSafe (s : State) : State :=
  match s.transit.mode with
  | .normal => s
  | .transitSafe => ((s.modTransit (fun t => { t with mode := .normal })).startQuiet).addCaseEvent .safeLeft

/-- LEAVE SAFE (R132). -/
def handleLeaveSafe (r : Req) (s : State) : State :=
  withEmptyBody .leaveSafe r (State.checked .leaveSafe r (fun s => s.leaveSafe.answer .leaveSafe r .done [])) s

/-! ### Settings and profiles -/

/-- The action of a SET answered DONE, by the number of the setting (R167). -/
def State.settingTakesEffect (number : Nat) (s : State) : State :=
  match number with
  | 1 | 2 => s.deriveBudget.evaluate
  | 3 | 4 | 5 | 8 | 9 | 18 => s.evaluate
  | 6 => s.startPass
  | 16 => s.quietCodeChanged
  | _ => s

/-- The reply body of SET and GET: the number and the value in force (R191). -/
def State.settingBody (number : Byte) (s : State) : List Byte :=
  number :: le16OfNat (s.settings.get number.toNat)

/-- A setting number that names none (R165, R166). -/
def settingNumberBad (number : Byte) : Bool := number.toNat = 0 || 21 < number.toNat

/-- SET of a setting that exists (R165): KEPT where the value is refused. -/
def State.setSettingTo (r : Req) (number : Byte) (v : Nat) (s : State) : State :=
  match s.settings.set? number.toNat v with
  | some c =>
    let changed := (s.modWorking (fun w => { w with case := c })).settingTakesEffect number.toNat
    changed.answer .setSetting r .done (changed.settingBody number)
  | none => s.answer .setSetting r .kept (s.settingBody number)

/-- SET (R165). -/
def handleSetSetting (r : Req) (s : State) : State :=
  match r.body with
  | [number, lo, hi] =>
    if settingNumberBad number then s.answer .setSetting r .argument []
    else s.checked .setSetting r (State.setSettingTo r number (nat16 lo hi))
  | _ => s.answer .setSetting r .argument []

/-- GET (R166). -/
def handleGetSetting (r : Req) (s : State) : State :=
  match r.body with
  | [number] =>
    if settingNumberBad number then s.answer .getSetting r .argument []
    else s.checked .getSetting r (fun s => s.answer .getSetting r .done (s.settingBody number))
  | _ => s.answer .getSetting r .argument []

/-- The reply body of SET PROFILE and GET PROFILE: the number and the profile as it stands (R191). -/
def State.profileBody (n : Fin 8) (s : State) : List Byte :=
  byteOf n.val :: (s.store.working.profiles[n]).image

/-- SET PROFILE of a profile that exists (R161): all fields are replaced, or all are kept. -/
def State.setProfileTo (r : Req) (n : Fin 8) (p : Profile) (s : State) : State :=
  if p.valid then
    let changed := s.modWorking (fun w => { w with profiles := w.profiles.set n.val p n.isLt })
    changed.answer .setProfile r .done (changed.profileBody n)
  else s.answer .setProfile r .kept (s.profileBody n)

/-- SET PROFILE (R161). -/
def handleSetProfile (r : Req) (s : State) : State :=
  match r.body with
  | number :: image =>
    match profileOf image with
    | some p =>
      match profileNoOf number with
      | some n => s.checked .setProfile r (State.setProfileTo r n p)
      | none => s.answer .setProfile r .argument []
    | none => s.answer .setProfile r .argument []
  | [] => s.answer .setProfile r .argument []

/-- GET PROFILE (R162). -/
def handleGetProfile (r : Req) (s : State) : State :=
  match r.body with
  | [number] =>
    match profileNoOf number with
    | some n => s.checked .getProfile r (fun s => s.answer .getProfile r .done (s.profileBody n))
    | none => s.answer .getProfile r .argument []
  | _ => s.answer .getProfile r .argument []

/-- The reply body of SET BAY (R191). -/
def State.selectionBody (b : BayNo) (s : State) : List Byte :=
  [byteOf b.val, byteOf s.store.working.selections[b].val]

/-- SET BAY of a bay that exists (R163). -/
def State.setSelection (r : Req) (b : BayNo) (profile : Byte) (s : State) : State :=
  match profileNoOf profile with
  | some n =>
    let changed := s.modWorking (fun w => { w with selections := w.selections.set b.val n b.isLt })
    changed.answer .setBay r .done (changed.selectionBody b)
  | none => s.answer .setBay r .kept (s.selectionBody b)

/-- SET BAY (R163). -/
def handleSetBay (r : Req) (s : State) : State :=
  match r.body with
  | [bay, profile] =>
    match bayOf bay with
    | some b => s.checked .setBay r (State.setSelection r b profile)
    | none => s.answer .setBay r .argument []
  | _ => s.answer .setBay r .argument []

/-! ### The store -/

/-- The store changed by `f`. -/
def State.modStore (f : Store → Store) (s : State) : State := { s with store := f s.store }

/-- A commit starts (R170): the copy is taken, and the old image is no longer valid (R171, log 7). -/
def State.startCommit (s : State) : State :=
  s.modStore (fun t => { t with commit := some t.working, image := t.image.spoiled })

/-- COMMIT (R170). -/
def handleCommit (r : Req) (s : State) : State :=
  withEmptyBody .commit r (State.checked .commit r (fun s =>
    if s.store.commit.isSome then s.answer .commit r .busy []
    else s.startCommit.answer .commit r .accepted [])) s

/-- The image replaces the working settings (R172), with the effects of a SET of every setting taken together once; the
quiet timer is acted on where the code has changed (R125). -/
def State.recallImage (s : State) : State :=
  let recalled := ((s.modWorking (fun _ => s.store.image.values)).deriveBudget).evaluate.startPass
  if s.store.image.values.case.quietCode = s.settings.quietCode then recalled else recalled.quietCodeChanged

/-- RECALL (R172). -/
def handleRecall (r : Req) (s : State) : State :=
  withEmptyBody .recall r (State.checked .recall r (fun s =>
    if s.store.commit.isSome then s.answer .recall r .busy []
    else if s.store.image.passes then s.recallImage.answer .recall r .done []
    else (s.reportCase .storeBad).answer .recall r .store [])) s

/-! ### RESTART -/

/-- A bay that refuses RESTART (R173). -/
def BayRec.refusesRestart (r : BayRec) : Bool :=
  match r.state with
  | .spinningUp | .spun | .loading | .loaded | .parkQueued | .unloading | .spinningDown | .diag => true
  | .held => r.spindleOn || !r.prk
  | .vacant | .stopped | .queued | .fenced => false

/-- RESTART at one bay (R27): QUEUED, FENCED and HELD bays go to STOPPED without an event; faults, counts and latched
copies are cleared. -/
def State.restartBay (b : BayNo) (s : State) : State :=
  let moved :=
    match (s.bay b).state with
    | .queued | .fenced | .held => s.enterQuietly b .stopped
    | .vacant | .stopped | .spinningUp | .spun | .loading | .loaded | .parkQueued | .unloading
    | .spinningDown | .diag => s
  moved.modBay b (fun r => { r with
    sticky := 0
    pending := 0
    attempts := 0
    intent := .none
    spindleOn := false
    loadOnArrival := false
    latched := none })

/-- Every block at its RESTART values (R27, R31, R63, R96, R100, R114, R127, R134, R174, R183, R185). -/
def State.restartBlocks (s : State) : State :=
  let b := s.forBays State.restartBay
  { b with
    arbiter := .reset
    scheduler := .reset
    motion := { b.motion with
      cls := .unsettled
      ring := []
      lastSamples := []
      dwellStart := b.now
      missing := 0
      lost := false }
    transit := .reset
    faults := .reset
    link := { b.link with notices := [], cursor := 0, pin := none } }

/-- RESTART taken (R174): the reply first, with the SUMMARY from before, then the blocks, the transit unit and the notice
STARTED. -/
def State.takeRestart (r : Req) (s : State) : State :=
  ((s.answer .restart r .done []).restartBlocks.startTransit).addCaseEvent .started

/-- RESTART (R173). -/
def handleRestart (r : Req) (s : State) : State :=
  withEmptyBody .restart r (State.checked .restart r (fun s =>
    if s.store.commit.isSome then s.answer .restart r .busy []
    else if s.bays.any BayRec.refusesRestart then s.answer .restart r .state []
    else s.takeRestart r)) s

end Sys2Proof.Machine
end

