-- ==== Sys2Proof/Machine/Link.lean ====
section
/-! DEFINITION. The link: what a frame that passes its check meets, the receiver, the end of a sent frame, and the
requests as commands (10.1, 10.2, 10.4). -/

namespace Sys2Proof.Machine

/-! ### A frame that has passed its check (R176) -/

/-- The receiver hunts again, and no byte gap is watched (R175). -/
def State.hunt (s : State) : State := s.modLink (fun l => { l with rx := .hunting, gapDue := none })

/-- What comes with every frame that passes its check, taken or discarded: the receiver returns to hunting and the quiet
timer restarts (R176, R124). -/
def State.frameArrived (s : State) : State := s.hunt.restartQuiet

/-- A request that has passed its frame's check, by the first row of R176 that applies. -/
def takeRequest (k : ReqKind) (handle : Req → State → State) (r : Req) (s : State) : State :=
  let t := s.frameArrived
  if t.link.slot.isSome then t
  else if t.store.loading && k != .status then t.answer k r .busy []
  else if r.body.length ≠ k.bodyLen then t.answer k r .argument []
  else handle r t

/-- The KIND of a reply to a KIND that names no request (R177). -/
def unknownReplyKind : Byte := 0xFF

/-- A frame whose KIND names no request, by the first row of R176 that applies. -/
def takeUnknown (r : Req) (s : State) : State :=
  let t := s.frameArrived
  if t.link.slot.isSome then t
  else if t.store.loading then t.replyWith unknownReplyKind r.tag .busy []
  else t.replyWith unknownReplyKind r.tag .unknown []

/-- The handler of each kind (R190). -/
def handler : ReqKind → Req → State → State
  | .status => handleStatus
  | .viewBay => handleViewBay
  | .viewPin => handleViewPin
  | .viewUnpin => handleViewUnpin
  | .viewEnvironment => handleViewEnvironment
  | .readJolts => handleReadJolts
  | .spinUp => handleSpinUp
  | .spinDown => handleSpinDown
  | .load => handleLoad
  | .unload => handleUnload
  | .testWinding => handleTestWinding
  | .release => handleRelease
  | .clearFaults => handleClearFaults
  | .takeContext => handleTakeContext
  | .setMasks => handleSetMasks
  | .forceSafe => handleForceSafe
  | .leaveSafe => handleLeaveSafe
  | .setSetting => handleSetSetting
  | .getSetting => handleGetSetting
  | .setProfile => handleSetProfile
  | .getProfile => handleGetProfile
  | .setBay => handleSetBay
  | .commit => handleCommit
  | .recall => handleRecall
  | .restart => handleRestart

/-- A frame that has passed its check, by its KIND. -/
def takeFrame (kind : Byte) (r : Req) (s : State) : State :=
  match ReqKind.ofCode? kind with
  | some k => takeRequest k (handler k) r s
  | none => takeUnknown r s

/-! ### The receiver (R175, R176) -/

/-- The bytes after SYNC of a whole frame, split: LENGTH through BODY, and the two CRC bytes. -/
def crcMatches (received : List Byte) (n : Nat) : Bool :=
  received.drop (n + 1) == le16 (crc16 (received.take (n + 1)))

/-- A complete frame, LENGTH first (R176). -/
def State.completeFrame (received : List Byte) (s : State) : State :=
  match received with
  | len :: kind :: flags :: tag :: rest =>
    if crcMatches received len.toNat then
      takeFrame kind { flags := flags, tag := tag, body := rest.take (len.toNat - 3) } s
    else s.hunt
  | _ => s.hunt

/-- The receiver stays inside the frame, with the bytes collected so far; the byte gap is watched from this byte. -/
def State.collect (received : List Byte) (s : State) : State :=
  s.modLink (fun l => { l with rx := .inside received, gapDue := some (s.now + byteGap) })

/-- A byte inside a frame: LENGTH, and then the bytes from KIND to the CRC (R175). -/
def State.collectByte (received : List Byte) (b : Byte) (s : State) : State :=
  match received with
  | [] => if b.toNat < 3 || 243 < b.toNat then s.hunt else s.collect [b]
  | len :: _ =>
    let all := received ++ [b]
    if all.length < len.toNat + 3 then s.collect all else s.completeFrame all

/-- More than 10 ms have passed inside a frame, so that the frame is discarded (R175). -/
def State.gapPassed (s : State) : Bool :=
  match s.link.gapDue with
  | some t => t ≤ s.now
  | none => false

/-- A byte with a good stop bit (R175). A byte that comes after the gap finds the receiver hunting. -/
def State.receiveByte (b : Byte) (s : State) : State :=
  let t := if s.gapPassed then s.hunt else s
  match t.link.rx with
  | .hunting => if b = syncByte then t.collect [] else t
  | .inside received => t.collectByte received b

/-- RXD_BYTE (R175). -/
def execRxdByte (dt : Nat) (b : Byte) (s : State) : Host.Outcome State Fault Refusal :=
  s.takeEvent dt (State.receiveByte b)

/-- FRAME_DISCARD (R175): a byte with a bad stop bit is discarded with the frame, or skipped while hunting; a LENGTH out
of range is a byte received in the place of LENGTH. -/
def execFrameDiscard (dt : Nat) (c : DiscardCause) (s : State) : Host.Outcome State Fault Refusal :=
  s.takeEvent dt (fun s =>
    match c with
    | .badStop _ => s.hunt
    | .badLength b => s.receiveByte b)

/-- BYTE_GAP_TIMEOUT (R175). -/
def execByteGapTimeout (dt : Nat) (s : State) : Host.Outcome State Fault Refusal :=
  s.takeEvent dt (fun s => s.onDue s.link.gapDue State.hunt)

/-- CRC_MISMATCH (R176): no reply, and no restart of the quiet timer. -/
def execCrcMismatch (dt : Nat) (s : State) : Host.Outcome State Fault Refusal := s.takeEvent dt State.hunt

/-- UNKNOWN_KIND (R176). -/
def execUnknownKind (dt : Nat) (kind : Byte) (r : Req) (s : State) : Host.Outcome State Fault Refusal :=
  s.takeEvent dt (takeFrame kind r)

/-! ### The end of a sent frame (R181) -/

/-- The last byte has left: the line is free, and the slot too if it held this frame (R177, R181). -/
def State.frameSent (f : TxFrame) (s : State) : State :=
  s.modLink (fun l => { l with tx := none, slot := if f.isReply then none else l.slot })

/-- TX_FRAME_END (R181): the next frame starts with the event's end. -/
def execTxFrameEnd (dt : Nat) (s : State) : Host.Outcome State Fault Refusal :=
  s.takeEvent dt (fun s =>
    match s.link.tx with
    | some f => (s.advanceTo f.due).frameSent f
    | none => s)

/-! ### The requests -/

/-- STATUS (R184). -/
def execStatus (dt : Nat) (r : Req) (s : State) : Host.Outcome State Fault Refusal :=
  s.takeEvent dt (takeRequest .status handleStatus r)

/-- VIEW BAY (R185). -/
def execViewBay (dt : Nat) (r : Req) (s : State) : Host.Outcome State Fault Refusal :=
  s.takeEvent dt (takeRequest .viewBay handleViewBay r)

/-- VIEW PIN (R186). -/
def execViewPin (dt : Nat) (r : Req) (s : State) : Host.Outcome State Fault Refusal :=
  s.takeEvent dt (takeRequest .viewPin handleViewPin r)

/-- VIEW UNPIN (R186). -/
def execViewUnpin (dt : Nat) (r : Req) (s : State) : Host.Outcome State Fault Refusal :=
  s.takeEvent dt (takeRequest .viewUnpin handleViewUnpin r)

/-- VIEW ENVIRONMENT (R151). -/
def execViewEnvironment (dt : Nat) (r : Req) (s : State) : Host.Outcome State Fault Refusal :=
  s.takeEvent dt (takeRequest .viewEnvironment handleViewEnvironment r)

/-- READ JOLTS (R98). -/
def execReadJolts (dt : Nat) (r : Req) (s : State) : Host.Outcome State Fault Refusal :=
  s.takeEvent dt (takeRequest .readJolts handleReadJolts r)

/-- SPIN UP (R52, R53). -/
def execSpinUp (dt : Nat) (r : Req) (s : State) : Host.Outcome State Fault Refusal :=
  s.takeEvent dt (takeRequest .spinUp handleSpinUp r)

/-- SPIN DOWN (R55). -/
def execSpinDown (dt : Nat) (r : Req) (s : State) : Host.Outcome State Fault Refusal :=
  s.takeEvent dt (takeRequest .spinDown handleSpinDown r)

/-- LOAD (R75, R76). -/
def execLoad (dt : Nat) (r : Req) (s : State) : Host.Outcome State Fault Refusal :=
  s.takeEvent dt (takeRequest .load handleLoad r)

/-- UNLOAD (R77). -/
def execUnload (dt : Nat) (r : Req) (s : State) : Host.Outcome State Fault Refusal :=
  s.takeEvent dt (takeRequest .unload handleUnload r)

/-- TEST WINDING (R152). -/
def execTestWinding (dt : Nat) (r : Req) (s : State) : Host.Outcome State Fault Refusal :=
  s.takeEvent dt (takeRequest .testWinding handleTestWinding r)

/-- RELEASE (R142). -/
def execRelease (dt : Nat) (r : Req) (s : State) : Host.Outcome State Fault Refusal :=
  s.takeEvent dt (takeRequest .release handleRelease r)

/-- CLEAR FAULTS (R145). -/
def execClearFaults (dt : Nat) (r : Req) (s : State) : Host.Outcome State Fault Refusal :=
  s.takeEvent dt (takeRequest .clearFaults handleClearFaults r)

/-- TAKE CONTEXT (R24). -/
def execTakeContext (dt : Nat) (r : Req) (s : State) : Host.Outcome State Fault Refusal :=
  s.takeEvent dt (takeRequest .takeContext handleTakeContext r)

/-- SET MASKS (R147). -/
def execSetMasks (dt : Nat) (r : Req) (s : State) : Host.Outcome State Fault Refusal :=
  s.takeEvent dt (takeRequest .setMasks handleSetMasks r)

/-- FORCE SAFE (R131). -/
def execForceSafe (dt : Nat) (r : Req) (s : State) : Host.Outcome State Fault Refusal :=
  s.takeEvent dt (takeRequest .forceSafe handleForceSafe r)

/-- LEAVE SAFE (R132). -/
def execLeaveSafe (dt : Nat) (r : Req) (s : State) : Host.Outcome State Fault Refusal :=
  s.takeEvent dt (takeRequest .leaveSafe handleLeaveSafe r)

/-- SET (R165, R167). -/
def execSetSetting (dt : Nat) (r : Req) (s : State) : Host.Outcome State Fault Refusal :=
  s.takeEvent dt (takeRequest .setSetting handleSetSetting r)

/-- GET (R166). -/
def execGetSetting (dt : Nat) (r : Req) (s : State) : Host.Outcome State Fault Refusal :=
  s.takeEvent dt (takeRequest .getSetting handleGetSetting r)

/-- SET PROFILE (R161). -/
def execSetProfile (dt : Nat) (r : Req) (s : State) : Host.Outcome State Fault Refusal :=
  s.takeEvent dt (takeRequest .setProfile handleSetProfile r)

/-- GET PROFILE (R162). -/
def execGetProfile (dt : Nat) (r : Req) (s : State) : Host.Outcome State Fault Refusal :=
  s.takeEvent dt (takeRequest .getProfile handleGetProfile r)

/-- SET BAY (R163). -/
def execSetBay (dt : Nat) (r : Req) (s : State) : Host.Outcome State Fault Refusal :=
  s.takeEvent dt (takeRequest .setBay handleSetBay r)

/-- COMMIT (R170). -/
def execCommit (dt : Nat) (r : Req) (s : State) : Host.Outcome State Fault Refusal :=
  s.takeEvent dt (takeRequest .commit handleCommit r)

/-- RECALL (R172). -/
def execRecall (dt : Nat) (r : Req) (s : State) : Host.Outcome State Fault Refusal :=
  s.takeEvent dt (takeRequest .recall handleRecall r)

/-- RESTART (R173, R174). -/
def execRestart (dt : Nat) (r : Req) (s : State) : Host.Outcome State Fault Refusal :=
  s.takeEvent dt (takeRequest .restart handleRestart r)

end Sys2Proof.Machine
end

