-- ==== Sys2Proof/Machine/Power.lean ====
section
/-! DEFINITION. Power-on, RESET_N, the end of the start-up load, and the end of a commit (1.9, chapter 9). -/

namespace Sys2Proof.Machine

/-! ### Resets (R26, R169, R171) -/

/-- The store image after a reset: non-volatile, and already marked invalid where the reset ends a commit (R171). -/
def Store.afterReset (t : Store) : Store where
  working := .factory
  image := t.image
  commit := none
  loading := true

/-- A bay after a reset at `now`: the record of R26 with the case clock in its entry time, the presence debounce
counting from the first 1 ms mark after the reset (R8), and the level of PRK, which is an input (log 5). -/
def BayRec.afterReset (now : Nat) (r : BayRec) : BayRec :=
  { BayRec.reset with
    entryTime := caseClock now
    prk := r.prk
    timers := { Timers.stopped with debounce := some (now / ms * ms + debounceLength) } }

/-- Every block at its reset values, with the time at the reset given. The commands that wait, the free-value counter,
the store image and the levels of PRK stay. The 2.5 ms marks of the first sample (R79) are counted on the µs since
power-on, also after a wrap of the case clock: the model's choice (log 34). -/
def State.afterReset (now : Nat) (s : State) : State where
  now := now
  bays := s.bays.map (BayRec.afterReset now)
  arbiter := .reset
  scheduler := .reset
  motion := { Motion.reset with dwellStart := now, nextSample := (now / samplePeriod + 1) * samplePeriod }
  supply := .reset
  transit := .reset
  faults := .reset
  store := s.store.afterReset
  link := .reset
  freeTick := s.freeTick
  pending := s.pending

/-- POWER_ON (R26): the case clock is 0. -/
def execPowerOn (s : State) : Host.Outcome State Fault Refusal := .next (s.afterReset 0)

/-- RESET_N (R26): as power-on, with the case clock running on. -/
def execResetN (dt : Nat) (s : State) : Host.Outcome State Fault Refusal := .next (s.afterReset (s.now + dt))

/-! ### The end of the start-up load (R169) -/

/-- The image installed if it passes its check; otherwise the factory defaults stay and STORE_BAD is reported under the
masks then in force. -/
def State.installImage (s : State) : State :=
  if s.store.image.passes then s.modWorking (fun _ => s.store.image.values) else s.reportCase .storeBad

/-- The readings begin (R114): the first falls at the next 1 ms mark. -/
def State.startReadings (s : State) : State :=
  s.modSupply (fun m => { m with nextReading := some ((s.now / ms + 1) * ms) })

/-- The end of the load, taken whole (R169, R127, R183). -/
def State.endLoad (s : State) : State :=
  (((s.modStore (fun t => { t with loading := false })).installImage.startReadings).startTransit).addCaseEvent .started

/-- START_UP_LOAD_END (R169): nothing while no load runs (log 21). -/
def execStartUpLoadEnd (dt : Nat) (s : State) : Host.Outcome State Fault Refusal :=
  s.takeEvent dt (fun s => if s.store.loading then s.endLoad else s)

/-! ### The end of a commit (R171) -/

/-- The completion of a commit whose copy is `c`. -/
def State.endCommit (readBackMatches : Bool) (c : WorkingSettings) (s : State) : State :=
  let ended := s.modStore (fun t => { t with
    commit := none
    image := if readBackMatches then .written c else (StoreImage.written c).spoiled })
  if readBackMatches then ended.addCaseEvent .committed
  else (ended.addCaseEvent .commitFailed).reportCase .storeBad

/-- COMMIT_COMPLETE (R171): nothing while no commit is in progress (log 21). -/
def execCommitComplete (dt : Nat) (readBackMatches : Bool) (s : State) : Host.Outcome State Fault Refusal :=
  s.takeEvent dt (fun s =>
    match s.store.commit with
    | some c => s.endCommit readBackMatches c
    | none => s)

end Sys2Proof.Machine
end

