-- ==== Sys2Proof/Machine/Presence.lean ====
section
/-! DEFINITION. Presence: the debounce of an insertion, and removal (1.3). -/

namespace Sys2Proof.Machine

/-- The presence debounce returned to its start (R8). -/
def State.restartDebounce (b : BayNo) (s : State) : State :=
  s.modBay b (fun r => { r with timers := { r.timers with debounce := some (s.now / ms * ms + debounceLength) } })

/-- The claim that the bay's state holds in the arbiter or the scheduler is released (R10). -/
def State.releaseClaim (b : BayNo) (s : State) : State :=
  match (s.bay b).state with
  | .spinningUp | .diag => s.releaseGrant b
  | .queued => s.dropEntry b
  | .parkQueued => s.dropUnload b
  | .unloading => s.lowerUnloading
  | .vacant | .stopped | .spun | .loading | .loaded | .spinningDown | .held | .fenced => s

/-- The bay goes to VACANT (R9); a DIAG bay aborts its test, with TEST_DONE ahead of VACANT (R159). -/
def State.vacate (b : BayNo) (s : State) : State :=
  let gone := s.modBay b (fun r => { r with presence := false, speed := none, lastPulse := none })
  if (s.bay b).state = .diag then
    (gone.modBay b (fun r => { r with winding := .aborted, windingCurrent := none })).enterAfter .testDone b .vacant
  else gone.enter b .vacant

/-- Removal reports PULLED unless the bay was STOPPED, VACANT or FENCED (R10). -/
def BayState.reportsPulled : BayState → Bool
  | .stopped | .vacant | .fenced => false
  | .queued | .spinningUp | .spun | .loading | .loaded | .parkQueued | .unloading | .spinningDown
  | .diag | .held => true

/-- The sequencer's part of a removal: VACANT, and PULLED by the state left (R9, R10). -/
def State.leaveBay (st : BayState) (b : BayNo) (s : State) : State :=
  if st.reportsPulled then (s.vacate b).reportBay .pulled b else s.vacate b

/-- The start pass that a released unload runs (R10, R64). -/
def State.passAfterRemoval (st : BayState) (s : State) : State := if st = .unloading then s.startPass else s

/-- The evaluation that a released spin-up claim runs (R10, R30). A grant raises no event. -/
def State.evaluateAfterRemoval (st : BayState) (s : State) : State :=
  match st with
  | .queued | .spinningUp | .diag => s.evaluate
  | .vacant | .stopped | .spun | .loading | .loaded | .parkQueued | .unloading | .spinningDown | .held | .fenced => s

/-- A removal (R9, R10): the claim is released, and the sequencer, the Motion Monitor and the Unload Scheduler take it in
no order (log 9). -/
def State.remove (b : BayNo) (s : State) : State :=
  let st := (s.bay b).state
  ((s.releaseClaim b).inFreeOrder
    [State.leaveBay st b, State.markJolt .pulled b, State.passAfterRemoval st]).evaluateAfterRemoval st

/-- A deasserted PRES sample (R8, R9): in VACANT it restarts the debounce, elsewhere it is a removal.
The sample falls on a 1 ms mark (log 3, log 13). -/
def State.presDeasserted (b : BayNo) (s : State) : State :=
  let s := s.toMark readingPeriod 0
  if (s.bay b).state = .vacant then s.restartDebounce b else s.remove b

/-- The debounce completes (R8): presence yes, STOPPED, and a fresh TACH interval (R11). -/
def State.insert (b : BayNo) (s : State) : State :=
  (s.modBay b (fun r => { r with presence := true, lastPulse := none })).enter b .stopped

/-- PRESENCE_DEBOUNCE_DONE (R8). -/
def execPresenceDebounceDone (dt : Nat) (b : BayNo) (s : State) : Host.Outcome State Fault Refusal :=
  s.takeEvent dt (fun s =>
    (s.toMark readingPeriod 0).inState b .vacant (fun s => s.onDue (s.bay b).timers.debounce (State.insert b)))

/-- REMOVAL (R9). -/
def execRemoval (dt : Nat) (b : BayNo) (s : State) : Host.Outcome State Fault Refusal :=
  s.takeEvent dt (State.presDeasserted b)

/-- PRESENCE_DEBOUNCE_RESTART (R8). -/
def execPresenceDebounceRestart (dt : Nat) (b : BayNo) (s : State) : Host.Outcome State Fault Refusal :=
  s.takeEvent dt (fun s => s.presDeasserted b)

end Sys2Proof.Machine
end

