-- ==== Sys2Proof/Machine/Winding.lean ====
section
/-! DEFINITION. The winding test: the offset reading, the pulse and the result (chapter 8). -/

namespace Sys2Proof.Machine

/-- The offset reading completes: the converter holds the offset, SPEN is asserted at 8000 mA and the test pulse timer
starts (R154, R155). -/
def State.startPulse (b : BayNo) (reading : Nat) (s : State) : State :=
  let due := s.now + s.settings.testPulseWidth * ms
  (s.modArbiter (fun a => { a with
    converter := { a.converter with offsetDue := none, offset := some reading } })).modBay b
    (fun r => { r with spen := some testPulseLimit, timers := { r.timers with testPulse := some due } })

/-- The winding current: the conversion minus the offset, 0 if negative, at most 10000 mA (R155). -/
def windingCurrent (conversion offset : Nat) : Nat := min 10000 (conversion - offset)

/-- The result of a current against the two thresholds (R155). -/
def CaseSettings.classify (c : CaseSettings) (current : Nat) : WindingResult :=
  if current < c.openThreshold then .openCircuit
  else if c.shortThreshold < current then .shortCircuit
  else .pass

/-- The test pulse ends: the current is read and classified, the test ends, and OPEN or SHORT is a winding fault
(R155–R157). -/
def State.endPulse (b : BayNo) (conversion : Nat) (s : State) : State :=
  let current := windingCurrent conversion (s.arbiter.converter.offset.getD 0)
  let result := s.settings.classify current
  let read := (s.releaseGrant b).modBay b (fun r => { r with winding := result, windingCurrent := some current })
  let ended :=
    if result = .pass then read.enterAfter .testDone b .stopped
    else if s.answersHold .winding then
      ((read.reportBay .winding b).modBay b (fun r => { r with spindleOn := false })).enterAfter .testDone b .held
    else (read.reportBay .winding b).enterAfter .testDone b .fenced
  ended.evaluate

/-- OFFSET_READING_COMPLETE (R154): a completion of the converter for the bay that holds it. -/
def execOffsetReadingComplete (dt : Nat) (b : BayNo) (reading : Nat) (s : State) :
    Host.Outcome State Fault Refusal :=
  s.takeEvent dt (fun s =>
    s.inState b .diag (fun s =>
      if s.arbiter.converter.holder = some b then
        s.onDue s.arbiter.converter.offsetDue (State.startPulse b reading)
      else s))

/-- TEST_PULSE_END (R155). -/
def execTestPulseEnd (dt : Nat) (b : BayNo) (conversion : Nat) (s : State) :
    Host.Outcome State Fault Refusal :=
  s.takeEvent dt (fun s =>
    s.inState b .diag (fun s => s.onDue (s.bay b).timers.testPulse (State.endPulse b conversion)))

end Sys2Proof.Machine
end

