-- ==== Sys2Proof/Machine/Dispatch.lean ====
section
/-! DEFINITION. The meaning of every command: one arm per constructor of `Instr`. -/

namespace Sys2Proof.Machine

def exec (i : Instr) (s : State) : Host.Outcome State Fault Refusal :=
  match i with
  | .powerOn => Sys2Proof.Machine.execPowerOn s
  | .resetN dt => Sys2Proof.Machine.execResetN dt s
  | .startUpLoadEnd dt => Sys2Proof.Machine.execStartUpLoadEnd dt s
  | .presenceDebounceDone dt bay => Sys2Proof.Machine.execPresenceDebounceDone dt bay s
  | .removal dt bay => Sys2Proof.Machine.execRemoval dt bay s
  | .tachPulse dt bay => Sys2Proof.Machine.execTachPulse dt bay s
  | .speedLossGapExpiry dt bay => Sys2Proof.Machine.execSpeedLossGapExpiry dt bay s
  | .tachFirstExpiry dt bay => Sys2Proof.Machine.execTachFirstExpiry dt bay s
  | .holdTimerExpiry dt bay => Sys2Proof.Machine.execHoldTimerExpiry dt bay s
  | .stopGapExpiry dt bay => Sys2Proof.Machine.execStopGapExpiry dt bay s
  | .stopTimeoutExpiry dt bay => Sys2Proof.Machine.execStopTimeoutExpiry dt bay s
  | .prkDeasserted dt bay => Sys2Proof.Machine.execPrkDeasserted dt bay s
  | .settleComplete dt bay => Sys2Proof.Machine.execSettleComplete dt bay s
  | .loadTimerExpiry dt bay => Sys2Proof.Machine.execLoadTimerExpiry dt bay s
  | .park dt bay => Sys2Proof.Machine.execPark dt bay s
  | .unloadDeadlineExpiry dt bay => Sys2Proof.Machine.execUnloadDeadlineExpiry dt bay s
  | .offsetReadingComplete dt bay reading => Sys2Proof.Machine.execOffsetReadingComplete dt bay reading s
  | .testPulseEnd dt bay conversion => Sys2Proof.Machine.execTestPulseEnd dt bay conversion s
  | .motionSample dt ready x y z => Sys2Proof.Machine.execMotionSample dt ready x y z s
  | .sensorLost dt => Sys2Proof.Machine.execSensorLost dt s
  | .supplyReading dt millivolts => Sys2Proof.Machine.execSupplyReading dt millivolts s
  | .quietTimerExpiry dt => Sys2Proof.Machine.execQuietTimerExpiry dt s
  | .commitComplete dt readBackMatches => Sys2Proof.Machine.execCommitComplete dt readBackMatches s
  | .frameDiscard dt cause => Sys2Proof.Machine.execFrameDiscard dt cause s
  | .byteGapTimeout dt => Sys2Proof.Machine.execByteGapTimeout dt s
  | .crcMismatch dt => Sys2Proof.Machine.execCrcMismatch dt s
  | .unknownKind dt kind req => Sys2Proof.Machine.execUnknownKind dt kind req s
  | .txFrameEnd dt => Sys2Proof.Machine.execTxFrameEnd dt s
  | .status dt req => Sys2Proof.Machine.execStatus dt req s
  | .viewBay dt req => Sys2Proof.Machine.execViewBay dt req s
  | .viewPin dt req => Sys2Proof.Machine.execViewPin dt req s
  | .viewUnpin dt req => Sys2Proof.Machine.execViewUnpin dt req s
  | .viewEnvironment dt req => Sys2Proof.Machine.execViewEnvironment dt req s
  | .readJolts dt req => Sys2Proof.Machine.execReadJolts dt req s
  | .spinUp dt req => Sys2Proof.Machine.execSpinUp dt req s
  | .spinDown dt req => Sys2Proof.Machine.execSpinDown dt req s
  | .load dt req => Sys2Proof.Machine.execLoad dt req s
  | .unload dt req => Sys2Proof.Machine.execUnload dt req s
  | .testWinding dt req => Sys2Proof.Machine.execTestWinding dt req s
  | .release dt req => Sys2Proof.Machine.execRelease dt req s
  | .clearFaults dt req => Sys2Proof.Machine.execClearFaults dt req s
  | .takeContext dt req => Sys2Proof.Machine.execTakeContext dt req s
  | .setMasks dt req => Sys2Proof.Machine.execSetMasks dt req s
  | .forceSafe dt req => Sys2Proof.Machine.execForceSafe dt req s
  | .leaveSafe dt req => Sys2Proof.Machine.execLeaveSafe dt req s
  | .setSetting dt req => Sys2Proof.Machine.execSetSetting dt req s
  | .getSetting dt req => Sys2Proof.Machine.execGetSetting dt req s
  | .setProfile dt req => Sys2Proof.Machine.execSetProfile dt req s
  | .getProfile dt req => Sys2Proof.Machine.execGetProfile dt req s
  | .setBay dt req => Sys2Proof.Machine.execSetBay dt req s
  | .commit dt req => Sys2Proof.Machine.execCommit dt req s
  | .recall dt req => Sys2Proof.Machine.execRecall dt req s
  | .restart dt req => Sys2Proof.Machine.execRestart dt req s
  | .rxdByte dt byte => Sys2Proof.Machine.execRxdByte dt byte s
  | .presenceDebounceRestart dt bay => Sys2Proof.Machine.execPresenceDebounceRestart dt bay s

end Sys2Proof.Machine
end

