-- ==== Sys2Proof/WellFormed.lean ====
section
/-! DEFINITION. What a command must satisfy to be one that can reach the part: the checks that the operand types do
not already make. The machine has a meaning for every command, well formed or not. -/

namespace Sys2Proof

/-- A request carries at most 240 body bytes (R187). -/
def Req.wellFormed (r : Req) : Bool := r.body.length ≤ 240

/-- A cause of a discard: a bad LENGTH lies outside 3 to 243 (R175). -/
def DiscardCause.wellFormed : DiscardCause → Bool
  | .badStop _ => true
  | .badLength b => b.toNat < 3 || 243 < b.toNat

/-- The well-formedness of a command. -/
def Instr.wellFormed : Instr → Bool
  | .powerOn | .resetN _ | .startUpLoadEnd _ => true
  | .presenceDebounceDone _ _ | .removal _ _ | .tachPulse _ _ | .speedLossGapExpiry _ _ => true
  | .tachFirstExpiry _ _ | .holdTimerExpiry _ _ | .stopGapExpiry _ _ | .stopTimeoutExpiry _ _ => true
  | .prkDeasserted _ _ | .settleComplete _ _ | .loadTimerExpiry _ _ | .park _ _ => true
  | .unloadDeadlineExpiry _ _ | .offsetReadingComplete _ _ _ | .testPulseEnd _ _ _ => true
  | .motionSample _ _ _ _ _ | .sensorLost _ | .supplyReading _ _ | .quietTimerExpiry _ => true
  | .commitComplete _ _ | .byteGapTimeout _ | .crcMismatch _ | .txFrameEnd _ => true
  | .frameDiscard _ cause => cause.wellFormed
  | .unknownKind _ kind r => (ReqKind.ofCode? kind).isNone && r.wellFormed
  | .status _ r | .viewBay _ r | .viewPin _ r | .viewUnpin _ r | .viewEnvironment _ r => r.wellFormed
  | .readJolts _ r | .spinUp _ r | .spinDown _ r | .load _ r | .unload _ r => r.wellFormed
  | .testWinding _ r | .release _ r | .clearFaults _ r | .takeContext _ r | .setMasks _ r => r.wellFormed
  | .forceSafe _ r | .leaveSafe _ r | .setSetting _ r | .getSetting _ r | .setProfile _ r => r.wellFormed
  | .getProfile _ r | .setBay _ r | .commit _ r | .recall _ r | .restart _ r => r.wellFormed
  | .rxdByte _ _ | .presenceDebounceRestart _ _ => true

end Sys2Proof
end

