-- ==== Sys2Proof/Safety.lean ====
section
/-! DEFINITION. What a sender keeps (commands that can reach the part, and events that come before the timers they would
make late, log 2), what holds of every state that a run reaches, and the words in which the statements speak of replies,
events and frames. -/

namespace Sys2Proof.Machine

/-- The due times of the timers of one bay that run. -/
def Timers.dues (t : Timers) : List Nat :=
  [t.debounce, t.tachFirst, t.hold, t.gap, t.load, t.settle, t.unloadDeadline, t.stopGap, t.stopTimeout,
   t.testPulse].filterMap id

/-- Every time at which something of the part falls due: the timers of the bays, the converter, the quiet timer, the
byte gap and the end of the frame on TXD. The presence debounce counts samples, and ends only where PRES stays asserted,
but it stands here as the time at which it would. -/
def State.dues (s : State) : List Nat :=
  (s.bays.toList.flatMap (fun r => r.timers.dues))
    ++ [s.arbiter.converter.offsetDue, s.transit.quietDue, s.link.gapDue, s.link.tx.map TxFrame.due].filterMap id

/-- `dt` passes no due time: what falls due comes at its own time, as its own command. -/
def State.timely (dt : Nat) (s : State) : Prop := ∀ t ∈ s.dues, s.now + dt ≤ t

/-- The µs that a command carries. -/
def elapsedOf : Instr → Nat
  | .powerOn => 0
  | .resetN dt | .startUpLoadEnd dt => dt
  | .presenceDebounceDone dt _ | .removal dt _ | .tachPulse dt _ | .speedLossGapExpiry dt _ => dt
  | .tachFirstExpiry dt _ | .holdTimerExpiry dt _ | .stopGapExpiry dt _ | .stopTimeoutExpiry dt _ => dt
  | .prkDeasserted dt _ | .settleComplete dt _ | .loadTimerExpiry dt _ | .park dt _ => dt
  | .unloadDeadlineExpiry dt _ | .offsetReadingComplete dt _ _ | .testPulseEnd dt _ _ => dt
  | .motionSample dt _ _ _ _ | .sensorLost dt | .supplyReading dt _ | .quietTimerExpiry dt => dt
  | .commitComplete dt _ | .frameDiscard dt _ | .byteGapTimeout dt | .crcMismatch dt => dt
  | .unknownKind dt _ _ | .txFrameEnd dt => dt
  | .status dt _ | .viewBay dt _ | .viewPin dt _ | .viewUnpin dt _ | .viewEnvironment dt _ => dt
  | .readJolts dt _ | .spinUp dt _ | .spinDown dt _ | .load dt _ | .unload dt _ => dt
  | .testWinding dt _ | .release dt _ | .clearFaults dt _ | .takeContext dt _ | .setMasks dt _ => dt
  | .forceSafe dt _ | .leaveSafe dt _ | .setSetting dt _ | .getSetting dt _ | .setProfile dt _ => dt
  | .getProfile dt _ | .setBay dt _ | .commit dt _ | .recall dt _ | .restart dt _ => dt
  | .rxdByte dt _ | .presenceDebounceRestart dt _ => dt

/-- A state whose next step takes a command that can reach the part and comes in time. -/
def State.ready (s : State) : Prop :=
  ∀ c ∈ s.pending.head?, c.wellFormed = true ∧ s.timely (elapsedOf c)

/-! ### What every step keeps -/

/-- For every bay and for the case, the pending fault set is contained in the sticky set, and every HELD bay has a
non-empty pending set (R135). -/
def State.faultSetsNested (s : State) : Prop :=
  (∀ b, (s.bay b).pending &&& (s.bay b).sticky = (s.bay b).pending ∧
    ((s.bay b).state = .held → (s.bay b).pending ≠ 0)) ∧
  s.faults.casePending &&& s.faults.caseSticky = s.faults.casePending

/-- ATTN is asserted while the case pending set or the pending set of any bay is not empty (R138). -/
def State.attnShowsPending (s : State) : Prop :=
  s.faults.attn = true ↔ s.faults.casePending ≠ 0 ∨ ∃ b, (s.bay b).pending ≠ 0

/-- The two outputs of a bay, by its state (R15), and the limit of its switch (R16). -/
def BayRec.outputsFollow (r : BayRec) : Prop :=
  (r.hld = true ↔ r.state = .loading ∨ r.state = .loaded ∨ r.state = .parkQueued) ∧
  (match r.state with
    | .vacant | .stopped | .queued | .spinningDown | .fenced => r.spen = none
    | .spinningUp | .spun | .unloading | .loading | .loaded | .parkQueued =>
      r.spen.isSome = true ∧ ∀ p, r.latched = some p → r.spen = some (p.surgeCost * 250)
    | .diag => r.spen = if r.timers.testPulse.isSome then some 8000 else none
    | .held =>
      r.spen.isSome = r.spindleOn ∧ ∀ p, r.latched = some p → r.spindleOn = true → r.spen = some (p.surgeCost * 250))

/-- The outputs of every bay follow its state. -/
def State.outputsFollow (s : State) : Prop := ∀ b, (s.bay b).outputsFollow

/-- The working settings pass every range and every cross-check (R160, R164), and the surge accounting stays within its
bounds: the effective budget and the held total at most 63 su, the grant count at most 8 (R32). -/
def State.settingsAndSurgeBounded (s : State) : Prop :=
  s.store.working.valid = true ∧ s.supply.budget ≤ 63 ∧ s.arbiter.held ≤ 63 ∧ s.arbiter.grants ≤ 8

/-- The notice queue holds at most one entry for each source, and so at most 17 (R182). -/
def State.noticesSingle (s : State) : Prop :=
  (s.link.notices.map Notice.source).Nodup ∧ s.link.notices.length ≤ 17

/-- A bay is in the spin-up queue exactly when it is QUEUED, and in the unload queue exactly when it is PARK_QUEUED, at
most once each (R28, R62). -/
def State.queuesMatch (s : State) : Prop :=
  (s.arbiter.queue.map SpinEntry.bay).Nodup ∧
  (∀ b, (∃ e ∈ s.arbiter.queue, e.bay = b) ↔ (s.bay b).state = .queued) ∧
  (s.scheduler.emergency ++ s.scheduler.ordinary).Nodup ∧
  (∀ b, b ∈ s.scheduler.emergency ++ s.scheduler.ordinary ↔ (s.bay b).state = .parkQueued)

/-- The surge that a bay's state accounts for: its latched cost in SPINNING_UP, 1 in DIAG (R32). -/
def BayRec.surge (r : BayRec) : Nat :=
  match r.state with
  | .spinningUp => (r.latched.map Profile.surgeCost).getD 0
  | .diag => 1
  | .vacant | .stopped | .queued | .spun | .loading | .loaded | .parkQueued | .unloading | .spinningDown
  | .held | .fenced => 0

/-- The bays that hold a grant (R32). -/
def BayRec.holdsGrant (r : BayRec) : Bool := r.state == .spinningUp || r.state == .diag

/-- The held surge total is the sum of the latched surge costs of the bays in SPINNING_UP plus 1 for a bay in DIAG; the
grant count is the number of those bays, each SPINNING_UP bay has a latched profile (R32, R40), and the unloading count
is the number of bays in UNLOADING (R64). -/
def State.countsMatch (s : State) : Prop :=
  s.arbiter.held = (allBays.map (fun b => (s.bay b).surge)).sum ∧
  s.arbiter.grants = allBays.countP (fun b => (s.bay b).holdsGrant) ∧
  (∀ b, (s.bay b).state = .spinningUp → (s.bay b).latched.isSome = true) ∧
  s.scheduler.unloading = allBays.countP (fun b => (s.bay b).state == .unloading)

/-- The converter is held by exactly the bay that is in DIAG, and is free while none is; at most one bay is in DIAG, as
the converter has one holder (R153). -/
def State.converterHeld (s : State) : Prop :=
  ∀ b, s.arbiter.converter.holder = some b ↔ (s.bay b).state = .diag

/-- While the case is in TRANSIT_SAFE no bay is QUEUED, SPINNING_UP, in DIAG, LOADING or LOADED, and no load-on-arrival
flag is set (R127, R129, R130). -/
def State.safeIsQuiet (s : State) : Prop :=
  s.transit.mode = .transitSafe →
    ∀ b, (s.bay b).state ≠ .queued ∧ (s.bay b).state ≠ .spinningUp ∧ (s.bay b).state ≠ .diag ∧
      (s.bay b).state ≠ .loading ∧ (s.bay b).state ≠ .loaded ∧ (s.bay b).loadOnArrival = false

/-- The marks of a jolt record: each within the loaded set, no bay in two of them; an open record still waits for a bay
(R92, R94). -/
def JoltRec.marksFit (j : JoltRec) : Prop :=
  (j.parked ||| j.late ||| j.pulled) &&& j.loaded = (j.parked ||| j.late ||| j.pulled) ∧
  j.parked &&& j.late = 0 ∧ j.parked &&& j.pulled = 0 ∧ j.late &&& j.pulled = 0 ∧
  (j.isOpen = true ↔ (j.parked ||| j.late ||| j.pulled) ≠ j.loaded) ∧ (j.isOpen = true ↔ j.duration = none)

/-- The jolt list holds at most 8 records, only the newest may be open, and the ring and the samples kept stay within 64
and 8 (R82, R83, R92, R95). -/
def State.motionBounded (s : State) : Prop :=
  s.motion.jolts.length ≤ 8 ∧ (∀ j ∈ s.motion.jolts, j.marksFit) ∧
  (∀ j ∈ s.motion.jolts.dropLast, j.isOpen = false) ∧
  s.motion.ring.length ≤ 64 ∧ s.motion.lastSamples.length ≤ 8

/-! ### The words of the statements -/

/-- The command that a request of a kind is. -/
def commandOf (k : ReqKind) (dt : Nat) (r : Req) : Instr :=
  match k with
  | .status => .status dt r
  | .viewBay => .viewBay dt r
  | .viewPin => .viewPin dt r
  | .viewUnpin => .viewUnpin dt r
  | .viewEnvironment => .viewEnvironment dt r
  | .readJolts => .readJolts dt r
  | .spinUp => .spinUp dt r
  | .spinDown => .spinDown dt r
  | .load => .load dt r
  | .unload => .unload dt r
  | .testWinding => .testWinding dt r
  | .release => .release dt r
  | .clearFaults => .clearFaults dt r
  | .takeContext => .takeContext dt r
  | .setMasks => .setMasks dt r
  | .forceSafe => .forceSafe dt r
  | .leaveSafe => .leaveSafe dt r
  | .setSetting => .setSetting dt r
  | .getSetting => .getSetting dt r
  | .setProfile => .setProfile dt r
  | .getProfile => .getProfile dt r
  | .setBay => .setBay dt r
  | .commit => .commit dt r
  | .recall => .recall dt r
  | .restart => .restart dt r

/-- A request of a kind is handed to its handler: the slot is empty, no load runs or the kind is STATUS, and the body has
the length of its kind (R176). -/
def State.hands (s : State) (k : ReqKind) (r : Req) : Prop :=
  s.link.slot = none ∧ (s.store.loading = false ∨ k = .status) ∧ r.body.length = k.bodyLen

/-- The case pending set refuses the request: it carries the CHECK flag and a case class is pending (R148). -/
def State.checkRefuses (s : State) (r : Req) : Prop := r.flags.getLsbD 0 = true ∧ s.faults.casePending ≠ 0

/-- A request that the case pending set does not refuse. -/
def State.handsUnchecked (s : State) (k : ReqKind) (r : Req) : Prop := s.hands k r ∧ ¬ s.checkRefuses r

/-- The reply of a request stands in the slot: its KIND plus 0x80, its TAG, the status and the body (R177). -/
def State.replied (t : State) (k : ReqKind) (r : Req) (st : Status) (body : List Byte) : Prop :=
  ∃ rep, t.link.slot = some rep ∧ rep.kind = k.code + 0x80 ∧ rep.tag = r.tag ∧ rep.status = st ∧ rep.body = body

/-- The length of the quiet timer in µs, by the quiet code (R124). -/
def quietMicros : Nat → Option Nat
  | 1 => some 1000000
  | 2 => some 2000000
  | 3 => some 5000000
  | 4 => some 10000000
  | 5 => some 30000000
  | 6 => some 60000000
  | _ => none

/-- The transit unit after a frame that passes its check at a time: a running quiet timer restarts (R124, R176). -/
def State.transitAfterFrame (s : State) (now : Nat) : Transit :=
  { s.transit with
    quietDue :=
      if s.transit.quietDue.isSome then (quietMicros s.settings.quietCode).map (fun l => now + l) else none }

/-- The blocks that drive the bays stand as they stood. -/
def State.driveKept (s t : State) : Prop :=
  t.bays = s.bays ∧ t.arbiter = s.arbiter ∧ t.scheduler = s.scheduler ∧ t.motion = s.motion ∧ t.supply = s.supply

/-- A request of `dt` µs later did nothing but answer: every block stands but for the running quiet timer, the receiver
hunts, and the VIEW cursor and the pin are kept. -/
def State.onlyAnswered (s t : State) (dt : Nat) : Prop :=
  t.now = s.now + dt ∧ s.driveKept t ∧ t.transit = s.transitAfterFrame (s.now + dt) ∧ t.faults = s.faults ∧
    t.store = s.store ∧ t.link.rx = .hunting ∧ t.link.cursor = s.link.cursor ∧ t.link.pin = s.link.pin ∧
    t.freeTick = s.freeTick

/-- Every other bay stands as it stood. -/
def State.othersKept (s t : State) (b : BayNo) : Prop := ∀ x, x ≠ b → t.bay x = s.bay x

/-- The blocks of the case but for the Fault Unit, the scheduler, the arbiter and the link stand as they stood. -/
def State.caseKept (s t : State) : Prop :=
  t.motion = s.motion ∧ t.supply = s.supply ∧ t.transit = s.transit ∧ t.store = s.store

/-- A notice with a property: it waits in the queue, or its frame is on the line with the state of its source (R182). -/
def State.noticed (t : State) (src : Source) (p : Notice → Prop) : Prop :=
  (∃ n ∈ t.link.notices, n.source = src ∧ p n) ∨
    (∃ n f, t.link.tx = some f ∧ n.source = src ∧ p n ∧
      f.bytes = n.frame (t.sourceState (!t.link.notices.isEmpty) src))

/-- A notice of a bay names an event. -/
def State.bayRaised (t : State) (b : BayNo) (e : BayEvent) : Prop :=
  t.noticed (.bay b) (fun n => n.events &&& e.bit = e.bit)

/-- A notice of the case names an event. -/
def State.caseRaised (t : State) (e : CaseEvent) : Prop :=
  t.noticed .theCase (fun n => n.events &&& e.bit = e.bit)

/-- No event was added: the queue stands, or the line has taken its oldest entry. -/
def State.nothingRaised (s t : State) : Prop :=
  t.link.notices = s.link.notices ∨ t.link.notices = s.link.notices.tail

/-- A report of a bay class by the record (R136): the sticky set, and the pending set where the class is unmasked. -/
def BayRec.withReport (r : BayRec) (c : BayFault) (masked : Bool) : BayRec :=
  { r with
    sticky := r.sticky ||| c.bit
    pending := if masked then r.pending else r.pending ||| c.bit }

/-- A report of a case class (R136). -/
def State.caseReported (s t : State) (c : CaseFault) : Prop :=
  t.faults.caseSticky = s.faults.caseSticky ||| c.bit ∧
    t.faults.casePending =
      if c.maskedBy s.store.working.masks then s.faults.casePending else s.faults.casePending ||| c.bit

/-- No report of a case class. -/
def State.caseSetsKept (s t : State) : Prop :=
  t.faults.caseSticky = s.faults.caseSticky ∧ t.faults.casePending = s.faults.casePending

/-- A TACH pulse at a time gives a measurement of a speed (R11): it comes within 1000 ms after the previous one. -/
def State.measures (s : State) (b : BayNo) (now v : Nat) : Prop :=
  ∃ p, (s.bay b).lastPulse = some p ∧ 0 < now - p ∧ now - p ≤ 1000000 ∧
    v = min 65535 (60000000 / ((now - p) * (s.governing b).pulsesPerRev))

/-- A speed within the window of the profile that governs a bay (R13). -/
def State.inSpeedWindow (s : State) (b : BayNo) (v : Nat) : Prop :=
  (s.governing b).speedLow ≤ v ∧ v ≤ (s.governing b).speedHigh

/-- The bays of a set, in ascending order. -/
def baysOf (set : BaySet) : List BayNo := allBays.filter (fun b => set.getLsbD b.val)

/-- The STATUS of a bay-set request, by the outcomes of its bays (R180). -/
def statusOf (set : BaySet) (f : BayNo → Status) : Status :=
  if (baysOf set).all (fun b => f b == .done) then .done
  else if (baysOf set).all (fun b => f b == .accepted) then .accepted
  else .partly

/-- The reply of a bay-set request: bay and outcome for each bay of the set, in ascending order (R180). -/
def State.listed (t : State) (k : ReqKind) (r : Req) (set : BaySet) (f : BayNo → Status) : Prop :=
  t.replied k r (statusOf set f) ((baysOf set).flatMap (fun b => [BitVec.ofNat 8 b.val, (f b).code]))

/-- The bay is named and not turned away at its turn by the CHECK flag (R149). -/
def State.takes (s : State) (r : Req) (set : BaySet) (b : BayNo) : Prop :=
  set.getLsbD b.val = true ∧ ¬ (r.flags.getLsbD 0 = true ∧ (s.bay b).pending ≠ 0)

/-- Load admission of a SPUN bay for a request in a NORMAL case (R57). -/
def State.admission (s : State) (b : BayNo) : Status :=
  if s.settings.exposureLimit ≠ 0 ∧ s.settings.exposureLimit ≤ (s.bay b).joltsLoaded then .exposed
  else if s.motion.cls ≠ .still then .motion
  else if s.supply.cls = .cut then .supply
  else .accepted

/-- The kind of a QUEUED bay's entry (R20). -/
def State.entryKind (s : State) (b : BayNo) : Option EntryKind := (s.entryOf b).map SpinEntry.kind

/-- The ranges of the twenty-one settings by number, an enumeration by its values (R164). -/
def settingRange : Nat → Option (Nat × Nat)
  | 1 => some (1, 63) | 2 => some (0, 63) | 3 => some (1, 8) | 4 => some (0, 2) | 5 => some (0, 7)
  | 6 => some (1, 16) | 7 => some (0, 1) | 8 => some (0, 2) | 9 => some (0, 1) | 10 => some (500, 16000)
  | 11 => some (50, 2000) | 12 => some (1, 64) | 13 => some (500, 30000) | 14 => some (9000, 12500)
  | 15 => some (8000, 12000) | 16 => some (0, 7) | 17 => some (0, 255) | 18 => some (0, 1)
  | 19 => some (1, 20) | 20 => some (10, 2000) | 21 => some (100, 8000)
  | _ => none

/-- A value is taken for a setting: it lies in the range and keeps the cross-check with the other setting of its pair as
it stands (R164, R165). -/
def CaseSettings.admits (c : CaseSettings) (n v : Nat) : Prop :=
  (∃ lo hi, settingRange n = some (lo, hi) ∧ lo ≤ v ∧ v ≤ hi) ∧
    (n = 10 → c.get 11 < v) ∧ (n = 11 → v < c.get 10) ∧ (n = 14 → c.get 15 + 400 ≤ v) ∧
    (n = 15 → v + 400 ≤ c.get 14) ∧ (n = 20 → v < c.get 21) ∧ (n = 21 → c.get 20 < v)

/-- A profile that SET PROFILE takes: every field within its range, and speed low below speed high (R160). -/
def Profile.fits (p : Profile) : Prop :=
  1 ≤ p.surgeCost ∧ p.surgeCost ≤ 32 ∧ 1 ≤ p.pulsesPerRev ∧ p.pulsesPerRev ≤ 8 ∧
    1000 ≤ p.speedLow ∧ p.speedLow < p.speedHigh ∧ p.speedHigh ≤ 16000 ∧
    100 ≤ p.tachFirst ∧ p.tachFirst ≤ 5000 ∧ 1 ≤ p.holdTime ∧ p.holdTime ≤ 60 ∧
    1 ≤ p.retryLimit ∧ p.retryLimit ≤ 7 ∧ p.rank ≤ 3 ∧ 100 ≤ p.loadTimeout ∧ p.loadTimeout ≤ 5000 ∧
    10 ≤ p.loadSettle ∧ p.loadSettle ≤ 1000 ∧ 10 ≤ p.unloadDeadline ∧ p.unloadDeadline ≤ 1000 ∧
    2 ≤ p.stopTimeout ∧ p.stopTimeout ≤ 120

/-- What the entry into TRANSIT_SAFE leaves at one bay, by the state it finds (R130). -/
def BayRec.madeSafe (r u : BayRec) : Prop :=
  u.loadOnArrival = false ∧ u.sticky = r.sticky ∧ u.pending = r.pending ∧ u.attempts = r.attempts ∧
  match r.state with
  | .queued => u.state = .stopped
  | .spinningUp | .spun => u.state = .spinningDown ∧ u.intent = .stopAfter ∧ u.spen = none
  | .diag => u.state = .stopped ∧ u.winding = .aborted ∧ u.windingCurrent = none ∧ u.spen = none
  | .held => u = { r with spindleOn := false, spen := none, loadOnArrival := false }
  | .spinningDown | .stopped | .fenced | .vacant => u = { r with loadOnArrival := false }
  | .loading | .loaded | .parkQueued | .unloading =>
    u.prk = r.prk ∧
      if r.prk then
        u.state = .parkQueued ∨ u.state = .unloading ∨ u.state = .spinningDown ∨ u.state = .held
      else
        (u.state = .parkQueued ∨ u.state = .unloading) ∧
          u.intent = if r.intent = .holdAfter then .holdAfter else .stopAfter

/-- The entry into TRANSIT_SAFE from a NORMAL case (R130). -/
def State.madeSafe (s t : State) : Prop :=
  t.transit.mode = .transitSafe ∧ t.transit.quietDue = none ∧ (∀ b, (s.bay b).madeSafe (t.bay b)) ∧
    t.arbiter.queue = [] ∧ t.caseRaised .safeEntered ∧ t.supply = s.supply ∧ t.store = s.store

/-- A block of the TB16 right after power-on or RESET_N at a time, in every value that the manual gives (R26, R31, R63,
R79, R96, R100, R114, R127, R134, R153, R169, R175, R177, R181, R183, R185). -/
def State.freshAt (now : Nat) (t : State) : Prop :=
  t.now = now ∧
  (∀ b, (t.bay b).state = .vacant ∧ (t.bay b).entryTime = BitVec.ofNat 32 (now / 1000) ∧
    (t.bay b).presence = false ∧ (t.bay b).latched = none ∧ (t.bay b).attempts = 0 ∧
    (t.bay b).lastSpinUp = none ∧ (t.bay b).speed = none ∧ (t.bay b).spindleOn = false ∧
    (t.bay b).intent = .none ∧ (t.bay b).loadOnArrival = false ∧ (t.bay b).sticky = 0 ∧
    (t.bay b).pending = 0 ∧ (t.bay b).winding = .none ∧ (t.bay b).windingCurrent = none ∧
    (t.bay b).joltsLoaded = 0 ∧ (t.bay b).joltsParked = 0 ∧ (t.bay b).joltsStopped = 0 ∧
    (t.bay b).rollsLoaded = 0 ∧ (t.bay b).lastPulse = none ∧ (t.bay b).armed = false ∧
    (t.bay b).spen = none ∧ (t.bay b).hld = false ∧
    (t.bay b).timers = { Timers.stopped with debounce := some (now / 1000 * 1000 + 500000) }) ∧
  (t.arbiter.queue = [] ∧ t.arbiter.held = 0 ∧ t.arbiter.grants = 0 ∧ t.arbiter.pointer = 15 ∧
    t.arbiter.converter.holder = none) ∧
  t.scheduler = { emergency := [], ordinary := [], unloading := 0, origin := 0, pointer := 0 } ∧
  t.motion = { cls := .unsettled, ring := [], lastSamples := [], dwellStart := now, missing := 0, lost := false,
               lastJolt := none, jolts := [], opened := 0, nextSample := (now / 2500 + 1) * 2500 } ∧
  (t.supply.lastReading = none ∧ t.supply.cls = .cut ∧ t.supply.budget = 0 ∧ t.supply.nextReading = none) ∧
  (t.transit.mode = .normal ∧ t.transit.quietDue = none) ∧
  (t.faults.caseSticky = 0 ∧ t.faults.casePending = 0 ∧ t.faults.attn = false) ∧
  (t.store.working = .factory ∧ t.store.commit = none ∧ t.store.loading = true) ∧
  (t.link.rx = .hunting ∧ t.link.slot = none ∧ t.link.tx = none ∧ t.link.notices = [] ∧ t.link.cursor = 0 ∧
    t.link.pin = none)

end Sys2Proof.Machine
end

