-- ==== Sys2Proof/Certificates/Slice0/Obligations.lean ====
section
/-! DEFINITION. The statements about the TB16, for the provers. -/

open Sys2Proof Sys2Proof.Machine

/-! ### Steps -/

/-- A step takes the command at the front of the queue with the queue's rest. -/
def Obligations.StepTakesTheFrontCommand : Prop :=
  ∀ (c : Instr) (rest : List Instr) (s : State), s.pending = c :: rest →
    step s = exec c { s with pending := rest }

/-- On an empty queue a step is one millisecond of the case clock and nothing else: the model's choice, log 4. -/
def Obligations.IdleStepIsOneMillisecond : Prop :=
  ∀ s : State, s.pending = [] →
    step s = .next { s with now := s.now + 1000 } ∧ caseClock (s.now + 1000) = caseClock s.now + 1

/-- Every command completes, and no command touches the queue of commands. -/
def Obligations.EveryCommandCompletesAndLeavesTheQueue : Prop :=
  ∀ (c : Instr) (s : State), ∃ t, exec c s = .next t ∧ t.pending = s.pending

/-! ### Resets -/

/-- The state after reset is a new part right after power-on, with the factory defaults in force and an image that fails
its check. -/
def Obligations.ResetStateIsAFreshPart : Prop :=
  State.reset.freshAt 0 ∧ State.reset.store.image.passes = false ∧
    (List.range 21).map (fun k => State.reset.settings.get (k + 1)) =
      [24, 8, 4, 0, 3, 4, 1, 1, 0, 3000, 150, 8, 3000, 11000, 10000, 4, 0, 0, 5, 100, 3000] ∧
    State.reset.store.working.masks = 0b0000010001011 ∧
    (∀ b : BayNo, State.reset.store.working.selections[b] = 0) ∧
    (∀ k : Fin 8, State.reset.store.working.profiles[k] =
      { surgeCost := 8, pulsesPerRev := 2, speedLow := 7020, speedHigh := 7380, tachFirst := 1000, holdTime := 12,
        retryLimit := 3, rank := 0, loadTimeout := 1500, loadSettle := 200, unloadDeadline := 150,
        stopTimeout := 30 })

/-- Everything that every step keeps holds after reset. -/
def Obligations.ResetStateHasEveryInvariant : Prop :=
  State.reset.faultSetsNested ∧ State.reset.attnShowsPending ∧ State.reset.outputsFollow ∧
    State.reset.settingsAndSurgeBounded ∧ State.reset.noticesSingle ∧ State.reset.queuesMatch ∧
    State.reset.countsMatch ∧ State.reset.converterHeld ∧ State.reset.safeIsQuiet ∧ State.reset.motionBounded

/-- POWER_ON and RESET_N put every block at its start values and keep the store image; RESET_N leaves the case clock
running. The levels of PRK stay (the model's choice, log 5), and the first sample
falls on a 2.5 ms mark counted on the µs since power-on, also after a wrap of the case clock (the model's choice, log
34). -/
def Obligations.ResetsStartEveryBlock : Prop :=
  ∀ (dt : Nat) (s : State),
    (∃ t, exec .powerOn s = .next t ∧ t.freshAt 0 ∧ t.store.image = s.store.image ∧
      ∀ b, (t.bay b).prk = (s.bay b).prk) ∧
    (∃ t, exec (.resetN dt) s = .next t ∧ t.freshAt (s.now + dt) ∧ t.store.image = s.store.image ∧
      ∀ b, (t.bay b).prk = (s.bay b).prk)

/-- The arbiter's four values after power-on, RESET_N and a RESTART that is taken; RESTART is refused while a bay is
SPINNING_UP or in DIAG and takes every QUEUED bay to STOPPED; the environment record and the STATUS reply carry the held
total and the grant count, and no image carries the rotate pointer (R31). -/
def Obligations.ArbiterStartsEmpty : Prop :=
  (∀ (dt : Nat) (s : State),
    (∃ t, exec .powerOn s = .next t ∧ t.arbiter.queue = [] ∧ t.arbiter.held = 0 ∧ t.arbiter.grants = 0 ∧
      t.arbiter.pointer = 15) ∧
    (∃ t, exec (.resetN dt) s = .next t ∧ t.arbiter.queue = [] ∧ t.arbiter.held = 0 ∧ t.arbiter.grants = 0 ∧
      t.arbiter.pointer = 15)) ∧
  (∀ (dt : Nat) (r : Req) (s : State), s.handsUnchecked .restart r → s.store.commit = none →
    ((∃ b, (s.bay b).state = .spinningUp ∨ (s.bay b).state = .diag) →
      ∃ t, exec (.restart dt r) s = .next t ∧ t.replied .restart r .state [] ∧ t.arbiter = s.arbiter) ∧
    ((∀ b, (s.bay b).refusesRestart = false) →
      ∃ t, exec (.restart dt r) s = .next t ∧ t.arbiter.queue = [] ∧ t.arbiter.held = 0 ∧ t.arbiter.grants = 0 ∧
        t.arbiter.pointer = 15 ∧ (∀ b, (s.bay b).state = .queued → (t.bay b).state = .stopped) ∧
        (s.countsMatch → s.arbiter.held = 0 ∧ s.arbiter.grants = 0))) ∧
  (∀ s : State, s.environmentImage[12]? = some (BitVec.ofNat 8 s.arbiter.held) ∧
    s.environmentImage[13]? = some (BitVec.ofNat 8 s.arbiter.grants) ∧
    s.statusImage[4]? = some (BitVec.ofNat 8 s.arbiter.held) ∧
    s.statusImage[5]? = some (BitVec.ofNat 8 s.arbiter.grants)) ∧
  (∀ (s : State) (p : BayNo), ({ s with arbiter := { s.arbiter with pointer := p } } : State).environmentImage =
      s.environmentImage ∧
    ({ s with arbiter := { s.arbiter with pointer := p } } : State).statusImage = s.statusImage ∧
    ∀ b, ({ s with arbiter := { s.arbiter with pointer := p } } : State).bayImage b = s.bayImage b)

/-- The scheduler's queue and count after power-on, RESET_N and a RESTART that is taken; RESTART is refused while a bay
is PARK_QUEUED or UNLOADING, so that it finds them empty and 0 (R63). -/
def Obligations.SchedulerStartsEmpty : Prop :=
  (∀ (dt : Nat) (s : State),
    (∃ t, exec .powerOn s = .next t ∧ t.scheduler.emergency = [] ∧ t.scheduler.ordinary = [] ∧
      t.scheduler.unloading = 0) ∧
    (∃ t, exec (.resetN dt) s = .next t ∧ t.scheduler.emergency = [] ∧ t.scheduler.ordinary = [] ∧
      t.scheduler.unloading = 0)) ∧
  (∀ (dt : Nat) (r : Req) (s : State), s.handsUnchecked .restart r → s.store.commit = none →
    ((∃ b, (s.bay b).state = .parkQueued ∨ (s.bay b).state = .unloading) →
      ∃ t, exec (.restart dt r) s = .next t ∧ t.replied .restart r .state [] ∧ t.scheduler = s.scheduler) ∧
    ((∀ b, (s.bay b).refusesRestart = false) →
      (∃ t, exec (.restart dt r) s = .next t ∧ t.scheduler.emergency = [] ∧ t.scheduler.ordinary = [] ∧
        t.scheduler.unloading = 0) ∧
      (s.queuesMatch → s.countsMatch →
        s.scheduler.emergency = [] ∧ s.scheduler.ordinary = [] ∧ s.scheduler.unloading = 0)))

/-- The end of the start-up load (R169): the image is installed or STORE_BAD is reported, the readings begin, and the
quiet code decides the transit unit; the case notice carries STARTED with them. -/
def Obligations.StartUpLoadEnds : Prop :=
  ∀ (dt : Nat) (s : State), s.store.loading = true →
    ∃ t, exec (.startUpLoadEnd dt) s = .next t ∧ t.now = s.now + dt ∧ t.store.loading = false ∧
      t.store.image = s.store.image ∧ t.store.commit = s.store.commit ∧
      t.supply = { s.supply with nextReading := some (((s.now + dt) / 1000 + 1) * 1000) } ∧
      t.motion.cls = s.motion.cls ∧
      (s.store.image.passes = true → t.store.working = s.store.image.values ∧ s.caseSetsKept t) ∧
      (s.store.image.passes = false → t.store.working = s.store.working ∧ s.caseReported t .storeBad) ∧
      (t.settings.quietCode ≠ 7 →
        t.transit = { s.transit with
          quietDue := (quietMicros t.settings.quietCode).map (fun l => s.now + dt + l) } ∧
        t.bays = s.bays ∧ t.arbiter = s.arbiter ∧ t.scheduler = s.scheduler ∧ t.motion = s.motion) ∧
      (t.settings.quietCode = 7 → t.transit.mode = .transitSafe) ∧
      t.noticed .theCase (fun n => n.events &&& CaseEvent.started.bit = CaseEvent.started.bit ∧
        (s.store.image.passes = false → CaseFault.storeBad.maskedBy s.store.working.masks = false →
          n.faults &&& CaseFault.storeBad.bit = CaseFault.storeBad.bit) ∧
        (t.settings.quietCode = 7 → s.transit.mode = .normal →
          n.events &&& CaseEvent.safeEntered.bit = CaseEvent.safeEntered.bit))

/-! ### Presence -/

/-- The presence debounce: its end takes a VACANT bay to STOPPED and raises PRESENT; a deasserted sample in VACANT only
returns it to its start (R8). That the event moves on to a 1 ms mark is the model's choice (log 3), when the debounce is
due its reading (log 30). -/
def Obligations.PresenceDebounce : Prop :=
  ∀ (dt : Nat) (b : BayNo) (s : State), (s.bay b).state = .vacant →
    (∀ due, (s.bay b).timers.debounce = some due →
      ∃ t, exec (.presenceDebounceDone dt b) s = .next t ∧
        t.now = max ((s.now + dt + 999) / 1000 * 1000) due ∧
        t.bay b = { s.bay b with
          state := .stopped, entryTime := caseClock t.now, presence := true, latched := none, intent := .none,
          armed := false, spen := none, hld := false, lastPulse := none, timers := Timers.stopped } ∧
        t.bayRaised b .present ∧ s.othersKept t b ∧ t.arbiter = s.arbiter ∧ t.scheduler = s.scheduler ∧
        t.faults = s.faults ∧ s.caseKept t) ∧
    (∀ c, c = Instr.removal dt b ∨ c = Instr.presenceDebounceRestart dt b →
      ∃ t, exec c s = .next t ∧ t.now = (s.now + dt + 999) / 1000 * 1000 ∧
        t.bay b = { s.bay b with timers := { (s.bay b).timers with debounce := some (t.now + 500000) } } ∧
        s.nothingRaised t ∧ s.othersKept t b ∧ t.arbiter = s.arbiter ∧ t.scheduler = s.scheduler ∧
        t.faults = s.faults ∧ s.caseKept t)

/-- A removal takes the bay to VACANT from any other state, releases its claims, the grant of a SPINNING_UP or DIAG bay
among them, with the pass that follows, and reports PULLED where the state calls for it (R9, R10, R41). That the sample
moves on to a 1 ms mark is the model's choice (log 3). -/
def Obligations.RemovalVacatesTheBay : Prop :=
  ∀ (dt : Nat) (b : BayNo) (s : State) (c : Instr), s.queuesMatch → (s.bay b).state ≠ .vacant →
    c = .removal dt b ∨ c = .presenceDebounceRestart dt b →
    ∃ t, exec c s = .next t ∧ t.now = (s.now + dt + 999) / 1000 * 1000 ∧
      (t.bay b =
        let gone : BayRec := { s.bay b with
          state := .vacant, entryTime := caseClock t.now, presence := false, speed := none, latched := none,
          intent := .none, loadOnArrival := false, lastPulse := none, armed := false, spen := none, hld := false,
          timers := { Timers.stopped with debounce := some (t.now + 500000) },
          winding := if (s.bay b).state = .diag then .aborted else (s.bay b).winding,
          windingCurrent := if (s.bay b).state = .diag then none else (s.bay b).windingCurrent }
        if (s.bay b).state = .stopped ∨ (s.bay b).state = .fenced then gone
        else gone.withReport .pulled (BayFault.pulled.maskedBy s.store.working.masks)) ∧
      (∀ e ∈ t.arbiter.queue, e.bay ≠ b) ∧ b ∉ t.scheduler.emergency ∧ b ∉ t.scheduler.ordinary ∧
      ((s.bay b).state = .diag → t.arbiter.converter.holder ≠ some b) ∧
      t.noticed (.bay b) (fun n => n.events &&& BayEvent.vacant.bit = BayEvent.vacant.bit ∧
        ((s.bay b).state = .diag →
          n.events &&& BayEvent.testDone.bit = BayEvent.testDone.bit ∧ n.testDone = .aborted) ∧
        ((s.bay b).state ≠ .stopped → (s.bay b).state ≠ .fenced →
          BayFault.pulled.maskedBy s.store.working.masks = false →
          n.faults &&& BayFault.pulled.bit = BayFault.pulled.bit)) ∧
      (∀ j, s.newestJolt = some j → j.isOpen = true → j.awaits b = true →
        ∃ j', t.newestJolt = some j' ∧ inSet j'.pulled b = true) ∧
      s.caseSetsKept t ∧ t.supply = s.supply ∧ t.transit = s.transit ∧ t.store = s.store ∧
      ((s.bay b).state ≠ .queued → (s.bay b).state ≠ .spinningUp → (s.bay b).state ≠ .diag →
        t.arbiter = s.arbiter) ∧
      ((s.bay b).state ≠ .queued → (s.bay b).state ≠ .spinningUp → (s.bay b).state ≠ .diag →
        (s.bay b).state ≠ .unloading → s.othersKept t b) ∧
      ((s.bay b).state = .spinningUp ∨ (s.bay b).state = .diag → s.arbiter.queue = [] →
        t.arbiter = { s.arbiter with
          held := s.arbiter.held - (if (s.bay b).state = .diag then 1 else (s.governing b).surgeCost)
          grants := s.arbiter.grants - 1
          converter :=
            if (s.bay b).state = .diag then { holder := none, offsetDue := none, offset := none }
            else s.arbiter.converter }) ∧
      ((s.bay b).state = .queued ∨ (s.bay b).state = .spinningUp ∨ (s.bay b).state = .diag → t.pass = none) ∧
      ((s.bay b).state = .unloading →
        t.scheduler.emergency = [] ∧ t.scheduler.ordinary = [] ∨
          s.settings.unloadWidth ≤ t.scheduler.unloading) ∧
      ((s.bay b).state = .unloading → s.scheduler.emergency = [] → s.scheduler.ordinary = [] →
        t.scheduler.unloading = s.scheduler.unloading - 1)

/-! ### Spindles -/

/-- A TACH pulse gives a measurement within 1000 ms of the pulse before it, and writes it into the speed field; another
pulse only starts a fresh interval (R11, R12). Two pulses of one µs give a free value within the limit (log 8). The
at-speed count of a SPINNING_UP bay: a measurement inside the window adds 1, one outside returns it to 0, and any pulse
stops the tach-first timer, whether or not it measures (R13, R42). -/
def Obligations.TachMeasuresSpeed : Prop :=
  (∀ (dt : Nat) (b : BayNo) (s : State), (s.bay b).state ≠ .vacant →
      ∃ t, exec (.tachPulse dt b) s = .next t ∧ t.now = s.now + dt ∧ (t.bay b).lastPulse = some (s.now + dt) ∧
        (∀ v, s.measures b (s.now + dt) v → (t.bay b).speed = some v) ∧
        (((s.bay b).lastPulse = none ∨ ∃ p, (s.bay b).lastPulse = some p ∧ 1000000 < s.now + dt - p) →
          (t.bay b).speed = (s.bay b).speed) ∧
        (∀ p, (s.bay b).lastPulse = some p → s.now + dt - p = 0 → ∃ v, (t.bay b).speed = some v ∧ v ≤ 65535)) ∧
  (∀ (dt : Nat) (b : BayNo) (s : State) (v : Nat), (s.bay b).state = .spinningUp → s.measures b (s.now + dt) v →
      (¬ s.inSpeedWindow b v ∨ (s.bay b).atSpeed < 3) →
      ∃ t, exec (.tachPulse dt b) s = .next t ∧
        (s.inSpeedWindow b v → t.bay b = { s.bay b with
          lastPulse := some (s.now + dt), speed := some v, atSpeed := (s.bay b).atSpeed + 1,
          timers := { (s.bay b).timers with tachFirst := none } }) ∧
        (¬ s.inSpeedWindow b v → t.bay b = { s.bay b with
          lastPulse := some (s.now + dt), speed := some v, atSpeed := 0,
          timers := { (s.bay b).timers with tachFirst := none } }) ∧
        s.othersKept t b ∧ t.arbiter = s.arbiter ∧ t.scheduler = s.scheduler ∧ t.faults = s.faults ∧ s.caseKept t ∧
        s.nothingRaised t) ∧
  (∀ (dt : Nat) (b : BayNo) (s : State), (s.bay b).state = .spinningUp →
      ((s.bay b).lastPulse = none ∨ ∃ p, (s.bay b).lastPulse = some p ∧ 1000000 < s.now + dt - p) →
      ∃ t, exec (.tachPulse dt b) s = .next t ∧
        t.bay b = { s.bay b with
          lastPulse := some (s.now + dt), timers := { (s.bay b).timers with tachFirst := none } } ∧
        s.othersKept t b ∧ t.arbiter = s.arbiter ∧ t.scheduler = s.scheduler ∧ t.faults = s.faults ∧ s.caseKept t ∧
        s.nothingRaised t) ∧
  (∀ (dt : Nat) (b : BayNo) (s : State), s.queuesMatch → (s.bay b).state = .spinningUp →
      ∃ t, exec (.tachPulse dt b) s = .next t ∧ (t.bay b).timers.tachFirst = none)

/-- The at-speed event (R13, R47, R48): the fourth measurement in a row inside the window takes the bay to SPUN, and a
set load-on-arrival flag tries a deferred load; the grant is released and an evaluation runs (R41). That the speed-loss
count starts at 0 is the model's choice (log 36). -/
def Obligations.FourthMeasurementReachesSpeed : Prop :=
  ∀ (dt : Nat) (b : BayNo) (s : State) (v : Nat), s.queuesMatch → (s.bay b).state = .spinningUp →
    s.measures b (s.now + dt) v → s.inSpeedWindow b v → (s.bay b).atSpeed = 3 →
    ∃ t, exec (.tachPulse dt b) s = .next t ∧ t.now = s.now + dt ∧
      (t.bay b).attempts = 0 ∧ (t.bay b).intent = .none ∧ (t.bay b).speed = some v ∧
      (t.bay b).latched = (s.bay b).latched ∧ (t.bay b).armed = true ∧ (t.bay b).outside = 0 ∧
      (t.bay b).lastSpinUp = some (caseClock (s.now + dt) - (s.bay b).grantTime).toNat ∧
      (t.bay b).spen = some ((s.governing b).surgeCost * 250) ∧
      (t.bay b).timers.gap = some (s.now + dt + 500000) ∧
      (t.bay b).timers.tachFirst = none ∧ (t.bay b).timers.hold = none ∧
      (t.bay b).sticky = (s.bay b).sticky ∧ (t.bay b).pending = (s.bay b).pending ∧ t.bayRaised b .spun ∧
      ((s.bay b).loadOnArrival = false →
        (t.bay b).state = .spun ∧ (t.bay b).hld = false ∧ (t.bay b).loadOnArrival = false) ∧
      ((s.bay b).loadOnArrival = true → s.admission b = .exposed →
        (t.bay b).state = .spun ∧ (t.bay b).loadOnArrival = false ∧ t.bayRaised b .loadRefused) ∧
      ((s.bay b).loadOnArrival = true → s.admission b = .accepted → s.transit.mode = .normal →
        (t.bay b).state = .loading ∧ (t.bay b).hld = true ∧ (t.bay b).loadOnArrival = false ∧
          (t.bay b).timers.load = some (s.now + dt + (s.governing b).loadTimeout * 1000)) ∧
      ((s.bay b).loadOnArrival = true → s.admission b ≠ .exposed →
        (s.admission b ≠ .accepted ∨ s.transit.mode = .transitSafe) →
        (t.bay b).state = .spun ∧ (t.bay b).loadOnArrival = true) ∧
      (s.arbiter.queue = [] → t.arbiter =
        { s.arbiter with held := s.arbiter.held - (s.governing b).surgeCost, grants := s.arbiter.grants - 1 } ∧
        s.othersKept t b) ∧
      t.pass = none ∧
      (∀ x, x ≠ b → (s.bay x).state ≠ .queued → t.bay x = s.bay x) ∧
      s.caseKept t ∧ t.scheduler = s.scheduler ∧ t.faults = s.faults

/-- A TACH pulse in DIAG ends the test with ABORTED and takes the bay to STOPPED (R158); the grant is released and an
evaluation runs (R41). -/
def Obligations.TachPulseAbortsATest : Prop :=
  ∀ (dt : Nat) (b : BayNo) (s : State), s.queuesMatch → (s.bay b).state = .diag →
    ∃ t, exec (.tachPulse dt b) s = .next t ∧ (t.bay b).state = .stopped ∧ (t.bay b).winding = .aborted ∧
      (t.bay b).windingCurrent = none ∧ (t.bay b).spen = none ∧ (t.bay b).timers = Timers.stopped ∧
      (t.bay b).sticky = (s.bay b).sticky ∧ (t.bay b).pending = (s.bay b).pending ∧
      (t.bay b).attempts = (s.bay b).attempts ∧ t.arbiter.converter.holder ≠ some b ∧
      t.noticed (.bay b) (fun n => n.events &&& BayEvent.testDone.bit = BayEvent.testDone.bit ∧
        n.testDone = .aborted ∧ n.events &&& BayEvent.stopped.bit = BayEvent.stopped.bit) ∧
      (s.arbiter.queue = [] → t.arbiter.held = s.arbiter.held - 1 ∧ t.arbiter.grants = s.arbiter.grants - 1) ∧
      t.pass = none ∧
      (∀ x, x ≠ b → (s.bay x).state ≠ .queued → t.bay x = s.bay x) ∧ s.caseKept t ∧ t.faults = s.faults

/-- The speed-loss detector (R14): a measurement outside the window adds to the count, one inside returns it to 0, and
every pulse restarts the gap, whether or not it measures. A speed loss of a SPUN bay, when the gap ends or at the
fourth measurement outside: SPINNING_DOWN to respin where the class is masked, HELD with the spindle off where it is
not (R139). That a report returns the count to 0 is the model's choice (log 36), and that the end of the gap comes no
earlier than its due time is log 2. -/
def Obligations.SpeedLossOfASpunBay : Prop :=
  (∀ (dt : Nat) (b : BayNo) (s : State) (v : Nat), (s.bay b).state = .spun ∨ (s.bay b).state.inLoadedCondition = true →
    (s.bay b).armed = true → s.measures b (s.now + dt) v → s.inSpeedWindow b v ∨ (s.bay b).outside < 3 →
    ∃ t, exec (.tachPulse dt b) s = .next t ∧
      (s.inSpeedWindow b v → t.bay b = { s.bay b with
        lastPulse := some (s.now + dt), speed := some v, outside := 0,
        timers := { (s.bay b).timers with gap := some (s.now + dt + 500000) } }) ∧
      (¬ s.inSpeedWindow b v → t.bay b = { s.bay b with
        lastPulse := some (s.now + dt), speed := some v, outside := (s.bay b).outside + 1,
        timers := { (s.bay b).timers with gap := some (s.now + dt + 500000) } }) ∧
      s.othersKept t b ∧ t.arbiter = s.arbiter ∧ t.scheduler = s.scheduler ∧ t.faults = s.faults ∧ s.caseKept t ∧
      s.nothingRaised t) ∧
  (∀ (dt : Nat) (b : BayNo) (s : State), (s.bay b).state = .spun ∨ (s.bay b).state.inLoadedCondition = true →
    (s.bay b).armed = true →
    (((s.bay b).lastPulse = none ∨ ∃ p, (s.bay b).lastPulse = some p ∧ 1000000 < s.now + dt - p) →
      ∃ t, exec (.tachPulse dt b) s = .next t ∧
        t.bay b = { s.bay b with
          lastPulse := some (s.now + dt),
          timers := { (s.bay b).timers with gap := some (s.now + dt + 500000) } } ∧
        s.othersKept t b ∧ t.arbiter = s.arbiter ∧ t.scheduler = s.scheduler ∧ t.faults = s.faults ∧ s.caseKept t ∧
        s.nothingRaised t) ∧
    (s.queuesMatch →
      ∃ t, exec (.tachPulse dt b) s = .next t ∧
        ((t.bay b).armed = true → (t.bay b).timers.gap = some (s.now + dt + 500000)))) ∧
  (∀ (dt : Nat) (b : BayNo) (s : State) (c : Instr) (speed : Option Nat) (pulse : Option Nat),
    (s.bay b).state = .spun → (s.bay b).armed = true →
    ((∃ due, (s.bay b).timers.gap = some due ∧ c = .speedLossGapExpiry dt b ∧ speed = (s.bay b).speed ∧
        pulse = (s.bay b).lastPulse) ∨
      (∃ v, s.measures b (s.now + dt) v ∧ ¬ s.inSpeedWindow b v ∧ (s.bay b).outside = 3 ∧ c = .tachPulse dt b ∧
        speed = some v ∧ pulse = some (s.now + dt))) →
    ∃ t, exec c s = .next t ∧ (c = .tachPulse dt b → t.now = s.now + dt) ∧
      (∀ due, c = .speedLossGapExpiry dt b → (s.bay b).timers.gap = some due → t.now = max (s.now + dt) due) ∧
      (BayFault.speedLoss.maskedBy s.store.working.masks = true →
        t.bay b = { (s.bay b).withReport .speedLoss true with
          speed := speed, lastPulse := pulse, state := .spinningDown, entryTime := caseClock t.now, intent := .respin,
          armed := false, outside := 0, spen := none, hld := false,
          timers := { Timers.stopped with
            stopGap := some (t.now + 1000000),
            stopTimeout := some (t.now + (s.governing b).stopTimeout * 1000000) } } ∧
        t.faults = s.faults ∧ s.nothingRaised t) ∧
      (BayFault.speedLoss.maskedBy s.store.working.masks = false →
        t.bay b = { (s.bay b).withReport .speedLoss false with
          speed := speed, lastPulse := pulse, state := .held, entryTime := caseClock t.now, intent := .none,
          loadOnArrival := false, spindleOn := false, armed := false, outside := 0, spen := none, hld := false,
          timers := Timers.stopped } ∧
        t.faults.attn = true ∧
        t.noticed (.bay b) (fun n => n.events &&& BayEvent.held.bit = BayEvent.held.bit ∧
          n.faults &&& BayFault.speedLoss.bit = BayFault.speedLoss.bit)) ∧
      s.othersKept t b ∧ t.arbiter = s.arbiter ∧ t.scheduler = s.scheduler ∧ s.caseSetsKept t ∧ s.caseKept t)

/-- A speed loss in the loaded condition, when the gap ends or at the fourth measurement outside: the intent by the
answer, and an emergency placement where the bay does not unload yet; a start with PRK already asserted parks in the
same event (R14, R65, R67, R69, R73, R74), and SPEED_LOSS enters the sticky set and, unmasked, the pending set (R136).
That a report returns the count to 0 is the model's choice (log 36), and that the end of the gap comes no earlier than
its due time is log 2. -/
def Obligations.SpeedLossOfALoadedBay : Prop :=
  ∀ (dt : Nat) (b : BayNo) (s : State) (c : Instr) (time : Nat) (speed pulse : Option Nat), s.queuesMatch →
    (s.bay b).armed = true →
    ((∃ due, (s.bay b).timers.gap = some due ∧ c = .speedLossGapExpiry dt b ∧ time = max (s.now + dt) due ∧
        speed = (s.bay b).speed ∧ pulse = (s.bay b).lastPulse) ∨
      (∃ v, s.measures b (s.now + dt) v ∧ ¬ s.inSpeedWindow b v ∧ (s.bay b).outside = 3 ∧ c = .tachPulse dt b ∧
        time = s.now + dt ∧ speed = some v ∧ pulse = some (s.now + dt))) →
    (let masked := BayFault.speedLoss.maskedBy s.store.working.masks
     let intent : Intent :=
       if masked then (if (s.bay b).intent = .none then .respin else (s.bay b).intent) else .holdAfter
     let lost := (s.bay b).withReport .speedLoss masked
     ((s.bay b).state = .unloading →
       ∃ t, exec c s = .next t ∧ t.now = time ∧
         t.bay b = { lost with
           speed := speed, lastPulse := pulse, intent := intent, armed := false, outside := 0,
           timers := { (s.bay b).timers with gap := none } } ∧
         s.othersKept t b ∧ t.arbiter = s.arbiter ∧ t.scheduler = s.scheduler ∧ s.caseSetsKept t ∧ s.caseKept t) ∧
     ((s.bay b).state = .loading ∨ (s.bay b).state = .loaded ∨ (s.bay b).state = .parkQueued →
       (s.settings.unloadWidth ≤ s.scheduler.unloading →
         ∃ t, exec c s = .next t ∧ t.now = time ∧ (t.bay b).state = .parkQueued ∧ (t.bay b).speed = speed ∧
           (t.bay b).lastPulse = pulse ∧ (t.bay b).intent = intent ∧ (t.bay b).armed = false ∧
           (t.bay b).sticky = lost.sticky ∧ (t.bay b).pending = lost.pending ∧
           ((s.bay b).state ≠ .parkQueued → (t.bay b).hld = true ∧ (t.bay b).timers = Timers.stopped) ∧
           ((s.bay b).state = .parkQueued → (t.bay b).hld = (s.bay b).hld ∧
             (t.bay b).timers = { (s.bay b).timers with gap := none }) ∧
           b ∈ t.scheduler.emergency ∧ b ∉ t.scheduler.ordinary ∧
           t.scheduler.unloading = s.scheduler.unloading ∧ s.othersKept t b ∧ t.arbiter = s.arbiter ∧
           s.caseSetsKept t ∧ s.caseKept t) ∧
       (s.scheduler.unloading < s.settings.unloadWidth → s.scheduler.emergency = [] → s.scheduler.ordinary = [] →
         ((s.bay b).prk = false →
           ∃ t, exec c s = .next t ∧ t.now = time ∧ (t.bay b).state = .unloading ∧ (t.bay b).speed = speed ∧
             (t.bay b).intent = intent ∧ (t.bay b).armed = false ∧ (t.bay b).hld = false ∧
             (t.bay b).sticky = lost.sticky ∧ (t.bay b).pending = lost.pending ∧
             (t.bay b).timers.unloadDeadline = some (time + (s.governing b).unloadDeadline * 1000) ∧
             t.scheduler.emergency = [] ∧ t.scheduler.ordinary = [] ∧
             t.scheduler.unloading = s.scheduler.unloading + 1 ∧ s.othersKept t b ∧ t.arbiter = s.arbiter ∧
             s.caseSetsKept t ∧ s.caseKept t) ∧
         ((s.bay b).prk = true →
           ∃ t, exec c s = .next t ∧ t.now = time ∧ t.bayRaised b .parked ∧ (t.bay b).speed = speed ∧
             (t.bay b).armed = false ∧ (t.bay b).hld = false ∧ (t.bay b).spen = none ∧
             (t.bay b).sticky = lost.sticky ∧ (t.bay b).pending = lost.pending ∧
             (masked = true → (s.bay b).intent ≠ .holdAfter →
               (t.bay b).state = .spinningDown ∧ (t.bay b).intent = intent) ∧
             (masked = false →
               (t.bay b).state = .held ∧ (t.bay b).spindleOn = false ∧ (t.bay b).intent = .none ∧
                 t.bayRaised b .held) ∧
             t.scheduler.emergency = [] ∧ t.scheduler.ordinary = [] ∧
             t.scheduler.unloading = s.scheduler.unloading ∧ s.othersKept t b ∧ t.arbiter = s.arbiter ∧
             s.caseSetsKept t ∧ t.supply = s.supply ∧ t.transit = s.transit ∧ t.store = s.store))))

/-- A spin-up failure, by the end of the tach-first timer (SPIN_STALL) or of the hold timer (SPIN_SLOW): the attempt
count, the report, the release, and the next state by the limit and the answer (R42 to R45); an evaluation runs (R41).
That the end of the timer comes no earlier than its due time is the model's choice (log 2). -/
def Obligations.SpinUpFailures : Prop :=
  ∀ (dt : Nat) (b : BayNo) (s : State) (due : Nat) (c : Instr) (k : BayFault), s.queuesMatch →
    (s.bay b).state = .spinningUp →
    (c = .tachFirstExpiry dt b ∧ k = .spinStall ∧ (s.bay b).timers.tachFirst = some due ∨
      c = .holdTimerExpiry dt b ∧ k = .spinSlow ∧ (s.bay b).timers.hold = some due) →
    ∃ t, exec c s = .next t ∧ t.now = max (s.now + dt) due ∧
      (let masked := k.maskedBy s.store.working.masks
       let attempts := min 7 ((s.bay b).attempts + 1)
       let failed : BayRec := { (s.bay b).withReport k masked with
         attempts := attempts, entryTime := caseClock t.now, armed := false, spen := none, hld := false }
       ((s.governing b).retryLimit ≤ attempts →
         t.bay b = { failed with
           state := .fenced, latched := none, intent := .none, loadOnArrival := false, timers := Timers.stopped } ∧
         t.bayRaised b .fenced) ∧
       (attempts < (s.governing b).retryLimit → masked = true →
         t.bay b = { failed with
           state := .spinningDown, intent := .respin,
           timers := { Timers.stopped with
             stopGap := some (t.now + 1000000),
             stopTimeout := some (t.now + (s.governing b).stopTimeout * 1000000) } }) ∧
       (attempts < (s.governing b).retryLimit → masked = false →
         t.bay b = { failed with
           state := .held, intent := .none, loadOnArrival := false, spindleOn := false,
           timers := Timers.stopped } ∧
         t.bayRaised b .held) ∧
       (masked = true → t.faults = s.faults) ∧ (masked = false → t.faults.attn = true)) ∧
      (s.arbiter.queue = [] → t.arbiter =
        { s.arbiter with held := s.arbiter.held - (s.governing b).surgeCost, grants := s.arbiter.grants - 1 } ∧
        s.othersKept t b) ∧
      t.pass = none ∧
      (∀ x, x ≠ b → (s.bay x).state ≠ .queued → t.bay x = s.bay x) ∧
      s.caseSetsKept t ∧ s.caseKept t ∧ t.scheduler = s.scheduler

/-- A TACH pulse in SPINNING_DOWN restarts the stop gap (R49). A spindle comes to rest, by the end of the stop gap or
of the stop timeout: STOPPED with speed 0, and under RESPIN in a NORMAL case the bay joins the spin-up queue behind
every entry with skip count 0, and a grant evaluation runs on that (R29, R34, R50). That the end of the timer comes no
earlier than its due time is the model's choice (log 2). -/
def Obligations.SpindleComesToRest : Prop :=
  (∀ (dt : Nat) (b : BayNo) (s : State), (s.bay b).state = .spinningDown →
    ∃ t, exec (.tachPulse dt b) s = .next t ∧ (t.bay b).lastPulse = some (s.now + dt) ∧
      t.bay b = { s.bay b with
        lastPulse := some (s.now + dt), speed := (t.bay b).speed,
        timers := { (s.bay b).timers with stopGap := some (s.now + dt + 1000000) } } ∧
      s.othersKept t b ∧ t.arbiter = s.arbiter ∧ t.scheduler = s.scheduler ∧ t.faults = s.faults ∧ s.caseKept t ∧
      s.nothingRaised t) ∧
  (∀ (dt : Nat) (b : BayNo) (s : State) (due : Nat) (c : Instr), s.queuesMatch → (s.bay b).state = .spinningDown →
      (c = .stopGapExpiry dt b ∧ (s.bay b).timers.stopGap = some due ∨
        c = .stopTimeoutExpiry dt b ∧ (s.bay b).timers.stopTimeout = some due) →
      ∃ t, exec c s = .next t ∧ t.now = max (s.now + dt) due ∧ t.bayRaised b .stopped ∧ t.faults = s.faults ∧
        s.caseKept t ∧ t.scheduler = s.scheduler ∧
        (¬ ((s.bay b).intent = .respin ∧ s.transit.mode = .normal) →
          t.bay b = { s.bay b with
            state := .stopped, entryTime := caseClock t.now, speed := some 0, latched := none, intent := .none,
            armed := false, spen := none, hld := false, timers := Timers.stopped } ∧
          s.othersKept t b ∧ t.arbiter = s.arbiter) ∧
        ((s.bay b).intent = .respin → s.transit.mode = .normal →
          (t.bay b).speed = some 0 ∧ (t.bay b).intent = .none ∧
          (t.bay b).loadOnArrival = (s.bay b).loadOnArrival ∧ (t.bay b).attempts = (s.bay b).attempts ∧
          ((t.bay b).state = .queued ∧ t.entryKind b = some .spin ∨ (t.bay b).state = .spinningUp) ∧
          (∀ x, x ≠ b → (s.bay x).state ≠ .queued → t.bay x = s.bay x) ∧
          t.pass = none ∧
          (let rejoined : BayRec := { s.bay b with
             state := .queued, entryTime := caseClock t.now, speed := some 0, latched := none, intent := .none,
             armed := false, spen := none, hld := false, timers := Timers.stopped }
           let joined : State := { s with
             now := t.now, bays := s.bays.set b.val rejoined b.isLt,
             arbiter := { s.arbiter with queue := s.arbiter.queue ++ [{ bay := b, kind := .spin, skip := 0 }] } }
           t.arbiter = joined.evaluate.arbiter ∧ t.bays = joined.evaluate.bays)))

/-! ### Heads -/

/-- PRK clears: in LOADING the settle period starts at the edge; elsewhere only the level changes (R59). The settle
period ends: the bay is LOADED and raises LOADED (R59, R61). That its end comes no earlier than its due time is the
model's choice (log 2). -/
def Obligations.SettlePeriodLoadsTheBay : Prop :=
  (∀ (dt : Nat) (b : BayNo) (s : State),
      ∃ t, exec (.prkDeasserted dt b) s = .next t ∧ t.now = s.now + dt ∧
        ((s.bay b).prk = true → (s.bay b).state = .loading →
          t.bay b = { s.bay b with
            prk := false,
            timers := { (s.bay b).timers with
              settle := some (s.now + dt + (s.governing b).loadSettle * 1000) } }) ∧
        ((s.bay b).prk = false ∨ (s.bay b).state ≠ .loading → t.bay b = { s.bay b with prk := false }) ∧
        s.othersKept t b ∧ t.arbiter = s.arbiter ∧ t.scheduler = s.scheduler ∧ t.faults = s.faults ∧ s.caseKept t ∧
        s.nothingRaised t) ∧
  (∀ (dt : Nat) (b : BayNo) (s : State) (due : Nat), (s.bay b).state = .loading →
      (s.bay b).timers.settle = some due →
      ∃ t, exec (.settleComplete dt b) s = .next t ∧ t.now = max (s.now + dt) due ∧
        t.bay b = { s.bay b with
          state := .loaded, entryTime := caseClock t.now, hld := true,
          spen := some ((s.governing b).surgeCost * 250),
          timers := { Timers.stopped with gap := (s.bay b).timers.gap } } ∧
        t.bayRaised b .loaded ∧ s.othersKept t b ∧ t.arbiter = s.arbiter ∧ t.scheduler = s.scheduler ∧
        t.faults = s.faults ∧ s.caseKept t)

/-- A late load: LOAD_LATE, the intent of the answer, and an ordinary unload (R60, R66). -/
def Obligations.LateLoadIsUnloaded : Prop :=
  ∀ (dt : Nat) (b : BayNo) (s : State) (due : Nat), s.queuesMatch → (s.bay b).state = .loading →
    (s.bay b).timers.load = some due →
    (let masked := BayFault.loadLate.maskedBy s.store.working.masks
     let intent : Intent := if masked then .none else .holdAfter
     let late := (s.bay b).withReport .loadLate masked
     (s.settings.unloadWidth ≤ s.scheduler.unloading →
       ∃ t, exec (.loadTimerExpiry dt b) s = .next t ∧ (t.bay b).state = .parkQueued ∧
         (t.bay b).intent = intent ∧ (t.bay b).hld = true ∧ (t.bay b).sticky = late.sticky ∧
         (t.bay b).pending = late.pending ∧ (t.bay b).attempts = (s.bay b).attempts ∧
         (t.bay b).timers.load = none ∧ (t.bay b).timers.settle = none ∧
         t.scheduler = { s.scheduler with ordinary := s.scheduler.ordinary ++ [b] } ∧ s.othersKept t b ∧
         t.arbiter = s.arbiter ∧ s.caseSetsKept t ∧ s.caseKept t) ∧
     (s.scheduler.unloading < s.settings.unloadWidth → s.scheduler.emergency = [] → s.scheduler.ordinary = [] →
       ∃ t, exec (.loadTimerExpiry dt b) s = .next t ∧ (t.bay b).sticky = late.sticky ∧
         (t.bay b).pending = late.pending ∧ s.othersKept t b ∧ t.arbiter = s.arbiter ∧ s.caseSetsKept t ∧
         t.scheduler.emergency = [] ∧ t.scheduler.ordinary = [] ∧
         ((s.bay b).prk = false →
           (t.bay b).state = .unloading ∧ (t.bay b).intent = intent ∧ (t.bay b).hld = false ∧
           (t.bay b).spen = some ((s.governing b).surgeCost * 250) ∧
           t.scheduler.unloading = s.scheduler.unloading + 1) ∧
         ((s.bay b).prk = true →
           t.bayRaised b .parked ∧ t.scheduler.unloading = s.scheduler.unloading ∧
           (masked = true → s.transit.mode = .normal → (t.bay b).state = .spun) ∧
           (masked = false → (t.bay b).state = .held))))

/-- A park: PARKED, the count falls, the bay is marked parked in time, it goes on by its intent, and a start pass runs
(R64, R69, R70). That the record of a bay with HOLD_AFTER and an empty pending set carries STOP_AFTER in SPINNING_DOWN
is the model's own reading of R70's "read as STOP_AFTER" (log 15, DEDUCED), not the manual's words. Where the bay is
not UNLOADING, PRK is only a level, and in LOADING it cancels the settle period (R59, R61, R72). -/
def Obligations.ParkFollowsTheIntent : Prop :=
  ∀ (dt : Nat) (b : BayNo) (s : State),
    (s.queuesMatch → (s.bay b).state = .unloading →
      ∃ t, exec (.park dt b) s = .next t ∧ t.now = s.now + dt ∧ (t.bay b).prk = true ∧
        (t.bay b).timers.unloadDeadline = none ∧ (t.bay b).hld = false ∧ t.bayRaised b .parked ∧
        (t.bay b).latched = (s.bay b).latched ∧ (t.bay b).sticky = (s.bay b).sticky ∧
        (t.bay b).pending = (s.bay b).pending ∧
        ((s.bay b).intent = .none → s.transit.mode = .normal →
          (t.bay b).state = .spun ∧ (t.bay b).armed = true ∧ (t.bay b).attempts = 0 ∧ t.bayRaised b .spun) ∧
        ((s.bay b).intent = .none → s.transit.mode = .transitSafe →
          (t.bay b).state = .spinningDown ∧ (t.bay b).intent = .stopAfter ∧ (t.bay b).spen = none) ∧
        ((s.bay b).intent = .stopAfter ∨ (s.bay b).intent = .respin →
          (t.bay b).state = .spinningDown ∧ (t.bay b).intent = (s.bay b).intent ∧ (t.bay b).spen = none ∧
          (t.bay b).timers.stopGap = some (s.now + dt + 1000000)) ∧
        ((s.bay b).intent = .holdAfter → (s.bay b).pending ≠ 0 →
          (t.bay b).state = .held ∧ (t.bay b).intent = .none ∧ (t.bay b).loadOnArrival = false ∧
          ((t.bay b).spindleOn = true ↔ (s.bay b).armed = true ∧ s.transit.mode = .normal) ∧
          (t.bay b).spen.isSome = (t.bay b).spindleOn ∧ t.bayRaised b .held) ∧
        ((s.bay b).intent = .holdAfter → (s.bay b).pending = 0 →
          (t.bay b).state = .spinningDown ∧ (t.bay b).intent = .stopAfter) ∧
        (t.scheduler.emergency = [] ∧ t.scheduler.ordinary = [] ∨
          s.settings.unloadWidth ≤ t.scheduler.unloading) ∧
        (s.scheduler.emergency = [] → s.scheduler.ordinary = [] →
          t.scheduler = { s.scheduler with unloading := s.scheduler.unloading - 1 } ∧ s.othersKept t b) ∧
        (∀ j, s.newestJolt = some j → j.isOpen = true → j.awaits b = true →
          ∃ j', t.newestJolt = some j' ∧ inSet j'.parked b = true) ∧
        (∀ x, x ≠ b → (s.bay x).state ≠ .parkQueued → t.bay x = s.bay x) ∧
        t.arbiter = s.arbiter ∧ t.faults = s.faults ∧ t.supply = s.supply ∧ t.transit = s.transit ∧
        t.store = s.store) ∧
    ((s.bay b).state ≠ .unloading →
      ∃ t, exec (.park dt b) s = .next t ∧
        t.bay b = { s.bay b with
          prk := true,
          timers := if (s.bay b).state = .loading then { (s.bay b).timers with settle := none }
            else (s.bay b).timers } ∧
        s.othersKept t b ∧ t.arbiter = s.arbiter ∧ t.scheduler = s.scheduler ∧ t.faults = s.faults ∧
        s.caseKept t ∧ s.nothingRaised t)

/-- A late unload: SPEN drops, the count falls, the bay is marked late, UNLOAD_LATE is reported, and the bay becomes
FENCED or HELD; a start pass runs (R64, R71). That the end of the deadline comes no earlier than its due time is the
model's choice (log 2). -/
def Obligations.LateUnloadFencesOrHolds : Prop :=
  ∀ (dt : Nat) (b : BayNo) (s : State) (due : Nat), s.queuesMatch → (s.bay b).state = .unloading →
    (s.bay b).timers.unloadDeadline = some due →
    ∃ t, exec (.unloadDeadlineExpiry dt b) s = .next t ∧ t.now = max (s.now + dt) due ∧
      (BayFault.unloadLate.maskedBy s.store.working.masks = true →
        t.bay b = { (s.bay b).withReport .unloadLate true with
          state := .fenced, entryTime := caseClock t.now, latched := none, intent := .none, loadOnArrival := false,
          armed := false, spen := none, hld := false, timers := Timers.stopped } ∧
        t.bayRaised b .fenced ∧ t.faults = s.faults) ∧
      (BayFault.unloadLate.maskedBy s.store.working.masks = false →
        t.bay b = { (s.bay b).withReport .unloadLate false with
          state := .held, entryTime := caseClock t.now, intent := .none, loadOnArrival := false, spindleOn := false,
          armed := false, spen := none, hld := false, timers := Timers.stopped } ∧
        t.bayRaised b .held ∧ t.faults.attn = true) ∧
      (t.scheduler.emergency = [] ∧ t.scheduler.ordinary = [] ∨
        s.settings.unloadWidth ≤ t.scheduler.unloading) ∧
      (s.scheduler.emergency = [] → s.scheduler.ordinary = [] →
        t.scheduler = { s.scheduler with unloading := s.scheduler.unloading - 1 } ∧ s.othersKept t b) ∧
      (∀ j, s.newestJolt = some j → j.isOpen = true → j.awaits b = true →
        ∃ j', t.newestJolt = some j' ∧ inSet j'.late b = true) ∧
      (∀ x, x ≠ b → (s.bay x).state ≠ .parkQueued → t.bay x = s.bay x) ∧
      t.arbiter = s.arbiter ∧ s.caseSetsKept t ∧ t.supply = s.supply ∧ t.transit = s.transit ∧ t.store = s.store

/-- After a start pass either the unload queue is empty or the count is at least W, and after a grant evaluation no
pass grants (R34, R64). The eligibility, the effective profile and the cost that a pass reads (R5, R35, R37). The order
of the mode (R36): arrival; the bays from the one above the rotate pointer upward; or rank 3 first, with equal ranks by
arrival. The skip rule (R37, R38), for the eligible entries in the order of the mode: a candidate that fits is granted;
past one that does not fit, the first entry that fits is granted while the skip count is below a limit above 0. A pass
carried out (R38 to R40, R154): the skip count of the candidate passed over, the queue without the granted entry, the
held total, the grant count, the pointer, the bay and the converter; the evaluation then runs again, and ends where a
pass grants nothing. A start pass takes the head of the emergency section, and the head of the ordinary section where
that is empty; the bay unloads, or parks at once with PRK asserted (R62, R64, R65). A sweep places the bays that it
takes up in the order from the origin upward behind the emergency entries already there, with the intents of its kind,
and one start pass follows (R67, R102, R103, R106); it advances the origin by 1 where origin rotation is on, and leaves
the pointer where the walk began (R100, R104). -/
def Obligations.QueuePassesFollowTheirOrder : Prop :=
  (∀ s : State,
      (s.startPass.scheduler.emergency = [] ∧ s.startPass.scheduler.ordinary = [] ∨
        s.settings.unloadWidth ≤ s.startPass.scheduler.unloading) ∧
      s.evaluate.pass = none ∧ (s.pass = none → s.evaluate = s)) ∧
  (∀ (s : State) (e : SpinEntry),
      (e.kind = .spin → (s.eligible e = true ↔ s.motion.cls ≠ .rolling ∨
        s.settings.spinWhileRolling = true ∧ s.settings.rollingPolicy ≠ .parkAndStop)) ∧
      (e.kind = .test → (s.eligible e = true ↔ ∀ b, (s.bay b).state ≠ .diag)) ∧
      (e.kind = .spin → s.cost e = (s.effective e.bay).surgeCost) ∧ (e.kind = .test → s.cost e = 1)) ∧
  (∀ (s : State) (b : BayNo),
      (s.settings.commonProfile = true → s.effective b = s.store.working.profiles[0]) ∧
      (s.settings.commonProfile = false →
        s.effective b = s.store.working.profiles[s.store.working.selections[b]])) ∧
  (∀ (s : State) (candidate : SpinEntry) (rest : List SpinEntry), s.transit.mode = .normal →
      s.arbiter.grants < s.settings.concurrencyLimit →
      s.inModeOrder (s.arbiter.queue.filter s.eligible) = candidate :: rest →
      (s.arbiter.held + s.cost candidate ≤ s.supply.budget →
        s.pass = some { granted := candidate, skipped := none }) ∧
      (s.supply.budget < s.arbiter.held + s.cost candidate →
        (∀ e before after, rest = before ++ e :: after → (∀ x ∈ before, s.supply.budget < s.arbiter.held + s.cost x) →
          s.arbiter.held + s.cost e ≤ s.supply.budget → candidate.skip < s.settings.skipLimit →
          s.pass = some { granted := e, skipped := some candidate.bay }) ∧
        ((∀ x ∈ rest, s.supply.budget < s.arbiter.held + s.cost x) ∨ s.settings.skipLimit ≤ candidate.skip →
          s.pass = none))) ∧
  (∀ (s : State) (es : List SpinEntry), s.store.working.valid = true →
      (s.inModeOrder es).Perm es ∧
      (s.settings.arbiterMode = .arrival → s.inModeOrder es = es) ∧
      (s.settings.arbiterMode = .rotate →
        (s.inModeOrder es).Pairwise (fun a c =>
          (a.bay - (s.arbiter.pointer + 1)).val ≤ (c.bay - (s.arbiter.pointer + 1)).val)) ∧
      (s.settings.arbiterMode = .ranked →
        (s.inModeOrder es).Pairwise (fun a c => (s.effective c.bay).rank ≤ (s.effective a.bay).rank) ∧
        ∀ k, (s.inModeOrder es).filter (fun e => (s.effective e.bay).rank == k) =
          es.filter (fun e => (s.effective e.bay).rank == k))) ∧
  (∀ (s : State) (p : PassResult), s.pass = some p →
      (let t := s.carryOut p
       let b := p.granted.bay
       p.granted ∈ s.arbiter.queue ∧
       t.arbiter.queue = (s.arbiter.queue.map (fun e =>
         if p.skipped = some e.bay then { e with skip := e.skip + 1 } else e)).filter (fun e => e.bay != b) ∧
       t.arbiter.held = s.arbiter.held + s.cost p.granted ∧ t.arbiter.grants = s.arbiter.grants + 1 ∧
       t.arbiter.pointer = b ∧
       (p.granted.kind = .spin →
         t.bay b = { s.bay b with
           state := .spinningUp, entryTime := s.clock, latched := some (s.effective b), grantTime := s.clock,
           atSpeed := 0, armed := false, spen := some ((s.effective b).surgeCost * 250), hld := false,
           timers := { Timers.stopped with
             tachFirst := some (s.now + (s.effective b).tachFirst * 1000),
             hold := some (s.now + (s.effective b).holdTime * 1000000) } } ∧
         t.arbiter.converter = s.arbiter.converter) ∧
       (p.granted.kind = .test →
         t.bay b = { s.bay b with
           state := .diag, entryTime := s.clock, armed := false, spen := none, hld := false,
           timers := Timers.stopped } ∧
         t.arbiter.converter = { holder := some b, offsetDue := some (s.now + 1000), offset := none }) ∧
       s.othersKept t b ∧ t.scheduler = s.scheduler ∧ t.faults = s.faults ∧ s.caseKept t ∧
       t.link.notices = s.link.notices ∧ s.evaluate = t.evaluate)) ∧
  (∀ s : State,
      (s.settings.unloadWidth ≤ s.scheduler.unloading ∨ s.scheduler.emergency = [] ∧ s.scheduler.ordinary = [] →
        s.startPass = s) ∧
      (∀ b rest, s.scheduler.unloading < s.settings.unloadWidth → s.scheduler.emergency = b :: rest →
        s.startPass =
          (({ s with scheduler := { s.scheduler with emergency := rest } } : State).startUnload b).startPass) ∧
      (∀ b rest, s.scheduler.unloading < s.settings.unloadWidth → s.scheduler.emergency = [] →
        s.scheduler.ordinary = b :: rest →
        s.startPass =
          (({ s with scheduler := { s.scheduler with ordinary := rest } } : State).startUnload b).startPass)) ∧
  (∀ (s : State) (b : BayNo),
      ((s.bay b).prk = false →
        (s.startUnload b).bay b = { s.bay b with
          state := .unloading, entryTime := s.clock, spen := some ((s.governing b).surgeCost * 250), hld := false,
          timers := { Timers.stopped with
            gap := (s.bay b).timers.gap, unloadDeadline := some (s.now + (s.governing b).unloadDeadline * 1000) } } ∧
        (s.startUnload b).scheduler = { s.scheduler with unloading := s.scheduler.unloading + 1 } ∧
        (s.startUnload b).motion = s.motion ∧ (s.startUnload b).link = s.link) ∧
      ((s.bay b).prk = true →
        ((s.startUnload b).bay b).state ≠ .unloading ∧ (s.startUnload b).scheduler = s.scheduler ∧
        (s.startUnload b).bayRaised b .parked) ∧
      s.othersKept (s.startUnload b) b ∧ (s.startUnload b).arbiter = s.arbiter ∧ (s.startUnload b).faults = s.faults) ∧
  (∀ (k : SweepKind) (s : State), s.queuesMatch →
      ∃ placed : State, s.sweep k = placed.startPass ∧
        placed.scheduler = {
          emergency := s.scheduler.emergency ++
            ((List.finRange 16).map (fun i => s.scheduler.origin + i)).filter (fun b =>
              (s.bay b).state == .loading || (s.bay b).state == .loaded || s.scheduler.ordinary.contains b)
          ordinary := []
          unloading := s.scheduler.unloading
          origin := if s.settings.originRotation = true then s.scheduler.origin + 1 else s.scheduler.origin
          pointer := s.scheduler.origin } ∧
        (∀ b, (s.bay b).state.inLoadedCondition = true →
          (placed.bay b).state = (if (s.bay b).state = .unloading then .unloading else .parkQueued) ∧
          (placed.bay b).prk = (s.bay b).prk ∧ (placed.bay b).pending = (s.bay b).pending ∧
          (placed.bay b).intent =
            if (k = .transit ∨ k = .parkAndStop) ∧ (s.bay b).intent ≠ .holdAfter then .stopAfter
            else (s.bay b).intent) ∧
        placed.now = s.now ∧ placed.store = s.store ∧ placed.motion = s.motion ∧ placed.transit = s.transit) ∧
  (∀ (k : SweepKind) (s : State),
      (s.sweep k).scheduler.origin =
        (if s.settings.originRotation = true then s.scheduler.origin + 1 else s.scheduler.origin) ∧
      (s.sweep k).scheduler.pointer = s.scheduler.origin)

/-! ### Winding tests -/

/-- The offset reading completes: the converter holds the offset, SPEN goes on at 8000 mA, and the pulse runs for the
test pulse width (R154, R155). The pulse ends: the current, the result by the two thresholds, the release, and the
state that follows, with a grant evaluation (R41, R155 to R157). That neither comes earlier than its due time is the
model's choice (log 2). -/
def Obligations.WindingTestRuns : Prop :=
  (∀ (dt : Nat) (b : BayNo) (reading : Nat) (s : State) (due : Nat), (s.bay b).state = .diag →
      s.arbiter.converter.holder = some b → s.arbiter.converter.offsetDue = some due →
      ∃ t, exec (.offsetReadingComplete dt b reading) s = .next t ∧ t.now = max (s.now + dt) due ∧
        t.bay b = { s.bay b with
          spen := some 8000,
          timers := { (s.bay b).timers with testPulse := some (t.now + s.settings.testPulseWidth * 1000) } } ∧
        t.arbiter = { s.arbiter with
          converter := { holder := some b, offsetDue := none, offset := some reading } } ∧
        s.othersKept t b ∧ t.scheduler = s.scheduler ∧ t.faults = s.faults ∧ s.caseKept t ∧ s.nothingRaised t) ∧
  (∀ (dt : Nat) (b : BayNo) (conversion : Nat) (s : State) (due offset : Nat), s.queuesMatch →
      (s.bay b).state = .diag → (s.bay b).timers.testPulse = some due → s.arbiter.converter.offset = some offset →
      ∃ t, exec (.testPulseEnd dt b conversion) s = .next t ∧ t.now = max (s.now + dt) due ∧
        (let current := min 10000 (conversion - offset)
         let masked := BayFault.winding.maskedBy s.store.working.masks
         let tested (res : WindingResult) : BayRec := { s.bay b with
           winding := res, windingCurrent := some current, entryTime := caseClock t.now, armed := false,
           spen := none, hld := false, intent := .none, timers := Timers.stopped }
         (s.settings.openThreshold ≤ current → current ≤ s.settings.shortThreshold →
           t.bay b = { tested .pass with state := .stopped, latched := none } ∧
           t.noticed (.bay b) (fun n => n.events &&& BayEvent.testDone.bit = BayEvent.testDone.bit ∧
             n.testDone = .pass ∧ n.events &&& BayEvent.stopped.bit = BayEvent.stopped.bit) ∧
           t.faults = s.faults) ∧
         (∀ res, (current < s.settings.openThreshold ∧ res = .openCircuit) ∨
             (s.settings.openThreshold ≤ current ∧ s.settings.shortThreshold < current ∧ res = .shortCircuit) →
           (masked = true → t.bay b = { (tested res).withReport .winding true with
             state := .fenced, latched := none, loadOnArrival := false } ∧ t.faults = s.faults) ∧
           (masked = false → t.bay b = { (tested res).withReport .winding false with
             state := .held, loadOnArrival := false, spindleOn := false } ∧ t.faults.attn = true) ∧
           t.noticed (.bay b) (fun n => n.events &&& BayEvent.testDone.bit = BayEvent.testDone.bit ∧
             n.testDone = res))) ∧
        t.arbiter.converter.holder ≠ some b ∧ t.pass = none ∧
        (s.arbiter.queue = [] → t.arbiter = { s.arbiter with
          held := s.arbiter.held - 1, grants := s.arbiter.grants - 1,
          converter := { holder := none, offsetDue := none, offset := none } } ∧ s.othersKept t b) ∧
        (∀ x, x ≠ b → (s.bay x).state ≠ .queued → t.bay x = s.bay x) ∧
        s.caseSetsKept t ∧ s.caseKept t ∧ t.scheduler = s.scheduler)

/-! ### Motion -/

/-- A sample: a valid one returns the missing count to 0 and enters its deviation in the ring; a missing one only
counts, up to the twentieth (R79, R80, R82, R83). That a sample moves on to a 2.5 ms mark is the model's choice (log
3). -/
def Obligations.SampleAccounting : Prop :=
  ∀ (dt : Nat) (ready : Bool) (x y z : Int) (s : State),
    ∃ t, exec (.motionSample dt ready x y z) s = .next t ∧ t.now % 2500 = 0 ∧ s.now + dt ≤ t.now ∧
      s.motion.nextSample ≤ t.now ∧ t.motion.nextSample = t.now + 2500 ∧
      (let valid := ready = true ∧ -16000 ≤ x ∧ x ≤ 16000 ∧ -16000 ≤ y ∧ y ≤ 16000 ∧ -16000 ≤ z ∧ z ≤ 16000
       let a : Accel := { x := x, y := y, z := z }
       (valid → s.motion.lost = false →
         t.motion.missing = 0 ∧
         t.motion.ring =
           (s.motion.ring ++ [if s.motion.lastSamples.length < 8 then 0
             else (s.motion.lastSamples.head?.map (fun o =>
               max (x - o.x).natAbs (max (y - o.y).natAbs (z - o.z).natAbs))).getD 0]).drop
             (s.motion.ring.length + 1 - 64) ∧
         t.motion.lastSamples = (s.motion.lastSamples ++ [a]).drop (s.motion.lastSamples.length + 1 - 8)) ∧
       (¬ valid → (s.motion.lost = true ∨ s.motion.missing + 1 < 20) →
         t.motion = { s.motion with missing := s.motion.missing + 1, nextSample := t.now + 2500 } ∧
         t.bays = s.bays ∧ t.arbiter = s.arbiter ∧ t.scheduler = s.scheduler ∧ t.faults = s.faults ∧
         t.supply = s.supply ∧ t.transit = s.transit ∧ t.store = s.store ∧ s.nothingRaised t))

/-- The motion class after a valid sample, by the table of R85 with the dwell of R86, which restarts at every entry
into UNSETTLED and, in UNSETTLED, at every deviation at the roll threshold or above. A change raises MOTION_CHANGED; a
change to STILL tries the deferred loads; an entry into ROLLING adds to the exposure of the loaded bays and sweeps by
the rolling policy (R87, R88, R105 to R108). That the dwell is compared in µs is the model's choice (log 31). -/
def Obligations.MotionClassSettles : Prop :=
  ∀ (dt : Nat) (x y z : Int) (s : State), s.queuesMatch →
    sampleValid true { x := x, y := y, z := z } = true → s.motion.lost = false →
    ∃ t, exec (.motionSample dt true x y z) s = .next t ∧
      (let d := (t.motion.ring.getLast?).getD 0
       let rolls := s.settings.rollCount ≤ (t.motion.ring.filter (fun e => s.settings.rollThreshold ≤ e)).length
       let dwelt := if s.settings.rollThreshold ≤ d then 0 else t.now - s.motion.dwellStart
       t.motion.cls =
         (match s.motion.cls with
          | .still => if rolls then .rolling else if s.settings.rollThreshold ≤ d then .unsettled else .still
          | .unsettled =>
            if rolls then .rolling else if s.settings.stillnessDwell * 1000 ≤ dwelt then .still else .unsettled
          | .rolling => if rolls then .rolling else .unsettled) ∧
       (t.motion.cls ≠ s.motion.cls → t.caseRaised .motionChanged ∧ t.pass = none) ∧
       (t.motion.cls = .unsettled → s.motion.cls ≠ .unsettled → t.motion.dwellStart = t.now) ∧
       (t.motion.cls = .unsettled → s.motion.cls = .unsettled →
         t.motion.dwellStart = if s.settings.rollThreshold ≤ d then t.now else s.motion.dwellStart) ∧
       (t.motion.cls = .still → s.motion.cls ≠ .still → d < s.settings.joltThreshold →
         ∀ b, (s.bay b).state = .spun →
           ((s.bay b).loadOnArrival = false → t.bay b = s.bay b) ∧
           ((s.bay b).loadOnArrival = true → s.admission b = .exposed →
             t.bay b = { s.bay b with loadOnArrival := false } ∧ t.bayRaised b .loadRefused) ∧
           ((s.bay b).loadOnArrival = true → s.admission b ≠ .exposed →
             s.transit.mode = .normal → s.supply.cls ≠ .cut →
             (t.bay b).state = .loading ∧ (t.bay b).hld = true ∧ (t.bay b).loadOnArrival = false ∧
               (t.bay b).timers.load = some (t.now + (s.governing b).loadTimeout * 1000)) ∧
           ((s.bay b).loadOnArrival = true → s.admission b ≠ .exposed →
             s.transit.mode = .transitSafe ∨ s.supply.cls = .cut → t.bay b = s.bay b)) ∧
       (t.motion.cls = .rolling → s.motion.cls ≠ .rolling →
         (s.settings.rollingPolicy = .keep → d < s.settings.joltThreshold →
           t.scheduler = s.scheduler ∧ ∀ b, (s.bay b).state ≠ .queued →
             t.bay b = { s.bay b with rollsLoaded := (t.bay b).rollsLoaded }) ∧
         (s.settings.rollingPolicy ≠ .keep →
           (∀ b, (t.bay b).state ≠ .loading ∧ (t.bay b).state ≠ .loaded) ∧
           (∀ b, (s.bay b).state.inLoadedCondition = true → (s.bay b).prk = false →
             ((t.bay b).state = .parkQueued ∨ (t.bay b).state = .unloading) ∧
             (t.bay b).intent =
               if s.settings.rollingPolicy = .park ∨ (s.bay b).intent = .holdAfter then (s.bay b).intent
               else .stopAfter) ∧
           (d < s.settings.joltThreshold → t.scheduler.origin =
             if s.settings.originRotation = true then s.scheduler.origin + 1 else s.scheduler.origin)) ∧
         (s.settings.rollingPolicy = .park → ∀ b, (s.bay b).state = .spun ∨ (s.bay b).state = .spinningUp →
           (t.bay b).state = (s.bay b).state ∧ (t.bay b).intent = (s.bay b).intent) ∧
         (s.settings.rollingPolicy = .parkAndStop →
           ∀ b, (s.bay b).state = .spun ∨ (s.bay b).state = .spinningUp →
             (t.bay b).state = .spinningDown ∧ (t.bay b).intent = .stopAfter ∧ (t.bay b).spen = none ∧
             (t.bay b).loadOnArrival = (s.bay b).loadOnArrival ∧ (t.bay b).attempts = (s.bay b).attempts ∧
             (t.bay b).sticky = (s.bay b).sticky)) ∧
       (∀ b, (t.bay b).rollsLoaded =
         if t.motion.cls = .rolling ∧ s.motion.cls ≠ .rolling ∧ (s.bay b).state.inLoadedCondition = true then
           min 65535 ((s.bay b).rollsLoaded + 1)
         else (s.bay b).rollsLoaded)) ∧
      t.supply = s.supply ∧ t.transit = s.transit ∧ t.store = s.store

/-- A jolt more than 200 ms after the last with no record open opens a record and adds to one exposure counter of every
bay by its condition; another merges into the newest and adds to none (R89 to R91). That a QUEUED bay granted in the
same sample counts as SPINNING_UP is the model's choice (log 33). -/
def Obligations.JoltsOpenOrMerge : Prop :=
  ∀ (dt : Nat) (x y z : Int) (s : State), s.queuesMatch → s.store.working.valid = true →
    sampleValid true { x := x, y := y, z := z } = true → s.motion.lost = false →
    s.settings.joltThreshold ≤ s.motion.deviation { x := x, y := y, z := z } →
    ∃ t, exec (.motionSample dt true x y z) s = .next t ∧ t.motion.lastJolt = some t.now ∧
      (let d := s.motion.deviation { x := x, y := y, z := z }
       let opens := (∀ j, s.newestJolt = some j → j.isOpen = false) ∧
         (∀ p, s.motion.lastJolt = some p → 200000 < t.now - p)
       (opens →
         t.motion.opened = s.motion.opened + 1 ∧
         t.motion.jolts.length = min 8 (s.motion.jolts.length + 1) ∧
         (∃ j, t.newestJolt = some j ∧ j.time = caseClock t.now ∧ j.peak = d ∧ j.count = 1 ∧
           j.classBefore = s.motion.cls ∧
           (∀ b, inSet j.loaded b = (s.bay b).state.inLoadedCondition)) ∧
         t.caseRaised .joltOpened ∧
         (∀ b, (t.bay b).joltsLoaded =
           if (s.bay b).state.inLoadedCondition then min 65535 ((s.bay b).joltsLoaded + 1)
           else (s.bay b).joltsLoaded) ∧
         (∀ b, (s.bay b).state ≠ .queued →
           (t.bay b).joltsParked =
             (if (s.bay b).state = .spinningUp ∨ (s.bay b).state = .spun ∨ (s.bay b).state = .spinningDown then
               min 65535 ((s.bay b).joltsParked + 1)
             else (s.bay b).joltsParked) ∧
           (t.bay b).joltsStopped =
             (if (s.bay b).state = .stopped ∨ (s.bay b).state = .diag ∨ (s.bay b).state = .held ∨
                 (s.bay b).state = .fenced then min 65535 ((s.bay b).joltsStopped + 1)
             else (s.bay b).joltsStopped)) ∧
         (∀ b, (s.bay b).state = .queued →
           ((t.bay b).state = .spinningUp →
             (t.bay b).joltsParked = min 65535 ((s.bay b).joltsParked + 1) ∧
             (t.bay b).joltsStopped = (s.bay b).joltsStopped) ∧
           ((t.bay b).state ≠ .spinningUp →
             (t.bay b).joltsStopped = min 65535 ((s.bay b).joltsStopped + 1) ∧
             (t.bay b).joltsParked = (s.bay b).joltsParked)) ∧
         ((∃ b, (s.bay b).state.inLoadedCondition = true) → s.caseReported t .joltLoaded) ∧
         ((∀ b, (s.bay b).state.inLoadedCondition = false) → s.caseSetsKept t) ∧
         (∀ b, (t.bay b).state ≠ .loading ∧ (t.bay b).state ≠ .loaded)) ∧
       (¬ opens → ∀ old j, s.motion.jolts = old ++ [j] →
         t.motion.opened = s.motion.opened ∧ s.caseSetsKept t ∧
         (∃ j', t.motion.jolts = old ++ [j'] ∧ j'.peak = max j.peak d ∧ j'.count = min 255 (j.count + 1) ∧
           j'.time = j.time ∧ j'.loaded = j.loaded) ∧
         (∀ b, (t.bay b).joltsLoaded = (s.bay b).joltsLoaded ∧ (t.bay b).joltsParked = (s.bay b).joltsParked ∧
           (t.bay b).joltsStopped = (s.bay b).joltsStopped)))

/-- The sensor is lost, by the row of that name or by a sample that is itself the twentieth missing one: the flag,
ROLLING, SENSOR_LOST, and a sweep that leaves no bay LOADING or LOADED (R80); a lost sensor that returns is a recovery
(R81). That the row stands for the samples still missing is the model's choice (log 12). -/
def Obligations.SensorLossAndRecovery : Prop :=
  (∀ (dt : Nat) (s : State) (c : Instr), s.queuesMatch → s.motion.lost = false →
    (c = .sensorLost dt ∨ ∃ ready x y z, c = .motionSample dt ready x y z ∧
      sampleValid ready { x := x, y := y, z := z } = false ∧ 19 ≤ s.motion.missing) →
    ∃ t, exec c s = .next t ∧ t.motion.lost = true ∧ t.motion.cls = .rolling ∧
      20 ≤ t.motion.missing ∧ t.motion.ring = s.motion.ring ∧ s.caseReported t .sensorLost ∧
      (s.motion.cls ≠ .rolling → t.caseRaised .motionChanged ∧ t.pass = none) ∧
      (∀ b, (t.bay b).state ≠ .loading ∧ (t.bay b).state ≠ .loaded) ∧
      (∀ b, (s.bay b).state = .spun → (t.bay b).state = .spun) ∧
      (∀ b, (t.bay b).rollsLoaded =
        if s.motion.cls ≠ .rolling ∧ (s.bay b).state.inLoadedCondition = true then
          min 65535 ((s.bay b).rollsLoaded + 1)
        else (s.bay b).rollsLoaded) ∧
      t.supply = s.supply ∧ t.transit = s.transit ∧ t.store = s.store) ∧
  (∀ (dt : Nat) (s : State), s.motion.lost = true →
    ∃ t, exec (.sensorLost dt) s = .next t ∧ t.motion = s.motion ∧ t.bays = s.bays ∧ t.faults = s.faults) ∧
  (∀ (dt : Nat) (x y z : Int) (s : State), s.motion.lost = true →
    sampleValid true { x := x, y := y, z := z } = true →
    ∃ t, exec (.motionSample dt true x y z) s = .next t ∧ t.motion.lost = false ∧ t.motion.missing = 0 ∧
      t.motion.cls = .unsettled ∧ t.motion.ring = [0] ∧ t.motion.lastSamples = [{ x := x, y := y, z := z }] ∧
      t.motion.dwellStart = t.now ∧ t.motion.jolts = s.motion.jolts ∧ t.caseRaised .motionChanged ∧
      t.faults = s.faults ∧ t.pass = none)

/-! ### Supply -/

/-- A reading: the class by R115 and R116, the effective budget by R33, and the reports of the entries; a change runs a
grant evaluation, and on leaving CUT the deferred loads are tried (R114 to R118, R123). That a reading moves on to a
1 ms mark is the model's choice (log 3). -/
def Obligations.SupplyReadingSettlesTheClass : Prop :=
  ∀ (dt mv : Nat) (s : State) (due : Nat), s.supply.nextReading = some due →
    ∃ t, exec (.supplyReading dt mv) s = .next t ∧ t.now % 1000 = 0 ∧ s.now + dt ≤ t.now ∧ due ≤ t.now ∧
      (let v := min 15000 mv
       let low := s.settings.supplyLow
       let cutoff := s.settings.supplyCutoff
       let new : SupplyClass :=
         if v ≤ cutoff then .cut
         else if s.supply.lastReading = none then (if v ≤ low then .low else .normal)
         else match s.supply.cls with
           | .normal => if v ≤ low then .low else .normal
           | .low => if low + 200 ≤ v then .normal else .low
           | .cut => if low + 200 ≤ v then .normal else if cutoff + 200 ≤ v then .low else .cut
       let changes := s.supply.lastReading = none ∨ new ≠ s.supply.cls
       t.supply.lastReading = some v ∧ t.supply.cls = new ∧ t.supply.nextReading = some (t.now + 1000) ∧
       (changes →
         t.supply.budget = (match new with
           | .normal => s.settings.surgeBudget
           | .low => min s.settings.leanBudget s.settings.surgeBudget
           | .cut => 0) ∧
         t.caseRaised .supplyChanged ∧
         (new = .low → s.caseReported t .supplyLow) ∧ (new = .cut → s.caseReported t .supplyCut) ∧
         (new = .normal → s.caseSetsKept t) ∧
         t.pass = none ∧
         (s.queuesMatch → new ≠ .cut → ∀ b, (s.bay b).state ≠ .queued →
           ((s.bay b).state ≠ .spun ∨ (s.bay b).loadOnArrival = false ∨ s.supply.cls ≠ .cut) → t.bay b = s.bay b) ∧
         (s.queuesMatch → new ≠ .cut → s.supply.cls = .cut → ∀ b, (s.bay b).state = .spun →
           (s.bay b).loadOnArrival = true →
           (s.admission b = .exposed →
             t.bay b = { s.bay b with loadOnArrival := false } ∧ t.bayRaised b .loadRefused) ∧
           (s.admission b ≠ .exposed → s.transit.mode = .normal → s.motion.cls = .still →
             (t.bay b).state = .loading ∧ (t.bay b).hld = true ∧ (t.bay b).loadOnArrival = false ∧
               (t.bay b).timers.load = some (t.now + (s.governing b).loadTimeout * 1000)) ∧
           (s.admission b ≠ .exposed → s.transit.mode = .transitSafe ∨ s.motion.cls ≠ .still →
             t.bay b = s.bay b))) ∧
       (¬ changes →
         t.supply.budget = s.supply.budget ∧ t.bays = s.bays ∧ t.arbiter = s.arbiter ∧
         t.scheduler = s.scheduler ∧ t.motion = s.motion ∧ t.faults = s.faults ∧ s.nothingRaised t)) ∧
      t.transit = s.transit ∧ t.store = s.store

/-- The cut actions of an entry into CUT: spin-ups are aborted to respin, the test goes back to the queue, every loaded
bay is swept, and the other bays keep their states (R119 to R122). -/
def Obligations.CutActions : Prop :=
  ∀ (dt mv : Nat) (s : State) (due : Nat), s.queuesMatch → s.store.working.valid = true →
    s.supply.nextReading = some due → mv ≤ s.settings.supplyCutoff →
    (s.supply.lastReading = none ∨ s.supply.cls ≠ .cut) →
    ∃ t, exec (.supplyReading dt mv) s = .next t ∧
      (∀ b, (s.bay b).state = .spinningUp →
        (t.bay b).state = .spinningDown ∧ (t.bay b).intent = .respin ∧ (t.bay b).spen = none ∧
        (t.bay b).attempts = (s.bay b).attempts ∧ (t.bay b).loadOnArrival = (s.bay b).loadOnArrival ∧
        (t.bay b).sticky = (s.bay b).sticky) ∧
      (∀ b, (s.bay b).state = .diag →
        (t.bay b).state = .queued ∧ t.entryKind b = some .test ∧ (t.bay b).winding = .aborted ∧
        (t.bay b).windingCurrent = none ∧
        t.noticed (.bay b) (fun n => n.events &&& BayEvent.testDone.bit = BayEvent.testDone.bit ∧
          n.testDone = .aborted)) ∧
      (∀ b, (t.bay b).state ≠ .loading ∧ (t.bay b).state ≠ .loaded) ∧
      (∀ b, (s.bay b).state = .vacant ∨ (s.bay b).state = .stopped ∨ (s.bay b).state = .queued ∨
          (s.bay b).state = .spun ∨ (s.bay b).state = .spinningDown ∨ (s.bay b).state = .held ∨
          (s.bay b).state = .fenced → t.bay b = s.bay b)

/-! ### Transit safety -/

/-- The quiet timer ends: QUIET is reported and the case is made safe (R126, R130). That it ends no earlier than its
due time is the model's choice (log 2). -/
def Obligations.QuietTimerMakesTheCaseSafe : Prop :=
  ∀ (dt : Nat) (s : State) (due : Nat), s.queuesMatch → s.transit.mode = .normal →
    s.transit.quietDue = some due →
    ∃ t, exec (.quietTimerExpiry dt) s = .next t ∧ t.now = max (s.now + dt) due ∧ s.madeSafe t ∧
      s.caseReported t .quiet ∧
      (CaseFault.quiet.maskedBy s.store.working.masks = false → t.faults.attn = true ∧
        t.noticed .theCase (fun n => n.faults &&& CaseFault.quiet.bit = CaseFault.quiet.bit))

/-- FORCE SAFE: a NORMAL case is made safe before the reply is built, a safe case is left as it is, and the CHECK flag
refuses with PENDING (R128, R130, R131). LEAVE SAFE: the return to NORMAL starts the quiet timer and raises SAFE_LEFT,
and restores nothing (R132). -/
def Obligations.ForceAndLeaveSafe : Prop :=
  (∀ (dt : Nat) (r : Req) (s : State), s.hands .forceSafe r →
      (s.checkRefuses r → ∃ t, exec (.forceSafe dt r) s = .next t ∧ t.replied .forceSafe r .pending [] ∧
        s.onlyAnswered t dt) ∧
      (¬ s.checkRefuses r → s.queuesMatch → s.transit.mode = .normal →
        ∃ t, exec (.forceSafe dt r) s = .next t ∧ t.replied .forceSafe r .done [] ∧ s.madeSafe t ∧
          t.faults = s.faults ∧ t.now = s.now + dt ∧
          ∃ rep, t.link.slot = some rep ∧ rep.summary.getLsbD 0 = true) ∧
      (¬ s.checkRefuses r → s.transit.mode = .transitSafe →
        ∃ t, exec (.forceSafe dt r) s = .next t ∧ t.replied .forceSafe r .done [] ∧ s.onlyAnswered t dt)) ∧
  (∀ (dt : Nat) (r : Req) (s : State), s.hands .leaveSafe r →
      (s.checkRefuses r → ∃ t, exec (.leaveSafe dt r) s = .next t ∧ t.replied .leaveSafe r .pending [] ∧
        s.onlyAnswered t dt) ∧
      (¬ s.checkRefuses r → s.transit.mode = .transitSafe →
        ∃ t, exec (.leaveSafe dt r) s = .next t ∧ t.replied .leaveSafe r .done [] ∧
          t.transit = { mode := .normal,
                        quietDue := (quietMicros s.settings.quietCode).map (fun l => s.now + dt + l) } ∧
          t.caseRaised .safeLeft ∧ s.driveKept t ∧ t.faults = s.faults ∧ t.store = s.store ∧ t.now = s.now + dt) ∧
      (¬ s.checkRefuses r → s.transit.mode = .normal →
        ∃ t, exec (.leaveSafe dt r) s = .next t ∧ t.replied .leaveSafe r .done [] ∧ s.onlyAnswered t dt))

/-! ### The link -/

/-- A byte with a good stop bit, while no byte gap has passed (R175, R176): hunting, LENGTH, the bytes of the frame,
and the frame's completion, which is the command of its KIND, of an unknown KIND or of a failed CRC. A discarded frame:
a bad stop bit, a LENGTH out of range, a byte gap and a failed CRC return the receiver to hunting, without a reply and
without a restart of the quiet timer. A byte that comes after the gap finds the receiver hunting (the model's choice,
log 2). -/
def Obligations.ReceiverTakesBytes : Prop :=
  (∀ (dt : Nat) (b : Byte) (s : State), (∀ due, s.link.gapDue = some due → s.now + dt < due) →
      (s.link.rx = .hunting →
        ∃ t, exec (.rxdByte dt b) s = .next t ∧ s.driveKept t ∧ t.transit = s.transit ∧ t.faults = s.faults ∧
          t.store = s.store ∧ t.link.slot = s.link.slot ∧
          (b ≠ 0xC3 → t.link.rx = .hunting) ∧
          (b = 0xC3 → t.link.rx = .inside [] ∧ t.link.gapDue = some (s.now + dt + 10001))) ∧
      (s.link.rx = .inside [] →
        ∃ t, exec (.rxdByte dt b) s = .next t ∧ s.driveKept t ∧ t.transit = s.transit ∧ t.faults = s.faults ∧
          t.store = s.store ∧ t.link.slot = s.link.slot ∧
          (3 ≤ b.toNat → b.toNat ≤ 243 →
            t.link.rx = .inside [b] ∧ t.link.gapDue = some (s.now + dt + 10001)) ∧
          (b.toNat < 3 ∨ 243 < b.toNat → t.link.rx = .hunting)) ∧
      (∀ (len : Byte) (got : List Byte), s.link.rx = .inside (len :: got) →
        (got.length + 1 < len.toNat + 2 →
          ∃ t, exec (.rxdByte dt b) s = .next t ∧ s.driveKept t ∧ t.transit = s.transit ∧ t.faults = s.faults ∧
            t.store = s.store ∧ t.link.slot = s.link.slot ∧
            t.link.rx = .inside (len :: got ++ [b]) ∧ t.link.gapDue = some (s.now + dt + 10001)) ∧
        (∀ (kind flags tag : Byte) (body crc : List Byte), got ++ [b] = kind :: flags :: tag :: body ++ crc →
          body.length + 3 = len.toNat → crc.length = 2 →
          (crc = le16 (crc16 (len :: kind :: flags :: tag :: body)) →
            (∀ k : ReqKind, k.code = kind → exec (.rxdByte dt b) s =
              exec (commandOf k dt { flags := flags, tag := tag, body := body }) s) ∧
            ((∀ k : ReqKind, k.code ≠ kind) → exec (.rxdByte dt b) s =
              exec (.unknownKind dt kind { flags := flags, tag := tag, body := body }) s)) ∧
          (crc ≠ le16 (crc16 (len :: kind :: flags :: tag :: body)) →
            exec (.rxdByte dt b) s = exec (.crcMismatch dt) s)))) ∧
  (∀ (dt : Nat) (b : Byte) (s : State) (c : Instr),
      (c = .frameDiscard dt (.badStop b) ∨ c = .crcMismatch dt ∨
        c = .frameDiscard dt (.badLength b) ∧ s.link.rx = .inside [] ∧ (b.toNat < 3 ∨ 243 < b.toNat) ∧ b ≠ 0xC3 ∨
        c = .byteGapTimeout dt ∧ s.link.gapDue.isSome = true ∨
        c = .rxdByte dt b ∧ b ≠ 0xC3 ∧ (∃ due, s.link.gapDue = some due ∧ due ≤ s.now + dt)) →
      ∃ t, exec c s = .next t ∧ t.link.rx = .hunting ∧ s.driveKept t ∧ t.transit = s.transit ∧
        t.faults = s.faults ∧ t.store = s.store ∧ t.link.slot = s.link.slot ∧ t.link.cursor = s.link.cursor ∧
        t.link.pin = s.link.pin ∧ s.nothingRaised t)

/-- A frame that passes its check and is not handed to a handler: discarded while the slot is occupied, BUSY during the
start-up load, UNKNOWN for no kind, ARGUMENT for a wrong length; the quiet timer restarts in every row (R169, R176,
R177). -/
def Obligations.FramesTurnedAway : Prop :=
  ∀ (dt : Nat) (r : Req) (s : State),
    (∀ k : ReqKind,
      (s.link.slot ≠ none →
        ∃ t, exec (commandOf k dt r) s = .next t ∧ t.link.slot = s.link.slot ∧ s.onlyAnswered t dt) ∧
      (s.link.slot = none → s.store.loading = true → k ≠ .status →
        ∃ t, exec (commandOf k dt r) s = .next t ∧ t.replied k r .busy [] ∧ s.onlyAnswered t dt) ∧
      (s.link.slot = none → (s.store.loading = false ∨ k = .status) → r.body.length ≠ k.bodyLen →
        ∃ t, exec (commandOf k dt r) s = .next t ∧ t.replied k r .argument [] ∧ s.onlyAnswered t dt)) ∧
    (∀ kind : Byte, (∀ k : ReqKind, k.code ≠ kind) →
      ∃ t, exec (.unknownKind dt kind r) s = .next t ∧ s.onlyAnswered t dt ∧
        (s.link.slot ≠ none → t.link.slot = s.link.slot) ∧
        (s.link.slot = none → ∃ rep, t.link.slot = some rep ∧ rep.kind = 0xFF ∧ rep.tag = r.tag ∧ rep.body = [] ∧
          rep.status = if s.store.loading = true then .busy else .unknown))

/-- The last byte of a frame leaves: the slot is free if it held the frame, and the next reply or the oldest notice
starts (R177, R181, R182). After every command, an idle line means no reply and no notice waits (R181). -/
def Obligations.TheLineSendsWhatWaits : Prop :=
  (∀ (dt : Nat) (s : State) (f : TxFrame), s.link.tx = some f →
      ∃ t, exec (.txFrameEnd dt) s = .next t ∧ t.now = max (s.now + dt) f.due ∧ s.driveKept t ∧
        t.transit = s.transit ∧ t.faults = s.faults ∧ t.store = s.store ∧ t.link.rx = s.link.rx ∧
        (let slot := if f.isReply then none else s.link.slot
         t.link.slot = slot ∧
         (∀ rep, slot = some rep →
           t.link.tx = some { bytes := rep.frame, isReply := true, due := t.now + lineTime rep.frame.length } ∧
           t.link.notices = s.link.notices) ∧
         (slot = none → s.link.notices = [] → t.link.tx = none) ∧
         (∀ n rest, slot = none → s.link.notices = n :: rest →
           t.link.notices = rest ∧
           t.link.tx = some {
             bytes := n.frame (s.sourceState (!rest.isEmpty) n.source), isReply := false,
             due := t.now + lineTime 13 }))) ∧
  (∀ (c : Instr) (s t : State), exec c s = .next t → t.link.tx = none → t.link.slot = none ∧ t.link.notices = [])

/-- STATUS returns the status image and changes nothing (R184). Its SUMMARY carries the six items of R179. -/
def Obligations.StatusReportsTheCase : Prop :=
  ∀ (dt : Nat) (r : Req) (s : State), s.hands .status r →
    ∃ t, exec (.status dt r) s = .next t ∧ s.onlyAnswered t dt ∧
      t.replied .status r .done
        ([flagBit 1 s.motion.lost ||| flagBit 2 s.supply.lastReading.isSome ||| flagBit 3 s.store.commit.isSome]
          ++ le16 (BitVec.ofNat 16 (s.supply.lastReading.getD 0))
          ++ [BitVec.ofNat 8 s.supply.budget, BitVec.ofNat 8 s.arbiter.held, BitVec.ofNat 8 s.arbiter.grants,
              BitVec.ofNat 8 s.arbiter.queue.length,
              BitVec.ofNat 8 (s.scheduler.emergency.length + s.scheduler.ordinary.length),
              BitVec.ofNat 8 s.scheduler.unloading, s.faults.casePending]
          ++ le16 (baySetOf (fun b => (s.bay b).pending != 0))
          ++ allBays.map (fun b => (s.bay b).state.code)) ∧
      ∃ rep, t.link.slot = some rep ∧
        rep.summary.getLsbD 0 = (s.transit.mode == .transitSafe) ∧
        rep.summary.getLsbD 1 = (s.motion.cls == .still) ∧ rep.summary.getLsbD 2 = (s.motion.cls == .rolling) ∧
        rep.summary.getLsbD 3 = (s.supply.cls == .low) ∧ rep.summary.getLsbD 4 = (s.supply.cls == .cut) ∧
        rep.summary.getLsbD 5 = s.faults.attn ∧ rep.summary.getLsbD 6 = !s.link.notices.isEmpty ∧
        rep.summary.getLsbD 7 = s.store.loading

/-- VIEW BAY by the rows of R185, and the pin of R186; the 46 bytes of the bay record and the 18 of a profile (R191).
That the flags byte carries the last spindle condition outside HELD too is the model's choice (log 35). -/
def Obligations.ViewBayWalksTheRecords : Prop :=
  (∀ (dt : Nat) (r : Req) (s : State) (n : Byte), s.hands .viewBay r → r.body = [n] →
    ∃ t, exec (.viewBay dt r) s = .next t ∧ t.now = s.now + dt ∧ s.driveKept t ∧
      t.transit = s.transitAfterFrame (s.now + dt) ∧ t.faults = s.faults ∧ t.store = s.store ∧
      t.link.pin = s.link.pin ∧ s.nothingRaised t ∧
      (16 ≤ n.toNat → n.toNat ≤ 254 → t.replied .viewBay r .argument [] ∧ t.link.cursor = s.link.cursor) ∧
      (∀ b : BayNo, n.toNat = b.val → s.link.pin = none →
        t.replied .viewBay r .done (s.bayImage b) ∧ t.link.cursor.val = b.val + 1) ∧
      (n.toNat < 16 → s.link.pin ≠ none → t.replied .viewBay r .state [] ∧ t.link.cursor = s.link.cursor) ∧
      (n = 0xFF → s.link.cursor.val = 16 → t.replied .viewBay r .done [] ∧ t.link.cursor = s.link.cursor) ∧
      (∀ b : BayNo, n = 0xFF → s.link.cursor.val = b.val →
        t.replied .viewBay r .done (s.bayImage b) ∧ t.link.cursor.val = b.val + 1)) ∧
  (∀ (s : State) (b : BayNo),
      (s.bayImage b).length = 46 ∧
      s.bayImage b =
        [BitVec.ofNat 8 b.val, (s.bay b).state.code] ++ le32 (s.bay b).entryTime
          ++ [flagBit 0 (s.bay b).presence ||| flagBit 1 (s.bay b).spindleOn ||| flagBit 2 (s.bay b).loadOnArrival
                ||| flagBit 3 (s.bay b).latched.isSome ||| flagBit 4 (s.bay b).lastSpinUp.isSome
                ||| flagBit 5 (s.bay b).speed.isSome ||| flagBit 6 (s.entryOf b).isSome
                ||| flagBit 7 (s.bay b).windingCurrent.isSome,
              BitVec.ofNat 8 s.store.working.selections[b].val, BitVec.ofNat 8 (s.bay b).attempts,
              (s.bay b).intent.code,
              (match s.entryOf b with
                | some e =>
                  flagBit 0 (e.kind == .test) ||| flagBit 1 (e.kind == .spin && (s.bay b).loadOnArrival)
                    ||| (BitVec.ofNat 8 e.skip <<< 2)
                | none => 0),
              (s.bay b).sticky, (s.bay b).pending, (s.bay b).winding.code]
          ++ le16 (BitVec.ofNat 16 ((s.bay b).windingCurrent.getD 0))
          ++ le16 (BitVec.ofNat 16 ((s.bay b).lastSpinUp.getD 0)) ++ le16 (BitVec.ofNat 16 ((s.bay b).speed.getD 0))
          ++ le16 (BitVec.ofNat 16 (s.bay b).joltsLoaded) ++ le16 (BitVec.ofNat 16 (s.bay b).joltsParked)
          ++ le16 (BitVec.ofNat 16 (s.bay b).joltsStopped) ++ le16 (BitVec.ofNat 16 (s.bay b).rollsLoaded)
          ++ (match (s.bay b).latched with
            | some p => p.image
            | none => List.replicate 18 0)) ∧
  (∀ p : Profile, p.image =
      [BitVec.ofNat 8 p.surgeCost, BitVec.ofNat 8 p.pulsesPerRev] ++ le16 (BitVec.ofNat 16 p.speedLow)
        ++ le16 (BitVec.ofNat 16 p.speedHigh) ++ le16 (BitVec.ofNat 16 p.tachFirst)
        ++ [BitVec.ofNat 8 p.holdTime, BitVec.ofNat 8 p.retryLimit, BitVec.ofNat 8 p.rank]
        ++ le16 (BitVec.ofNat 16 p.loadTimeout) ++ le16 (BitVec.ofNat 16 p.loadSettle)
        ++ le16 (BitVec.ofNat 16 p.unloadDeadline) ++ [BitVec.ofNat 8 p.stopTimeout])

/-- VIEW PIN and VIEW UNPIN (R186). -/
def Obligations.PinHoldsTheCursor : Prop :=
  (∀ (dt : Nat) (r : Req) (s : State), s.hands .viewPin r →
    (∃ t, exec (.viewPin dt r) s = .next t ∧
      t.replied .viewPin r .done [BitVec.ofNat 8 s.link.cursor.val] ∧ t.link.cursor = s.link.cursor ∧
      t.link.pin = (match s.link.pin with
        | some saved => some saved
        | none => some s.link.cursor) ∧
      s.driveKept t ∧ t.faults = s.faults ∧ t.store = s.store ∧
      t.transit = s.transitAfterFrame (s.now + dt))) ∧
  (∀ (dt : Nat) (r : Req) (s : State), s.hands .viewUnpin r →
    (∃ t, exec (.viewUnpin dt r) s = .next t ∧ t.link.pin = none ∧
      t.link.cursor = (match s.link.pin with
        | some saved => saved
        | none => s.link.cursor) ∧
      t.replied .viewUnpin r .done [BitVec.ofNat 8 t.link.cursor.val] ∧
      s.driveKept t ∧ t.faults = s.faults ∧ t.store = s.store ∧
      t.transit = s.transitAfterFrame (s.now + dt))) ∧
  (∀ (dt : Nat) (r : Req) (s : State), s.link.slot = none → s.store.loading = false → r.body ≠ [] →
    (∃ t, exec (.viewPin dt r) s = .next t ∧ t.replied .viewPin r .argument [] ∧ s.onlyAnswered t dt) ∧
    (∃ t, exec (.viewUnpin dt r) s = .next t ∧ t.replied .viewUnpin r .argument [] ∧ s.onlyAnswered t dt)) ∧
  (∀ (dt : Nat) (r : Req) (s : State) (b : BayNo), s.hands .viewBay r → s.link.pin ≠ none →
    (r.body = [BitVec.ofNat 8 b.val] →
      ∃ t, exec (.viewBay dt r) s = .next t ∧ t.replied .viewBay r .state [] ∧ s.onlyAnswered t dt) ∧
    (r.body = [0xFF] → s.link.cursor.val = b.val →
      ∃ t, exec (.viewBay dt r) s = .next t ∧ t.replied .viewBay r .done (s.bayImage b) ∧
        t.link.cursor.val = b.val + 1 ∧ t.link.pin = s.link.pin)) ∧
  (∀ (dt : Nat) (s : State),
    (∃ t, exec .powerOn s = .next t ∧ t.link.pin = none ∧ t.link.cursor = 0) ∧
    (∃ t, exec (.resetN dt) s = .next t ∧ t.link.pin = none ∧ t.link.cursor = 0)) ∧
  (∀ (dt : Nat) (r : Req) (s : State), s.handsUnchecked .restart r → s.store.commit = none →
    (∀ b, (s.bay b).refusesRestart = false) →
    ∃ t, exec (.restart dt r) s = .next t ∧ t.link.pin = none ∧ t.link.cursor = 0)

/-- READ JOLTS returns the count of records opened, the number on the list, and the records from the index on (R98). -/
def Obligations.ReadJoltsReturnsTheList : Prop :=
  ∀ (dt : Nat) (r : Req) (s : State) (i : Byte), s.hands .readJolts r → r.body = [i] →
    ∃ t, exec (.readJolts dt r) s = .next t ∧ s.onlyAnswered t dt ∧
      (7 < i.toNat → t.replied .readJolts r .argument []) ∧
      (i.toNat ≤ 7 → s.checkRefuses r → t.replied .readJolts r .pending []) ∧
      (i.toNat ≤ 7 → ¬ s.checkRefuses r → t.replied .readJolts r .done
        (le16 s.motion.opened ++ [BitVec.ofNat 8 s.motion.jolts.length]
          ++ (s.motion.jolts.drop i.toNat).flatMap (fun (j : JoltRec) =>
            [(flagBit 0 j.isOpen ||| (j.classBefore.code <<< 1) : Byte)] ++ le32 j.time ++ le16 (BitVec.ofNat 16 j.peak)
              ++ [BitVec.ofNat 8 j.count] ++ le16 j.loaded ++ le16 j.parked ++ le16 j.late ++ le16 j.pulled
              ++ le16 (BitVec.ofNat 16 (j.duration.getD 0)))))

/-! ### Requests of bays -/

/-- SPIN UP (R29, R52 to R54): the outcome and the effect at each bay of the set, in any state; after a
join an evaluation has run (R34). -/
def Obligations.SpinUpOutcomes : Prop :=
  ∀ (dt : Nat) (r : Req) (s : State) (lo hi choice : Byte) (set : BaySet), s.hands .spinUp r →
    r.body = [lo, hi, choice] → set = hi ++ lo →
    ((1 < choice.toNat ∨ set = 0) →
      ∃ t, exec (.spinUp dt r) s = .next t ∧ t.replied .spinUp r .argument [] ∧ s.onlyAnswered t dt) ∧
    (choice.toNat ≤ 1 → set ≠ 0 → s.checkRefuses r →
      ∃ t, exec (.spinUp dt r) s = .next t ∧ t.replied .spinUp r .pending [] ∧ s.onlyAnswered t dt) ∧
    (choice.toNat ≤ 1 → set ≠ 0 → ¬ s.checkRefuses r → s.queuesMatch →
      ∃ t f, exec (.spinUp dt r) s = .next t ∧ t.listed .spinUp r set f ∧
        (∀ b, set.getLsbD b.val = true → ¬ s.takes r set b →
          f b = .pending ∧ ((s.bay b).state ≠ .queued → t.bay b = s.bay b) ∧
            (t.bay b).loadOnArrival = (s.bay b).loadOnArrival) ∧
        (∀ b, s.takes r set b → s.transit.mode = .transitSafe → f b = .safeMode ∧ t.bay b = s.bay b) ∧
        (∀ b, s.takes r set b → s.transit.mode = .normal →
          match (s.bay b).state with
          | .stopped =>
            f b = .accepted ∧ ((t.bay b).state = .queued ∧ t.entryKind b = some .spin ∨
              (t.bay b).state = .spinningUp) ∧
            (t.bay b).loadOnArrival = ((s.bay b).loadOnArrival || choice == 1)
          | .queued =>
            (s.entryKind b = some .spin → f b = .accepted ∧
              (t.bay b).loadOnArrival = ((s.bay b).loadOnArrival || choice == 1)) ∧
            (s.entryKind b = some .test → f b = .state ∧ (t.bay b).loadOnArrival = (s.bay b).loadOnArrival)
          | .spinningUp =>
            f b = .accepted ∧
            t.bay b = { s.bay b with loadOnArrival := (s.bay b).loadOnArrival || choice == 1 }
          | .spun =>
            (choice = 0 → f b = .done ∧ t.bay b = s.bay b) ∧
            (choice = 1 → f b = s.admission b ∧
              (s.admission b = .accepted → (t.bay b).state = .loading ∧ (t.bay b).hld = true ∧
                (t.bay b).loadOnArrival = false) ∧
              (s.admission b = .exposed → t.bay b = { s.bay b with loadOnArrival := false }) ∧
              (s.admission b = .motion ∨ s.admission b = .supply → t.bay b = s.bay b))
          | .loading | .loaded => f b = .done ∧ t.bay b = s.bay b
          | .vacant | .parkQueued | .unloading | .spinningDown | .diag | .held | .fenced =>
            f b = .state ∧ t.bay b = s.bay b) ∧
        (∀ b, s.takes r set b → s.transit.mode = .normal → (s.bay b).state = .stopped → t.pass = none) ∧
        (∀ b, set.getLsbD b.val = false → (s.bay b).state ≠ .queued → t.bay b = s.bay b) ∧
        t.scheduler = s.scheduler ∧ t.motion = s.motion ∧ t.supply = s.supply ∧ t.faults = s.faults ∧
        t.store = s.store ∧ t.transit = s.transitAfterFrame (s.now + dt) ∧ t.now = s.now + dt)

/-- SPIN DOWN (R51, R55, R56): the outcome and the effect at each bay of the set. A QUEUED bay that a bay before it
lets be granted is found in SPINNING_UP or DIAG at its turn (R39), and after the drop of an entry or the release of a
grant an evaluation has run (R34); the place of a PARK_QUEUED bay can move on to UNLOADING. -/
def Obligations.SpinDownOutcomes : Prop :=
  ∀ (dt : Nat) (r : Req) (s : State) (lo hi : Byte) (set : BaySet), s.hands .spinDown r → r.body = [lo, hi] →
    set = hi ++ lo →
    (set = 0 → ∃ t, exec (.spinDown dt r) s = .next t ∧ t.replied .spinDown r .argument [] ∧
      s.onlyAnswered t dt) ∧
    (set ≠ 0 → s.checkRefuses r →
      ∃ t, exec (.spinDown dt r) s = .next t ∧ t.replied .spinDown r .pending [] ∧ s.onlyAnswered t dt) ∧
    (set ≠ 0 → ¬ s.checkRefuses r → s.queuesMatch →
      ∃ t f, exec (.spinDown dt r) s = .next t ∧ t.listed .spinDown r set f ∧
        (∀ b, set.getLsbD b.val = true → ¬ s.takes r set b →
          f b = .pending ∧
            ((s.bay b).state ≠ .queued → (s.bay b).state ≠ .parkQueued → t.bay b = s.bay b) ∧
            ((s.bay b).state = .queued → (t.bay b).loadOnArrival = (s.bay b).loadOnArrival) ∧
            ((s.bay b).state = .parkQueued → s.settings.unloadWidth ≤ s.scheduler.unloading →
              t.bay b = s.bay b)) ∧
        (∀ b, s.takes r set b →
          match (s.bay b).state with
          | .queued =>
            ((∀ x : BayNo, x < b → set.getLsbD x.val = false) →
              f b = .done ∧ (t.bay b).state = .stopped ∧ (t.bay b).loadOnArrival = false ∧ t.entryOf b = none) ∧
            (s.entryKind b = some .spin →
              (t.bay b).loadOnArrival = false ∧ t.entryOf b = none ∧
              (f b = .done ∧ (t.bay b).state = .stopped ∨
                f b = .accepted ∧ (t.bay b).state = .spinningDown ∧ (t.bay b).intent = .stopAfter ∧
                  (t.bay b).spen = none ∧ (t.bay b).attempts = (s.bay b).attempts)) ∧
            (s.entryKind b = some .test →
              t.entryOf b = none ∧
              (f b = .done ∧ (t.bay b).state = .stopped ∧ (t.bay b).loadOnArrival = false ∨
                f b = .state ∧ (t.bay b).state = .diag))
          | .spinningUp =>
            f b = .accepted ∧ (t.bay b).state = .spinningDown ∧ (t.bay b).intent = .stopAfter ∧
            (t.bay b).spen = none ∧ (t.bay b).loadOnArrival = false ∧ (t.bay b).attempts = (s.bay b).attempts
          | .spun =>
            f b = .accepted ∧ (t.bay b).state = .spinningDown ∧ (t.bay b).intent = .stopAfter ∧
            (t.bay b).spen = none ∧ (t.bay b).loadOnArrival = false
          | .loading | .loaded =>
            f b = .accepted ∧ (t.bay b).intent = .stopAfter ∧ (t.bay b).loadOnArrival = false ∧
            ((t.bay b).state = .parkQueued ∨ (t.bay b).state = .unloading ∨ (t.bay b).state = .spinningDown)
          | .parkQueued =>
            ((∀ x : BayNo, x < b → set.getLsbD x.val = false) → f b = .accepted ∧ (t.bay b).loadOnArrival = false) ∧
            ((s.bay b).prk = false →
              f b = .accepted ∧ (t.bay b).loadOnArrival = false ∧
              (t.bay b).intent = (if (s.bay b).intent = .holdAfter then .holdAfter else .stopAfter) ∧
              ((t.bay b).state = .parkQueued ∨ (t.bay b).state = .unloading)) ∧
            (s.settings.unloadWidth ≤ s.scheduler.unloading →
              f b = .accepted ∧ t.bay b = { s.bay b with
                loadOnArrival := false,
                intent := if (s.bay b).intent = .holdAfter then .holdAfter else .stopAfter })
          | .unloading =>
            f b = .accepted ∧ t.bay b = { s.bay b with
              loadOnArrival := false,
              intent := if (s.bay b).intent = .holdAfter then .holdAfter else .stopAfter }
          | .stopped => f b = .done ∧ t.bay b = { s.bay b with loadOnArrival := false }
          | .spinningDown =>
            f b = .done ∧ t.bay b = { s.bay b with
              loadOnArrival := false,
              intent := if (s.bay b).intent = .respin then .stopAfter else (s.bay b).intent }
          | .diag | .held | .fenced | .vacant => f b = .state ∧ t.bay b = s.bay b) ∧
        (∀ b, s.takes r set b → (s.bay b).state = .queued ∨ (s.bay b).state = .spinningUp → t.pass = none) ∧
        (∀ b, set.getLsbD b.val = false → (s.bay b).state ≠ .queued → (s.bay b).state ≠ .parkQueued →
          t.bay b = s.bay b) ∧
        t.supply = s.supply ∧ t.faults = s.faults ∧ t.store = s.store ∧
        t.transit = s.transitAfterFrame (s.now + dt) ∧ t.now = s.now + dt)

/-- LOAD (R57, R58, R75, R76): the outcome and the effect at each bay of the set; no other bay changes. -/
def Obligations.LoadOutcomes : Prop :=
  ∀ (dt : Nat) (r : Req) (s : State) (lo hi : Byte) (set : BaySet), s.hands .load r → r.body = [lo, hi] →
    set = hi ++ lo →
    (set = 0 → ∃ t, exec (.load dt r) s = .next t ∧ t.replied .load r .argument [] ∧ s.onlyAnswered t dt) ∧
    (set ≠ 0 → s.checkRefuses r →
      ∃ t, exec (.load dt r) s = .next t ∧ t.replied .load r .pending [] ∧ s.onlyAnswered t dt) ∧
    (set ≠ 0 → ¬ s.checkRefuses r →
      ∃ t f, exec (.load dt r) s = .next t ∧ t.listed .load r set f ∧
        (∀ b, set.getLsbD b.val = true → ¬ s.takes r set b → f b = .pending ∧ t.bay b = s.bay b) ∧
        (∀ b, s.takes r set b → s.transit.mode = .transitSafe → f b = .safeMode ∧ t.bay b = s.bay b) ∧
        (∀ b, s.takes r set b → s.transit.mode = .normal →
          match (s.bay b).state with
          | .spun =>
            f b = s.admission b ∧
            (s.admission b = .accepted → t.bay b = { s.bay b with
              state := .loading, entryTime := caseClock (s.now + dt), loadOnArrival := false, hld := true,
              spen := some ((s.governing b).surgeCost * 250),
              timers := { Timers.stopped with
                gap := (s.bay b).timers.gap,
                load := some (s.now + dt + (s.governing b).loadTimeout * 1000),
                settle := if (s.bay b).prk then none
                  else some (s.now + dt + (s.governing b).loadSettle * 1000) } }) ∧
            (s.admission b = .exposed → t.bay b = { s.bay b with loadOnArrival := false }) ∧
            (s.admission b = .motion ∨ s.admission b = .supply → t.bay b = s.bay b)
          | .queued =>
            (s.entryKind b = some .spin → f b = .accepted ∧ t.bay b = { s.bay b with loadOnArrival := true }) ∧
            (s.entryKind b ≠ some .spin → f b = .state ∧ t.bay b = s.bay b)
          | .spinningUp => f b = .accepted ∧ t.bay b = { s.bay b with loadOnArrival := true }
          | .loading | .loaded => f b = .done ∧ t.bay b = s.bay b
          | .vacant | .stopped | .parkQueued | .unloading | .spinningDown | .diag | .held | .fenced =>
            f b = .state ∧ t.bay b = s.bay b) ∧
        (∀ b, set.getLsbD b.val = false → t.bay b = s.bay b) ∧
        t.arbiter = s.arbiter ∧ t.scheduler = s.scheduler ∧ t.motion = s.motion ∧ t.supply = s.supply ∧
        t.faults = s.faults ∧ t.store = s.store ∧ t.transit = s.transitAfterFrame (s.now + dt) ∧
        t.now = s.now + dt)

/-- UNLOAD (R66, R77): the outcome and the effect at each bay of the set. The place of a PARK_QUEUED bay can move on to
UNLOADING at the joins of other bays. -/
def Obligations.UnloadOutcomes : Prop :=
  ∀ (dt : Nat) (r : Req) (s : State) (lo hi choice : Byte) (set : BaySet), s.hands .unload r →
    r.body = [lo, hi, choice] → set = hi ++ lo →
    ((1 < choice.toNat ∨ set = 0) →
      ∃ t, exec (.unload dt r) s = .next t ∧ t.replied .unload r .argument [] ∧ s.onlyAnswered t dt) ∧
    (choice.toNat ≤ 1 → set ≠ 0 → s.checkRefuses r →
      ∃ t, exec (.unload dt r) s = .next t ∧ t.replied .unload r .pending [] ∧ s.onlyAnswered t dt) ∧
    (choice.toNat ≤ 1 → set ≠ 0 → ¬ s.checkRefuses r → s.queuesMatch →
      ∃ t f, exec (.unload dt r) s = .next t ∧ t.listed .unload r set f ∧
        (∀ b, set.getLsbD b.val = true → ¬ s.takes r set b →
          f b = .pending ∧ ((s.bay b).state ≠ .parkQueued → t.bay b = s.bay b) ∧
            ((s.bay b).state = .parkQueued → s.settings.unloadWidth ≤ s.scheduler.unloading →
              t.bay b = s.bay b)) ∧
        (∀ b, s.takes r set b →
          match (s.bay b).state with
          | .loading | .loaded =>
            f b = .accepted ∧ (t.bay b).loadOnArrival = false ∧
            ((t.bay b).state = .parkQueued ∨ (t.bay b).state = .unloading →
              (t.bay b).intent = if choice = 1 then .stopAfter else .none) ∧
            ((s.bay b).prk = false → (t.bay b).state = .parkQueued ∨ (t.bay b).state = .unloading)
          | .parkQueued =>
            ((∀ x : BayNo, x < b → set.getLsbD x.val = false) → f b = .accepted ∧ (t.bay b).loadOnArrival = false) ∧
            ((s.bay b).prk = false →
              f b = .accepted ∧ (t.bay b).loadOnArrival = false ∧
              (t.bay b).intent =
                (if choice = 1 ∧ (s.bay b).intent ≠ .holdAfter then .stopAfter else (s.bay b).intent) ∧
              ((t.bay b).state = .parkQueued ∨ (t.bay b).state = .unloading)) ∧
            (s.settings.unloadWidth ≤ s.scheduler.unloading →
              f b = .accepted ∧ t.bay b = { s.bay b with
                loadOnArrival := false,
                intent := if choice = 1 ∧ (s.bay b).intent ≠ .holdAfter then .stopAfter else (s.bay b).intent })
          | .unloading =>
            f b = .accepted ∧ t.bay b = { s.bay b with
              loadOnArrival := false,
              intent := if choice = 1 ∧ (s.bay b).intent ≠ .holdAfter then .stopAfter else (s.bay b).intent }
          | .spun =>
            (choice = 0 → f b = .done ∧ t.bay b = { s.bay b with loadOnArrival := false }) ∧
            (choice = 1 → f b = .accepted ∧ (t.bay b).state = .spinningDown ∧ (t.bay b).intent = .stopAfter ∧
              (t.bay b).spen = none ∧ (t.bay b).loadOnArrival = false)
          | .vacant | .stopped | .queued | .spinningUp | .spinningDown | .diag | .held | .fenced =>
            f b = .state ∧ t.bay b = s.bay b) ∧
        (∀ b, set.getLsbD b.val = false → (s.bay b).state ≠ .parkQueued → t.bay b = s.bay b) ∧
        t.arbiter = s.arbiter ∧ t.supply = s.supply ∧ t.faults = s.faults ∧ t.store = s.store ∧
        t.transit = s.transitAfterFrame (s.now + dt) ∧ t.now = s.now + dt)

/-- TEST WINDING (R152): each STOPPED bay of the set joins the queue with a TEST entry, and may be granted at once;
after a join an evaluation has run (R34). -/
def Obligations.TestWindingOutcomes : Prop :=
  ∀ (dt : Nat) (r : Req) (s : State) (lo hi : Byte) (set : BaySet), s.hands .testWinding r → r.body = [lo, hi] →
    set = hi ++ lo →
    (set = 0 → ∃ t, exec (.testWinding dt r) s = .next t ∧ t.replied .testWinding r .argument [] ∧
      s.onlyAnswered t dt) ∧
    (set ≠ 0 → s.checkRefuses r →
      ∃ t, exec (.testWinding dt r) s = .next t ∧ t.replied .testWinding r .pending [] ∧ s.onlyAnswered t dt) ∧
    (set ≠ 0 → ¬ s.checkRefuses r → s.queuesMatch →
      ∃ t f, exec (.testWinding dt r) s = .next t ∧ t.listed .testWinding r set f ∧
        (∀ b, set.getLsbD b.val = true → ¬ s.takes r set b →
          f b = .pending ∧ ((s.bay b).state ≠ .queued → t.bay b = s.bay b) ∧
            (t.bay b).loadOnArrival = (s.bay b).loadOnArrival) ∧
        (∀ b, s.takes r set b → s.transit.mode = .transitSafe → f b = .safeMode ∧ t.bay b = s.bay b) ∧
        (∀ b, s.takes r set b → s.transit.mode = .normal → (s.bay b).state = .stopped →
          f b = .accepted ∧ (t.bay b).winding = (s.bay b).winding ∧
          (t.bay b).loadOnArrival = (s.bay b).loadOnArrival ∧
          ((t.bay b).state = .queued ∧ t.entryKind b = some .test ∨
            (t.bay b).state = .diag ∧ (t.bay b).latched = (s.bay b).latched ∧ (t.bay b).spen = none ∧
              t.arbiter.converter =
                { holder := some b, offsetDue := some (s.now + dt + 1000), offset := none })) ∧
        (∀ b, s.takes r set b → s.transit.mode = .normal → (s.bay b).state ≠ .stopped →
          f b = .state ∧ ((s.bay b).state ≠ .queued → t.bay b = s.bay b)) ∧
        (∀ b, s.takes r set b → s.transit.mode = .normal → (s.bay b).state = .stopped → t.pass = none) ∧
        (∀ b, set.getLsbD b.val = false → (s.bay b).state ≠ .queued → t.bay b = s.bay b) ∧
        t.scheduler = s.scheduler ∧ t.motion = s.motion ∧ t.supply = s.supply ∧ t.faults = s.faults ∧
        t.store = s.store ∧ t.transit = s.transitAfterFrame (s.now + dt) ∧ t.now = s.now + dt)

/-- RELEASE (R142, R143): the outcome and the effect at each bay of the set; the pending set is emptied, the sticky set
kept. The CHECK flag is ignored. -/
def Obligations.ReleaseOutcomes : Prop :=
  ∀ (dt : Nat) (r : Req) (s : State) (lo hi : Byte) (set : BaySet), s.hands .release r → r.body = [lo, hi] →
    set = hi ++ lo →
    (set = 0 → ∃ t, exec (.release dt r) s = .next t ∧ t.replied .release r .argument [] ∧
      s.onlyAnswered t dt) ∧
    (set ≠ 0 →
      ∃ t f, exec (.release dt r) s = .next t ∧ t.listed .release r set f ∧
        (∀ b, set.getLsbD b.val = true → (s.bay b).state = .held → (s.bay b).prk = true →
          (let returns := (s.bay b).spindleOn = true ∧ s.transit.mode = .normal ∧
             ∃ p v, (s.bay b).latched = some p ∧ (s.bay b).speed = some v ∧ p.speedLow ≤ v ∧ v ≤ p.speedHigh
           (t.bay b).pending = 0 ∧ (t.bay b).sticky = (s.bay b).sticky ∧
           (t.bay b).latched = (s.bay b).latched ∧ (t.bay b).lastSpinUp = (s.bay b).lastSpinUp ∧
           (returns → f b = .done ∧ (t.bay b).state = .spun ∧ (t.bay b).attempts = 0 ∧
             (t.bay b).armed = true ∧ (t.bay b).spen = some ((s.governing b).surgeCost * 250) ∧
             (t.bay b).timers = { Timers.stopped with gap := some (s.now + dt + 500000) } ∧
             t.bayRaised b .spun) ∧
           (¬ returns → f b = .accepted ∧ (t.bay b).state = .spinningDown ∧ (t.bay b).intent = .stopAfter ∧
             (t.bay b).attempts = (s.bay b).attempts ∧ (t.bay b).spen = none ∧
             (t.bay b).timers = { Timers.stopped with
               stopGap := some (s.now + dt + 1000000),
               stopTimeout := some (s.now + dt + (s.governing b).stopTimeout * 1000000) }))) ∧
        (∀ b, set.getLsbD b.val = true → ((s.bay b).state ≠ .held ∨ (s.bay b).prk = false) →
          f b = .state ∧ t.bay b = s.bay b) ∧
        (∀ b, set.getLsbD b.val = false → t.bay b = s.bay b) ∧
        s.caseSetsKept t ∧ t.arbiter = s.arbiter ∧ t.scheduler = s.scheduler ∧ t.motion = s.motion ∧
        t.supply = s.supply ∧ t.store = s.store ∧ t.transit = s.transitAfterFrame (s.now + dt) ∧
        t.now = s.now + dt)

/-- CLEAR FAULTS (R145): the case sets, or the sets of the named bays, of which a HELD bay keeps its pending set. -/
def Obligations.ClearFaultsEmptiesTheSets : Prop :=
  ∀ (dt : Nat) (r : Req) (s : State) (scope lo hi : Byte) (set : BaySet), s.hands .clearFaults r →
    r.body = [scope, lo, hi] → set = hi ++ lo →
    ((1 < scope.toNat ∨ scope = 1 ∧ set = 0) →
      ∃ t, exec (.clearFaults dt r) s = .next t ∧ t.replied .clearFaults r .argument [] ∧ s.onlyAnswered t dt) ∧
    (scope = 0 →
      ∃ t, exec (.clearFaults dt r) s = .next t ∧ t.replied .clearFaults r .done [] ∧ s.driveKept t ∧
        t.faults.caseSticky = 0 ∧ t.faults.casePending = 0 ∧
        (t.faults.attn = true ↔ ∃ b, (s.bay b).pending ≠ 0) ∧ t.store = s.store ∧
        t.transit = s.transitAfterFrame (s.now + dt) ∧ s.nothingRaised t) ∧
    (scope = 1 → set ≠ 0 →
      ∃ t, exec (.clearFaults dt r) s = .next t ∧
        t.listed .clearFaults r set (fun _ => .done) ∧
        (∀ b, t.bay b =
          if set.getLsbD b.val = true then
            (if (s.bay b).state = .held then { s.bay b with sticky := (s.bay b).sticky &&& (s.bay b).pending }
             else { s.bay b with sticky := 0, pending := 0 })
          else s.bay b) ∧
        s.caseSetsKept t ∧
        (t.faults.attn = true ↔ s.faults.casePending ≠ 0 ∨ ∃ b, (t.bay b).pending ≠ 0) ∧
        t.arbiter = s.arbiter ∧ t.scheduler = s.scheduler ∧ t.motion = s.motion ∧ t.supply = s.supply ∧
        t.store = s.store ∧ t.transit = s.transitAfterFrame (s.now + dt) ∧ s.nothingRaised t)

/-- TAKE CONTEXT (R24, R25): the record as it stood, then the reinit. -/
def Obligations.TakeContextReturnsAndReinits : Prop :=
  ∀ (dt : Nat) (r : Req) (s : State) (n : Byte), s.hands .takeContext r → r.body = [n] →
    (15 < n.toNat → ∃ t, exec (.takeContext dt r) s = .next t ∧ t.replied .takeContext r .argument [] ∧
      s.onlyAnswered t dt) ∧
    (n.toNat ≤ 15 → s.checkRefuses r → ∃ t, exec (.takeContext dt r) s = .next t ∧
      t.replied .takeContext r .pending [] ∧ s.onlyAnswered t dt) ∧
    (∀ b : BayNo, n.toNat = b.val → ¬ s.checkRefuses r →
      (let accepted := (s.bay b).state = .stopped ∨ (s.bay b).state = .vacant ∨ (s.bay b).state = .fenced ∨
         (s.bay b).state = .held ∧ (s.bay b).spindleOn = false ∧ (s.bay b).prk = true
       (¬ accepted → ∃ t, exec (.takeContext dt r) s = .next t ∧ t.replied .takeContext r .state [] ∧
         s.onlyAnswered t dt) ∧
       (accepted → ∃ t, exec (.takeContext dt r) s = .next t ∧ t.replied .takeContext r .done (s.bayImage b) ∧
         (let cleared : BayRec := { s.bay b with
            sticky := 0, pending := 0, attempts := 0, intent := .none, spindleOn := false, loadOnArrival := false,
            joltsLoaded := 0, joltsParked := 0, joltsStopped := 0, rollsLoaded := 0, winding := .none,
            windingCurrent := none, lastSpinUp := none }
          ((s.bay b).state = .stopped ∨ (s.bay b).state = .vacant → t.bay b = cleared ∧ s.nothingRaised t) ∧
          ((s.bay b).state = .held ∨ (s.bay b).state = .fenced →
            t.bay b = { cleared with
              state := .stopped, entryTime := caseClock (s.now + dt), latched := none, armed := false,
              spen := none, hld := false, timers := Timers.stopped } ∧
            t.bayRaised b .stopped)) ∧
         (t.faults.attn = true ↔ s.faults.casePending ≠ 0 ∨ ∃ x, (t.bay x).pending ≠ 0) ∧ s.caseSetsKept t ∧
         s.othersKept t b ∧ t.arbiter = s.arbiter ∧ t.scheduler = s.scheduler ∧ t.motion = s.motion ∧
         t.supply = s.supply ∧ t.store = s.store)))

/-! ### Masks, settings and the store -/

/-- SET MASKS replaces the thirteen masks with bits 0 to 12 of its body and changes nothing else (R147, R189). VIEW
ENVIRONMENT returns the record as it stood and then masks all thirteen classes; no pending set changes (R150, R151). -/
def Obligations.MasksAreSetAndViewed : Prop :=
  (∀ (dt : Nat) (r : Req) (s : State) (lo hi : Byte), s.hands .setMasks r → r.body = [lo, hi] →
      ∃ t, exec (.setMasks dt r) s = .next t ∧ t.replied .setMasks r .done [] ∧ t.now = s.now + dt ∧
        (∀ k, k < 13 → t.store.working.masks.getLsbD k = (hi ++ lo).getLsbD k) ∧
        t.store = { s.store with working := { s.store.working with masks := t.store.working.masks } } ∧
        s.driveKept t ∧ t.faults = s.faults ∧ t.transit = s.transitAfterFrame (s.now + dt) ∧ s.nothingRaised t) ∧
  (∀ (dt : Nat) (r : Req) (s : State), s.hands .viewEnvironment r →
      ∃ t, exec (.viewEnvironment dt r) s = .next t ∧ t.now = s.now + dt ∧
        t.replied .viewEnvironment r .done
          (le16 (s.store.working.masks.zeroExtend 16) ++ [s.faults.caseSticky, s.faults.casePending]
            ++ le16 (baySetOf (fun b => (s.bay b).pending != 0))
            ++ [flagBit 0 (s.transit.mode == .transitSafe) ||| flagBit 1 s.motion.lost
                  ||| flagBit 2 s.supply.lastReading.isSome ||| flagBit 3 s.store.commit.isSome,
                s.motion.cls.code, s.supply.cls.code]
            ++ le16 (BitVec.ofNat 16 (s.supply.lastReading.getD 0))
            ++ [BitVec.ofNat 8 s.supply.budget, BitVec.ofNat 8 s.arbiter.held, BitVec.ofNat 8 s.arbiter.grants,
                BitVec.ofNat 8 s.arbiter.queue.length,
                BitVec.ofNat 8 (s.scheduler.emergency.length + s.scheduler.ordinary.length),
                BitVec.ofNat 8 s.scheduler.unloading, BitVec.ofNat 8 s.settings.quietCode]) ∧
        t.store = { s.store with working := { s.store.working with masks := BitVec.allOnes 13 } } ∧
        s.driveKept t ∧ t.faults = s.faults ∧ t.transit = s.transitAfterFrame (s.now + dt) ∧ s.nothingRaised t)

/-- SET (R165, R167): the value is taken or kept by its range and cross-check, every other setting stands, and the block
that acts on the change is handed it in the same event. -/
def Obligations.SetChangesOneSetting : Prop :=
  ∀ (dt : Nat) (r : Req) (s : State) (n lo hi : Byte) (v : Nat), s.hands .setSetting r → r.body = [n, lo, hi] →
    v = lo.toNat + 256 * hi.toNat →
    ((n.toNat = 0 ∨ 21 < n.toNat) →
      ∃ t, exec (.setSetting dt r) s = .next t ∧ t.replied .setSetting r .argument [] ∧ s.onlyAnswered t dt) ∧
    (1 ≤ n.toNat → n.toNat ≤ 21 → s.checkRefuses r →
      ∃ t, exec (.setSetting dt r) s = .next t ∧ t.replied .setSetting r .pending [] ∧ s.onlyAnswered t dt) ∧
    (1 ≤ n.toNat → n.toNat ≤ 21 → ¬ s.checkRefuses r → ¬ s.settings.admits n.toNat v →
      ∃ t, exec (.setSetting dt r) s = .next t ∧
        t.replied .setSetting r .kept (n :: le16 (BitVec.ofNat 16 (s.settings.get n.toNat))) ∧
        s.onlyAnswered t dt) ∧
    (1 ≤ n.toNat → n.toNat ≤ 21 → ¬ s.checkRefuses r → s.settings.admits n.toNat v →
      ∃ t, exec (.setSetting dt r) s = .next t ∧ t.replied .setSetting r .done [n, lo, hi] ∧
        t.settings.get n.toNat = v ∧ (∀ m, m ≠ n.toNat → t.settings.get m = s.settings.get m) ∧
        t.store = { s.store with working := { s.store.working with case := t.settings } } ∧
        t.now = s.now + dt ∧ s.caseSetsKept t ∧
        (n.toNat = 1 ∨ n.toNat = 2 → t.supply.budget = (match s.supply.cls with
          | .normal => t.settings.surgeBudget
          | .low => min t.settings.leanBudget t.settings.surgeBudget
          | .cut => 0)) ∧
        (n.toNat ≠ 1 → n.toNat ≠ 2 → t.supply = s.supply) ∧
        (n.toNat = 1 ∨ n.toNat = 2 ∨ n.toNat = 3 ∨ n.toNat = 4 ∨ n.toNat = 5 ∨ n.toNat = 8 ∨ n.toNat = 9 ∨
            n.toNat = 18 →
          t.pass = none ∧ t.scheduler = s.scheduler ∧ t.transit = s.transitAfterFrame (s.now + dt)) ∧
        (n.toNat = 6 →
          (t.scheduler.emergency = [] ∧ t.scheduler.ordinary = [] ∨ v ≤ t.scheduler.unloading) ∧
          t.arbiter = s.arbiter ∧ t.transit = s.transitAfterFrame (s.now + dt)) ∧
        (n.toNat = 16 → s.driveKept t ∧ t.transit.mode = s.transit.mode ∧
          (s.transit.mode = .normal → t.transit.quietDue = (quietMicros v).map (fun l => s.now + dt + l)) ∧
          (s.transit.mode = .transitSafe → t.transit = s.transitAfterFrame (s.now + dt))) ∧
        (n.toNat = 7 ∨ 10 ≤ n.toNat ∧ n.toNat ≤ 15 ∨ n.toNat = 17 ∨ 19 ≤ n.toNat →
          s.driveKept t ∧ t.transit = s.transitAfterFrame (s.now + dt)))

/-- GET returns a setting and changes nothing (R166); a mask is no case setting, and the bay selections stand in the bay
records. -/
def Obligations.GetReturnsASetting : Prop :=
  (∀ (dt : Nat) (r : Req) (s : State) (n : Byte), s.hands .getSetting r → r.body = [n] →
    ∃ t, exec (.getSetting dt r) s = .next t ∧ s.onlyAnswered t dt ∧ s.nothingRaised t ∧
      ((n.toNat = 0 ∨ 21 < n.toNat) → t.replied .getSetting r .argument []) ∧
      (1 ≤ n.toNat → n.toNat ≤ 21 → s.checkRefuses r → t.replied .getSetting r .pending []) ∧
      (1 ≤ n.toNat → n.toNat ≤ 21 → ¬ s.checkRefuses r →
        t.replied .getSetting r .done (n :: le16 (BitVec.ofNat 16 (s.settings.get n.toNat))))) ∧
  (∀ s : State, s.environmentImage.take 2 = le16 (s.store.working.masks.zeroExtend 16)) ∧
  (∀ (s : State) (b : BayNo), (s.bayImage b)[7]? = some (BitVec.ofNat 8 s.store.working.selections[b].val))

/-- GET PROFILE returns the table entry and changes nothing; the latched copy stands in the bay record that VIEW BAY
returns (R162). -/
def Obligations.GetProfileReturnsTheTableEntry : Prop :=
  (∀ (dt : Nat) (r : Req) (s : State) (n : Byte), s.hands .getProfile r → r.body = [n] →
    ∃ t, exec (.getProfile dt r) s = .next t ∧ s.onlyAnswered t dt ∧ s.nothingRaised t ∧
      (7 < n.toNat → t.replied .getProfile r .argument []) ∧
      (n.toNat ≤ 7 → s.checkRefuses r → t.replied .getProfile r .pending []) ∧
      (∀ k : Fin 8, n.toNat = k.val → ¬ s.checkRefuses r →
        t.replied .getProfile r .done (n :: (s.store.working.profiles[k]).image))) ∧
  (∀ (s : State) (b : BayNo) (p : Profile), (s.bay b).latched = some p → (s.bayImage b).drop 28 = p.image)

/-- SET PROFILE replaces a profile as a whole or keeps it; SET BAY writes a selection or keeps it (R161, R163). -/
def Obligations.ProfilesAndSelections : Prop :=
  (∀ (dt : Nat) (r : Req) (s : State) (p : Profile) (n : Byte), s.hands .setProfile r → r.body = n :: p.image →
    (p.surgeCost < 256 ∧ p.pulsesPerRev < 256 ∧ p.speedLow < 65536 ∧ p.speedHigh < 65536 ∧ p.tachFirst < 65536 ∧
      p.holdTime < 256 ∧ p.retryLimit < 256 ∧ p.rank < 256 ∧ p.loadTimeout < 65536 ∧ p.loadSettle < 65536 ∧
      p.unloadDeadline < 65536 ∧ p.stopTimeout < 256) →
    (7 < n.toNat → ∃ t, exec (.setProfile dt r) s = .next t ∧ t.replied .setProfile r .argument [] ∧
      s.onlyAnswered t dt) ∧
    (n.toNat ≤ 7 → s.checkRefuses r → ∃ t, exec (.setProfile dt r) s = .next t ∧
      t.replied .setProfile r .pending [] ∧ s.onlyAnswered t dt) ∧
    (∀ k : Fin 8, n.toNat = k.val → ¬ s.checkRefuses r →
      (¬ p.fits → ∃ t, exec (.setProfile dt r) s = .next t ∧
        t.replied .setProfile r .kept (n :: (s.store.working.profiles[k]).image) ∧ s.onlyAnswered t dt) ∧
      (p.fits → ∃ t, exec (.setProfile dt r) s = .next t ∧ t.replied .setProfile r .done (n :: p.image) ∧
        t.store = { s.store with
          working := { s.store.working with profiles := s.store.working.profiles.set k.val p k.isLt } } ∧
        s.driveKept t ∧ t.faults = s.faults ∧ t.transit = s.transitAfterFrame (s.now + dt) ∧
        s.nothingRaised t))) ∧
  (∀ (dt : Nat) (r : Req) (s : State) (n m : Byte), s.hands .setBay r → r.body = [n, m] →
    (15 < n.toNat → ∃ t, exec (.setBay dt r) s = .next t ∧ t.replied .setBay r .argument [] ∧
      s.onlyAnswered t dt) ∧
    (n.toNat ≤ 15 → s.checkRefuses r → ∃ t, exec (.setBay dt r) s = .next t ∧ t.replied .setBay r .pending [] ∧
      s.onlyAnswered t dt) ∧
    (∀ b : BayNo, n.toNat = b.val → ¬ s.checkRefuses r →
      (7 < m.toNat → ∃ t, exec (.setBay dt r) s = .next t ∧
        t.replied .setBay r .kept [n, BitVec.ofNat 8 s.store.working.selections[b].val] ∧ s.onlyAnswered t dt) ∧
      (∀ k : Fin 8, m.toNat = k.val → ∃ t, exec (.setBay dt r) s = .next t ∧ t.replied .setBay r .done [n, m] ∧
        t.store = { s.store with
          working := { s.store.working with selections := s.store.working.selections.set b.val k b.isLt } } ∧
        s.driveKept t ∧ t.faults = s.faults ∧ t.transit = s.transitAfterFrame (s.now + dt) ∧
        s.nothingRaised t)))

/-- COMMIT copies the working settings and starts the engine, or is refused (R170); the completion leaves the copy in
the image, valid if the read-back matches (R171). RECALL replaces the working settings with a valid image and runs the
effects of the settings once: the budget, a grant evaluation, a start pass and, where the code changes, the quiet timer
of a NORMAL case (R172, R125). An image passes its check where its CRC matches its contents and every value its own
check (R168); the bytes of the contents are the model's choice (log 6). -/
def Obligations.CommitAndRecall : Prop :=
  ((∀ (dt : Nat) (r : Req) (s : State), s.hands .commit r →
      (s.checkRefuses r → ∃ t, exec (.commit dt r) s = .next t ∧ t.replied .commit r .pending [] ∧
        s.onlyAnswered t dt) ∧
      (¬ s.checkRefuses r → s.store.commit ≠ none →
        ∃ t, exec (.commit dt r) s = .next t ∧ t.replied .commit r .busy [] ∧ s.onlyAnswered t dt) ∧
      (¬ s.checkRefuses r → s.store.commit = none →
        ∃ t, exec (.commit dt r) s = .next t ∧ t.replied .commit r .accepted [] ∧
          t.store.commit = some s.store.working ∧ t.store.working = s.store.working ∧
          t.store.image.passes = false ∧ s.driveKept t ∧ t.faults = s.faults ∧
          t.transit = s.transitAfterFrame (s.now + dt) ∧ s.nothingRaised t)) ∧
    (∀ (dt : Nat) (s : State) (copy : WorkingSettings), s.store.commit = some copy →
      (∃ t, exec (.commitComplete dt true) s = .next t ∧ t.store.commit = none ∧ t.store.image.values = copy ∧
        t.store.image.passes = copy.valid ∧ t.store.working = s.store.working ∧ t.caseRaised .committed ∧
        s.driveKept t ∧ t.faults = s.faults ∧ t.transit = s.transit) ∧
      (∃ t, exec (.commitComplete dt false) s = .next t ∧ t.store.commit = none ∧ t.store.image.passes = false ∧
        t.store.working = s.store.working ∧ t.caseRaised .commitFailed ∧ s.caseReported t .storeBad ∧
        s.driveKept t ∧ t.transit = s.transit))) ∧
  (∀ (dt : Nat) (r : Req) (s : State), s.hands .recall r →
      (s.checkRefuses r → ∃ t, exec (.recall dt r) s = .next t ∧ t.replied .recall r .pending [] ∧
        s.onlyAnswered t dt) ∧
      (¬ s.checkRefuses r → s.store.commit ≠ none →
        ∃ t, exec (.recall dt r) s = .next t ∧ t.replied .recall r .busy [] ∧ s.onlyAnswered t dt) ∧
      (¬ s.checkRefuses r → s.store.commit = none → s.store.image.passes = false →
        ∃ t, exec (.recall dt r) s = .next t ∧ t.replied .recall r .store [] ∧ s.caseReported t .storeBad ∧
          t.store = s.store ∧ s.driveKept t ∧ t.transit = s.transitAfterFrame (s.now + dt)) ∧
      (¬ s.checkRefuses r → s.store.commit = none → s.store.image.passes = true →
        ∃ t, exec (.recall dt r) s = .next t ∧ t.replied .recall r .done [] ∧
          t.store = { s.store with working := s.store.image.values } ∧ s.caseSetsKept t ∧
          t.supply.lastReading = s.supply.lastReading ∧ t.supply.cls = s.supply.cls ∧
          t.supply.nextReading = s.supply.nextReading ∧
          t.supply.budget = (match s.supply.cls with
            | .normal => t.settings.surgeBudget
            | .low => min t.settings.leanBudget t.settings.surgeBudget
            | .cut => 0) ∧
          (t.scheduler.emergency = [] ∧ t.scheduler.ordinary = [] ∨
            t.settings.unloadWidth ≤ t.scheduler.unloading) ∧
          t.pass = none ∧
          (∀ b, (t.bay b).sticky = (s.bay b).sticky ∧ (t.bay b).pending = (s.bay b).pending) ∧
          (t.settings.quietCode = s.settings.quietCode → t.transit = s.transitAfterFrame (s.now + dt)) ∧
          (t.settings.quietCode ≠ s.settings.quietCode → s.transit.mode = .normal →
            t.transit.mode = .normal ∧
            t.transit.quietDue = (quietMicros t.settings.quietCode).map (fun l => s.now + dt + l)) ∧
          (t.settings.quietCode ≠ s.settings.quietCode → s.transit.mode = .transitSafe →
            t.transit = s.transitAfterFrame (s.now + dt)))) ∧
  (∀ (i : StoreImage), i.passes = true ↔ i.crc = crc16 i.values.bytes ∧ i.values.valid = true)

/-- RESTART (R27, R173, R174): refused by PENDING, BUSY or STATE, else every block takes its RESTART values, the
history is kept, the sweep origin and pointer are 0 but for the sweep of a start-safe entry (R100, R104), and the case
notice STARTED is queued behind the reply, whose SUMMARY is that of the state before the restart. -/
def Obligations.RestartStartsAfresh : Prop :=
  ∀ (dt : Nat) (r : Req) (s : State), s.hands .restart r →
    (s.checkRefuses r → ∃ t, exec (.restart dt r) s = .next t ∧ t.replied .restart r .pending [] ∧
      s.onlyAnswered t dt) ∧
    (¬ s.checkRefuses r → s.store.commit ≠ none →
      ∃ t, exec (.restart dt r) s = .next t ∧ t.replied .restart r .busy [] ∧ s.onlyAnswered t dt) ∧
    (let barred (b : BayNo) : Prop :=
       (s.bay b).state = .spinningUp ∨ (s.bay b).state = .spun ∨ (s.bay b).state = .loading ∨
       (s.bay b).state = .loaded ∨ (s.bay b).state = .parkQueued ∨ (s.bay b).state = .unloading ∨
       (s.bay b).state = .spinningDown ∨ (s.bay b).state = .diag ∨
       (s.bay b).state = .held ∧ ((s.bay b).spindleOn = true ∨ (s.bay b).prk = false)
     (¬ s.checkRefuses r → s.store.commit = none → (∃ b, barred b) →
       ∃ t, exec (.restart dt r) s = .next t ∧ t.replied .restart r .state [] ∧ s.onlyAnswered t dt) ∧
     (¬ s.checkRefuses r → s.store.commit = none → (∀ b, ¬ barred b) →
       ∃ t, exec (.restart dt r) s = .next t ∧ t.replied .restart r .done [] ∧
         (∃ rep, t.link.slot = some rep ∧
           rep.summary.getLsbD 0 = (s.transit.mode == .transitSafe) ∧
           rep.summary.getLsbD 1 = (s.motion.cls == .still) ∧ rep.summary.getLsbD 2 = (s.motion.cls == .rolling) ∧
           rep.summary.getLsbD 3 = (s.supply.cls == .low) ∧ rep.summary.getLsbD 4 = (s.supply.cls == .cut) ∧
           rep.summary.getLsbD 5 = s.faults.attn ∧ rep.summary.getLsbD 6 = !s.link.notices.isEmpty ∧
           rep.summary.getLsbD 7 = s.store.loading) ∧
         (∀ b,
           (let rested : BayRec := { s.bay b with
              sticky := 0, pending := 0, attempts := 0, intent := .none, spindleOn := false,
              loadOnArrival := false, latched := none }
            ((s.bay b).state = .vacant ∨ (s.bay b).state = .stopped → t.bay b = rested) ∧
            ((s.bay b).state = .queued ∨ (s.bay b).state = .fenced ∨ (s.bay b).state = .held →
              t.bay b = { rested with
                state := .stopped, entryTime := caseClock (s.now + dt), armed := false, spen := none,
                hld := false, timers := Timers.stopped }))) ∧
         t.motion = { s.motion with
           cls := .unsettled, ring := [], lastSamples := [], dwellStart := s.now + dt, missing := 0,
           lost := false } ∧
         t.scheduler = {
           emergency := [], ordinary := [], unloading := 0, pointer := 0,
           origin := if s.settings.quietCode = 7 ∧ s.settings.originRotation = true then 1 else 0 } ∧
         t.supply = s.supply ∧ t.store = s.store ∧
         t.faults = { caseSticky := 0, casePending := 0, attn := false } ∧
         t.link.cursor = 0 ∧ t.link.pin = none ∧
         (s.settings.quietCode = 7 → t.transit = { mode := .transitSafe, quietDue := none }) ∧
         (s.settings.quietCode ≠ 7 → t.transit.mode = .normal ∧
           t.transit.quietDue = (quietMicros s.settings.quietCode).map (fun l => s.now + dt + l)) ∧
         t.caseRaised .started ∧ (∀ n ∈ t.link.notices, n.source = .theCase)))

/-! ### What every step keeps -/

/-- R135: the pending sets stay within the sticky sets, every HELD bay has a pending class; and ATTN shows whether some
pending set is not empty (R138). -/
def Obligations.StepKeepsFaultSets : Prop :=
  (∀ s t : State, s.faultSetsNested → step s = .next t → t.faultSetsNested) ∧
  (∀ s t : State, s.attnShowsPending → step s = .next t → t.attnShowsPending)

/-- R15, R16: the outputs of every bay follow its state. -/
def Obligations.StepKeepsOutputs : Prop :=
  ∀ s t : State, s.outputsFollow → step s = .next t → t.outputsFollow

/-- The working settings pass their checks, and the surge stays within its bounds (R160, R164, R32); at most one notice
for each source, and at most 17 (R182); the jolt list, its records and the ring keep their bounds (R82, R83, R92 to
R95). -/
def Obligations.StepKeepsBounds : Prop :=
  (∀ s t : State, s.settingsAndSurgeBounded → step s = .next t → t.settingsAndSurgeBounded) ∧
  (∀ s t : State, s.noticesSingle → step s = .next t → t.noticesSingle) ∧
  (∀ s t : State, s.motionBounded → step s = .next t → t.motionBounded)

/-- R28, R62: the two queues hold exactly the bays that are QUEUED and PARK_QUEUED. -/
def Obligations.StepKeepsQueues : Prop :=
  ∀ s t : State, s.queuesMatch → step s = .next t → t.queuesMatch

/-- R32, R64: the held surge total, the grant count and the unloading count are those of the bays. R153: the
converter is held by exactly the bay in DIAG, so at most one bay is in DIAG. -/
def Obligations.StepKeepsCounts : Prop :=
  (∀ s t : State, s.queuesMatch → s.countsMatch → step s = .next t → t.countsMatch) ∧
  (∀ s t : State, s.queuesMatch → s.converterHeld → step s = .next t → t.converterHeld)

/-- R127, R129: in TRANSIT_SAFE no bay is QUEUED, SPINNING_UP, in DIAG, LOADING or LOADED. -/
def Obligations.StepKeepsSafeQuiet : Prop :=
  ∀ s t : State, s.queuesMatch → s.safeIsQuiet → step s = .next t → t.safeIsQuiet
end

