-- ==== Sys2Proof/Laws/State.lean ====
section
/-! SUPPORT. What each update of the state leaves and writes, field by field. -/

namespace Sys2Proof.Machine

/-! ### `elapse` -/

@[simp] theorem State.elapse_bays (s : State) (dt : Nat) : (s.elapse dt).bays = s.bays := rfl
@[simp] theorem State.elapse_arbiter (s : State) (dt : Nat) : (s.elapse dt).arbiter = s.arbiter := rfl
@[simp] theorem State.elapse_scheduler (s : State) (dt : Nat) : (s.elapse dt).scheduler = s.scheduler := rfl
@[simp] theorem State.elapse_motion (s : State) (dt : Nat) : (s.elapse dt).motion = s.motion := rfl
@[simp] theorem State.elapse_supply (s : State) (dt : Nat) : (s.elapse dt).supply = s.supply := rfl
@[simp] theorem State.elapse_transit (s : State) (dt : Nat) : (s.elapse dt).transit = s.transit := rfl
@[simp] theorem State.elapse_faults (s : State) (dt : Nat) : (s.elapse dt).faults = s.faults := rfl
@[simp] theorem State.elapse_store (s : State) (dt : Nat) : (s.elapse dt).store = s.store := rfl
@[simp] theorem State.elapse_link (s : State) (dt : Nat) : (s.elapse dt).link = s.link := rfl
@[simp] theorem State.elapse_freeTick (s : State) (dt : Nat) : (s.elapse dt).freeTick = s.freeTick := rfl
@[simp] theorem State.elapse_pending (s : State) (dt : Nat) : (s.elapse dt).pending = s.pending := rfl
@[simp] theorem State.elapse_bay (s : State) (dt : Nat) (x : BayNo) : (s.elapse dt).bay x = s.bay x := rfl
@[simp] theorem State.elapse_settings (s : State) (dt : Nat) : (s.elapse dt).settings = s.settings := rfl

/-! ### `advanceTo` -/

@[simp] theorem State.advanceTo_bays (s : State) (t : Nat) : (s.advanceTo t).bays = s.bays := rfl
@[simp] theorem State.advanceTo_arbiter (s : State) (t : Nat) : (s.advanceTo t).arbiter = s.arbiter := rfl
@[simp] theorem State.advanceTo_scheduler (s : State) (t : Nat) : (s.advanceTo t).scheduler = s.scheduler := rfl
@[simp] theorem State.advanceTo_motion (s : State) (t : Nat) : (s.advanceTo t).motion = s.motion := rfl
@[simp] theorem State.advanceTo_supply (s : State) (t : Nat) : (s.advanceTo t).supply = s.supply := rfl
@[simp] theorem State.advanceTo_transit (s : State) (t : Nat) : (s.advanceTo t).transit = s.transit := rfl
@[simp] theorem State.advanceTo_faults (s : State) (t : Nat) : (s.advanceTo t).faults = s.faults := rfl
@[simp] theorem State.advanceTo_store (s : State) (t : Nat) : (s.advanceTo t).store = s.store := rfl
@[simp] theorem State.advanceTo_link (s : State) (t : Nat) : (s.advanceTo t).link = s.link := rfl
@[simp] theorem State.advanceTo_freeTick (s : State) (t : Nat) : (s.advanceTo t).freeTick = s.freeTick := rfl
@[simp] theorem State.advanceTo_pending (s : State) (t : Nat) : (s.advanceTo t).pending = s.pending := rfl
@[simp] theorem State.advanceTo_bay (s : State) (t : Nat) (x : BayNo) : (s.advanceTo t).bay x = s.bay x := rfl
@[simp] theorem State.advanceTo_settings (s : State) (t : Nat) : (s.advanceTo t).settings = s.settings := rfl

/-! ### `toMark` -/

@[simp] theorem State.toMark_bays (s : State) (p e : Nat) : (s.toMark p e).bays = s.bays := rfl
@[simp] theorem State.toMark_arbiter (s : State) (p e : Nat) : (s.toMark p e).arbiter = s.arbiter := rfl
@[simp] theorem State.toMark_scheduler (s : State) (p e : Nat) : (s.toMark p e).scheduler = s.scheduler := rfl
@[simp] theorem State.toMark_motion (s : State) (p e : Nat) : (s.toMark p e).motion = s.motion := rfl
@[simp] theorem State.toMark_supply (s : State) (p e : Nat) : (s.toMark p e).supply = s.supply := rfl
@[simp] theorem State.toMark_transit (s : State) (p e : Nat) : (s.toMark p e).transit = s.transit := rfl
@[simp] theorem State.toMark_faults (s : State) (p e : Nat) : (s.toMark p e).faults = s.faults := rfl
@[simp] theorem State.toMark_store (s : State) (p e : Nat) : (s.toMark p e).store = s.store := rfl
@[simp] theorem State.toMark_link (s : State) (p e : Nat) : (s.toMark p e).link = s.link := rfl
@[simp] theorem State.toMark_freeTick (s : State) (p e : Nat) : (s.toMark p e).freeTick = s.freeTick := rfl
@[simp] theorem State.toMark_pending (s : State) (p e : Nat) : (s.toMark p e).pending = s.pending := rfl
@[simp] theorem State.toMark_bay (s : State) (p e : Nat) (x : BayNo) : (s.toMark p e).bay x = s.bay x := rfl
@[simp] theorem State.toMark_settings (s : State) (p e : Nat) : (s.toMark p e).settings = s.settings := rfl

/-! ### `modBay` -/

@[simp] theorem State.modBay_now (s : State) (b : BayNo) (f : BayRec → BayRec) : (s.modBay b f).now = s.now := rfl
@[simp] theorem State.modBay_arbiter (s : State) (b : BayNo) (f : BayRec → BayRec) : (s.modBay b f).arbiter = s.arbiter := rfl
@[simp] theorem State.modBay_scheduler (s : State) (b : BayNo) (f : BayRec → BayRec) : (s.modBay b f).scheduler = s.scheduler := rfl
@[simp] theorem State.modBay_motion (s : State) (b : BayNo) (f : BayRec → BayRec) : (s.modBay b f).motion = s.motion := rfl
@[simp] theorem State.modBay_supply (s : State) (b : BayNo) (f : BayRec → BayRec) : (s.modBay b f).supply = s.supply := rfl
@[simp] theorem State.modBay_transit (s : State) (b : BayNo) (f : BayRec → BayRec) : (s.modBay b f).transit = s.transit := rfl
@[simp] theorem State.modBay_faults (s : State) (b : BayNo) (f : BayRec → BayRec) : (s.modBay b f).faults = s.faults := rfl
@[simp] theorem State.modBay_store (s : State) (b : BayNo) (f : BayRec → BayRec) : (s.modBay b f).store = s.store := rfl
@[simp] theorem State.modBay_link (s : State) (b : BayNo) (f : BayRec → BayRec) : (s.modBay b f).link = s.link := rfl
@[simp] theorem State.modBay_freeTick (s : State) (b : BayNo) (f : BayRec → BayRec) : (s.modBay b f).freeTick = s.freeTick := rfl
@[simp] theorem State.modBay_pending (s : State) (b : BayNo) (f : BayRec → BayRec) : (s.modBay b f).pending = s.pending := rfl
@[simp] theorem State.modBay_settings (s : State) (b : BayNo) (f : BayRec → BayRec) : (s.modBay b f).settings = s.settings := rfl

/-! ### `modBays` -/

@[simp] theorem State.modBays_now (s : State) (f : BayRec → BayRec) : (s.modBays f).now = s.now := rfl
@[simp] theorem State.modBays_arbiter (s : State) (f : BayRec → BayRec) : (s.modBays f).arbiter = s.arbiter := rfl
@[simp] theorem State.modBays_scheduler (s : State) (f : BayRec → BayRec) : (s.modBays f).scheduler = s.scheduler := rfl
@[simp] theorem State.modBays_motion (s : State) (f : BayRec → BayRec) : (s.modBays f).motion = s.motion := rfl
@[simp] theorem State.modBays_supply (s : State) (f : BayRec → BayRec) : (s.modBays f).supply = s.supply := rfl
@[simp] theorem State.modBays_transit (s : State) (f : BayRec → BayRec) : (s.modBays f).transit = s.transit := rfl
@[simp] theorem State.modBays_faults (s : State) (f : BayRec → BayRec) : (s.modBays f).faults = s.faults := rfl
@[simp] theorem State.modBays_store (s : State) (f : BayRec → BayRec) : (s.modBays f).store = s.store := rfl
@[simp] theorem State.modBays_link (s : State) (f : BayRec → BayRec) : (s.modBays f).link = s.link := rfl
@[simp] theorem State.modBays_freeTick (s : State) (f : BayRec → BayRec) : (s.modBays f).freeTick = s.freeTick := rfl
@[simp] theorem State.modBays_pending (s : State) (f : BayRec → BayRec) : (s.modBays f).pending = s.pending := rfl
@[simp] theorem State.modBays_settings (s : State) (f : BayRec → BayRec) : (s.modBays f).settings = s.settings := rfl

/-! ### `modArbiter` -/

@[simp] theorem State.modArbiter_now (s : State) (f : Arbiter → Arbiter) : (s.modArbiter f).now = s.now := rfl
@[simp] theorem State.modArbiter_bays (s : State) (f : Arbiter → Arbiter) : (s.modArbiter f).bays = s.bays := rfl
@[simp] theorem State.modArbiter_scheduler (s : State) (f : Arbiter → Arbiter) : (s.modArbiter f).scheduler = s.scheduler := rfl
@[simp] theorem State.modArbiter_motion (s : State) (f : Arbiter → Arbiter) : (s.modArbiter f).motion = s.motion := rfl
@[simp] theorem State.modArbiter_supply (s : State) (f : Arbiter → Arbiter) : (s.modArbiter f).supply = s.supply := rfl
@[simp] theorem State.modArbiter_transit (s : State) (f : Arbiter → Arbiter) : (s.modArbiter f).transit = s.transit := rfl
@[simp] theorem State.modArbiter_faults (s : State) (f : Arbiter → Arbiter) : (s.modArbiter f).faults = s.faults := rfl
@[simp] theorem State.modArbiter_store (s : State) (f : Arbiter → Arbiter) : (s.modArbiter f).store = s.store := rfl
@[simp] theorem State.modArbiter_link (s : State) (f : Arbiter → Arbiter) : (s.modArbiter f).link = s.link := rfl
@[simp] theorem State.modArbiter_freeTick (s : State) (f : Arbiter → Arbiter) : (s.modArbiter f).freeTick = s.freeTick := rfl
@[simp] theorem State.modArbiter_pending (s : State) (f : Arbiter → Arbiter) : (s.modArbiter f).pending = s.pending := rfl
@[simp] theorem State.modArbiter_bay (s : State) (f : Arbiter → Arbiter) (x : BayNo) : (s.modArbiter f).bay x = s.bay x := rfl
@[simp] theorem State.modArbiter_settings (s : State) (f : Arbiter → Arbiter) : (s.modArbiter f).settings = s.settings := rfl

/-! ### `modScheduler` -/

@[simp] theorem State.modScheduler_now (s : State) (f : Scheduler → Scheduler) : (s.modScheduler f).now = s.now := rfl
@[simp] theorem State.modScheduler_bays (s : State) (f : Scheduler → Scheduler) : (s.modScheduler f).bays = s.bays := rfl
@[simp] theorem State.modScheduler_arbiter (s : State) (f : Scheduler → Scheduler) : (s.modScheduler f).arbiter = s.arbiter := rfl
@[simp] theorem State.modScheduler_motion (s : State) (f : Scheduler → Scheduler) : (s.modScheduler f).motion = s.motion := rfl
@[simp] theorem State.modScheduler_supply (s : State) (f : Scheduler → Scheduler) : (s.modScheduler f).supply = s.supply := rfl
@[simp] theorem State.modScheduler_transit (s : State) (f : Scheduler → Scheduler) : (s.modScheduler f).transit = s.transit := rfl
@[simp] theorem State.modScheduler_faults (s : State) (f : Scheduler → Scheduler) : (s.modScheduler f).faults = s.faults := rfl
@[simp] theorem State.modScheduler_store (s : State) (f : Scheduler → Scheduler) : (s.modScheduler f).store = s.store := rfl
@[simp] theorem State.modScheduler_link (s : State) (f : Scheduler → Scheduler) : (s.modScheduler f).link = s.link := rfl
@[simp] theorem State.modScheduler_freeTick (s : State) (f : Scheduler → Scheduler) : (s.modScheduler f).freeTick = s.freeTick := rfl
@[simp] theorem State.modScheduler_pending (s : State) (f : Scheduler → Scheduler) : (s.modScheduler f).pending = s.pending := rfl
@[simp] theorem State.modScheduler_bay (s : State) (f : Scheduler → Scheduler) (x : BayNo) : (s.modScheduler f).bay x = s.bay x := rfl
@[simp] theorem State.modScheduler_settings (s : State) (f : Scheduler → Scheduler) : (s.modScheduler f).settings = s.settings := rfl

/-! ### `modMotion` -/

@[simp] theorem State.modMotion_now (s : State) (f : Motion → Motion) : (s.modMotion f).now = s.now := rfl
@[simp] theorem State.modMotion_bays (s : State) (f : Motion → Motion) : (s.modMotion f).bays = s.bays := rfl
@[simp] theorem State.modMotion_arbiter (s : State) (f : Motion → Motion) : (s.modMotion f).arbiter = s.arbiter := rfl
@[simp] theorem State.modMotion_scheduler (s : State) (f : Motion → Motion) : (s.modMotion f).scheduler = s.scheduler := rfl
@[simp] theorem State.modMotion_supply (s : State) (f : Motion → Motion) : (s.modMotion f).supply = s.supply := rfl
@[simp] theorem State.modMotion_transit (s : State) (f : Motion → Motion) : (s.modMotion f).transit = s.transit := rfl
@[simp] theorem State.modMotion_faults (s : State) (f : Motion → Motion) : (s.modMotion f).faults = s.faults := rfl
@[simp] theorem State.modMotion_store (s : State) (f : Motion → Motion) : (s.modMotion f).store = s.store := rfl
@[simp] theorem State.modMotion_link (s : State) (f : Motion → Motion) : (s.modMotion f).link = s.link := rfl
@[simp] theorem State.modMotion_freeTick (s : State) (f : Motion → Motion) : (s.modMotion f).freeTick = s.freeTick := rfl
@[simp] theorem State.modMotion_pending (s : State) (f : Motion → Motion) : (s.modMotion f).pending = s.pending := rfl
@[simp] theorem State.modMotion_bay (s : State) (f : Motion → Motion) (x : BayNo) : (s.modMotion f).bay x = s.bay x := rfl
@[simp] theorem State.modMotion_settings (s : State) (f : Motion → Motion) : (s.modMotion f).settings = s.settings := rfl

/-! ### `modSupply` -/

@[simp] theorem State.modSupply_now (s : State) (f : Supply → Supply) : (s.modSupply f).now = s.now := rfl
@[simp] theorem State.modSupply_bays (s : State) (f : Supply → Supply) : (s.modSupply f).bays = s.bays := rfl
@[simp] theorem State.modSupply_arbiter (s : State) (f : Supply → Supply) : (s.modSupply f).arbiter = s.arbiter := rfl
@[simp] theorem State.modSupply_scheduler (s : State) (f : Supply → Supply) : (s.modSupply f).scheduler = s.scheduler := rfl
@[simp] theorem State.modSupply_motion (s : State) (f : Supply → Supply) : (s.modSupply f).motion = s.motion := rfl
@[simp] theorem State.modSupply_transit (s : State) (f : Supply → Supply) : (s.modSupply f).transit = s.transit := rfl
@[simp] theorem State.modSupply_faults (s : State) (f : Supply → Supply) : (s.modSupply f).faults = s.faults := rfl
@[simp] theorem State.modSupply_store (s : State) (f : Supply → Supply) : (s.modSupply f).store = s.store := rfl
@[simp] theorem State.modSupply_link (s : State) (f : Supply → Supply) : (s.modSupply f).link = s.link := rfl
@[simp] theorem State.modSupply_freeTick (s : State) (f : Supply → Supply) : (s.modSupply f).freeTick = s.freeTick := rfl
@[simp] theorem State.modSupply_pending (s : State) (f : Supply → Supply) : (s.modSupply f).pending = s.pending := rfl
@[simp] theorem State.modSupply_bay (s : State) (f : Supply → Supply) (x : BayNo) : (s.modSupply f).bay x = s.bay x := rfl
@[simp] theorem State.modSupply_settings (s : State) (f : Supply → Supply) : (s.modSupply f).settings = s.settings := rfl

/-! ### `modTransit` -/

@[simp] theorem State.modTransit_now (s : State) (f : Transit → Transit) : (s.modTransit f).now = s.now := rfl
@[simp] theorem State.modTransit_bays (s : State) (f : Transit → Transit) : (s.modTransit f).bays = s.bays := rfl
@[simp] theorem State.modTransit_arbiter (s : State) (f : Transit → Transit) : (s.modTransit f).arbiter = s.arbiter := rfl
@[simp] theorem State.modTransit_scheduler (s : State) (f : Transit → Transit) : (s.modTransit f).scheduler = s.scheduler := rfl
@[simp] theorem State.modTransit_motion (s : State) (f : Transit → Transit) : (s.modTransit f).motion = s.motion := rfl
@[simp] theorem State.modTransit_supply (s : State) (f : Transit → Transit) : (s.modTransit f).supply = s.supply := rfl
@[simp] theorem State.modTransit_faults (s : State) (f : Transit → Transit) : (s.modTransit f).faults = s.faults := rfl
@[simp] theorem State.modTransit_store (s : State) (f : Transit → Transit) : (s.modTransit f).store = s.store := rfl
@[simp] theorem State.modTransit_link (s : State) (f : Transit → Transit) : (s.modTransit f).link = s.link := rfl
@[simp] theorem State.modTransit_freeTick (s : State) (f : Transit → Transit) : (s.modTransit f).freeTick = s.freeTick := rfl
@[simp] theorem State.modTransit_pending (s : State) (f : Transit → Transit) : (s.modTransit f).pending = s.pending := rfl
@[simp] theorem State.modTransit_bay (s : State) (f : Transit → Transit) (x : BayNo) : (s.modTransit f).bay x = s.bay x := rfl
@[simp] theorem State.modTransit_settings (s : State) (f : Transit → Transit) : (s.modTransit f).settings = s.settings := rfl

/-! ### `modLink` -/

@[simp] theorem State.modLink_now (s : State) (f : Link → Link) : (s.modLink f).now = s.now := rfl
@[simp] theorem State.modLink_bays (s : State) (f : Link → Link) : (s.modLink f).bays = s.bays := rfl
@[simp] theorem State.modLink_arbiter (s : State) (f : Link → Link) : (s.modLink f).arbiter = s.arbiter := rfl
@[simp] theorem State.modLink_scheduler (s : State) (f : Link → Link) : (s.modLink f).scheduler = s.scheduler := rfl
@[simp] theorem State.modLink_motion (s : State) (f : Link → Link) : (s.modLink f).motion = s.motion := rfl
@[simp] theorem State.modLink_supply (s : State) (f : Link → Link) : (s.modLink f).supply = s.supply := rfl
@[simp] theorem State.modLink_transit (s : State) (f : Link → Link) : (s.modLink f).transit = s.transit := rfl
@[simp] theorem State.modLink_faults (s : State) (f : Link → Link) : (s.modLink f).faults = s.faults := rfl
@[simp] theorem State.modLink_store (s : State) (f : Link → Link) : (s.modLink f).store = s.store := rfl
@[simp] theorem State.modLink_freeTick (s : State) (f : Link → Link) : (s.modLink f).freeTick = s.freeTick := rfl
@[simp] theorem State.modLink_pending (s : State) (f : Link → Link) : (s.modLink f).pending = s.pending := rfl
@[simp] theorem State.modLink_bay (s : State) (f : Link → Link) (x : BayNo) : (s.modLink f).bay x = s.bay x := rfl
@[simp] theorem State.modLink_settings (s : State) (f : Link → Link) : (s.modLink f).settings = s.settings := rfl

/-! ### `modStore` -/

@[simp] theorem State.modStore_now (s : State) (f : Store → Store) : (s.modStore f).now = s.now := rfl
@[simp] theorem State.modStore_bays (s : State) (f : Store → Store) : (s.modStore f).bays = s.bays := rfl
@[simp] theorem State.modStore_arbiter (s : State) (f : Store → Store) : (s.modStore f).arbiter = s.arbiter := rfl
@[simp] theorem State.modStore_scheduler (s : State) (f : Store → Store) : (s.modStore f).scheduler = s.scheduler := rfl
@[simp] theorem State.modStore_motion (s : State) (f : Store → Store) : (s.modStore f).motion = s.motion := rfl
@[simp] theorem State.modStore_supply (s : State) (f : Store → Store) : (s.modStore f).supply = s.supply := rfl
@[simp] theorem State.modStore_transit (s : State) (f : Store → Store) : (s.modStore f).transit = s.transit := rfl
@[simp] theorem State.modStore_faults (s : State) (f : Store → Store) : (s.modStore f).faults = s.faults := rfl
@[simp] theorem State.modStore_link (s : State) (f : Store → Store) : (s.modStore f).link = s.link := rfl
@[simp] theorem State.modStore_freeTick (s : State) (f : Store → Store) : (s.modStore f).freeTick = s.freeTick := rfl
@[simp] theorem State.modStore_pending (s : State) (f : Store → Store) : (s.modStore f).pending = s.pending := rfl
@[simp] theorem State.modStore_bay (s : State) (f : Store → Store) (x : BayNo) : (s.modStore f).bay x = s.bay x := rfl

/-! ### `modWorking` -/

@[simp] theorem State.modWorking_now (s : State) (f : WorkingSettings → WorkingSettings) : (s.modWorking f).now = s.now := rfl
@[simp] theorem State.modWorking_bays (s : State) (f : WorkingSettings → WorkingSettings) : (s.modWorking f).bays = s.bays := rfl
@[simp] theorem State.modWorking_arbiter (s : State) (f : WorkingSettings → WorkingSettings) : (s.modWorking f).arbiter = s.arbiter := rfl
@[simp] theorem State.modWorking_scheduler (s : State) (f : WorkingSettings → WorkingSettings) : (s.modWorking f).scheduler = s.scheduler := rfl
@[simp] theorem State.modWorking_motion (s : State) (f : WorkingSettings → WorkingSettings) : (s.modWorking f).motion = s.motion := rfl
@[simp] theorem State.modWorking_supply (s : State) (f : WorkingSettings → WorkingSettings) : (s.modWorking f).supply = s.supply := rfl
@[simp] theorem State.modWorking_transit (s : State) (f : WorkingSettings → WorkingSettings) : (s.modWorking f).transit = s.transit := rfl
@[simp] theorem State.modWorking_faults (s : State) (f : WorkingSettings → WorkingSettings) : (s.modWorking f).faults = s.faults := rfl
@[simp] theorem State.modWorking_link (s : State) (f : WorkingSettings → WorkingSettings) : (s.modWorking f).link = s.link := rfl
@[simp] theorem State.modWorking_freeTick (s : State) (f : WorkingSettings → WorkingSettings) : (s.modWorking f).freeTick = s.freeTick := rfl
@[simp] theorem State.modWorking_pending (s : State) (f : WorkingSettings → WorkingSettings) : (s.modWorking f).pending = s.pending := rfl
@[simp] theorem State.modWorking_bay (s : State) (f : WorkingSettings → WorkingSettings) (x : BayNo) : (s.modWorking f).bay x = s.bay x := rfl

/-! ### `recomputeAttn` -/

@[simp] theorem State.recomputeAttn_now (s : State) : (s.recomputeAttn).now = s.now := rfl
@[simp] theorem State.recomputeAttn_bays (s : State) : (s.recomputeAttn).bays = s.bays := rfl
@[simp] theorem State.recomputeAttn_arbiter (s : State) : (s.recomputeAttn).arbiter = s.arbiter := rfl
@[simp] theorem State.recomputeAttn_scheduler (s : State) : (s.recomputeAttn).scheduler = s.scheduler := rfl
@[simp] theorem State.recomputeAttn_motion (s : State) : (s.recomputeAttn).motion = s.motion := rfl
@[simp] theorem State.recomputeAttn_supply (s : State) : (s.recomputeAttn).supply = s.supply := rfl
@[simp] theorem State.recomputeAttn_transit (s : State) : (s.recomputeAttn).transit = s.transit := rfl
@[simp] theorem State.recomputeAttn_store (s : State) : (s.recomputeAttn).store = s.store := rfl
@[simp] theorem State.recomputeAttn_link (s : State) : (s.recomputeAttn).link = s.link := rfl
@[simp] theorem State.recomputeAttn_freeTick (s : State) : (s.recomputeAttn).freeTick = s.freeTick := rfl
@[simp] theorem State.recomputeAttn_pending (s : State) : (s.recomputeAttn).pending = s.pending := rfl
@[simp] theorem State.recomputeAttn_bay (s : State) (x : BayNo) : (s.recomputeAttn).bay x = s.bay x := rfl
@[simp] theorem State.recomputeAttn_settings (s : State) : (s.recomputeAttn).settings = s.settings := rfl

/-! ### `addNotice` -/

@[simp] theorem State.addNotice_now (s : State) (src : Source) (f : Notice → Notice) : (s.addNotice src f).now = s.now := rfl
@[simp] theorem State.addNotice_bays (s : State) (src : Source) (f : Notice → Notice) : (s.addNotice src f).bays = s.bays := rfl
@[simp] theorem State.addNotice_arbiter (s : State) (src : Source) (f : Notice → Notice) : (s.addNotice src f).arbiter = s.arbiter := rfl
@[simp] theorem State.addNotice_scheduler (s : State) (src : Source) (f : Notice → Notice) : (s.addNotice src f).scheduler = s.scheduler := rfl
@[simp] theorem State.addNotice_motion (s : State) (src : Source) (f : Notice → Notice) : (s.addNotice src f).motion = s.motion := rfl
@[simp] theorem State.addNotice_supply (s : State) (src : Source) (f : Notice → Notice) : (s.addNotice src f).supply = s.supply := rfl
@[simp] theorem State.addNotice_transit (s : State) (src : Source) (f : Notice → Notice) : (s.addNotice src f).transit = s.transit := rfl
@[simp] theorem State.addNotice_faults (s : State) (src : Source) (f : Notice → Notice) : (s.addNotice src f).faults = s.faults := rfl
@[simp] theorem State.addNotice_store (s : State) (src : Source) (f : Notice → Notice) : (s.addNotice src f).store = s.store := rfl
@[simp] theorem State.addNotice_freeTick (s : State) (src : Source) (f : Notice → Notice) : (s.addNotice src f).freeTick = s.freeTick := rfl
@[simp] theorem State.addNotice_pending (s : State) (src : Source) (f : Notice → Notice) : (s.addNotice src f).pending = s.pending := rfl
@[simp] theorem State.addNotice_bay (s : State) (src : Source) (f : Notice → Notice) (x : BayNo) : (s.addNotice src f).bay x = s.bay x := rfl
@[simp] theorem State.addNotice_settings (s : State) (src : Source) (f : Notice → Notice) : (s.addNotice src f).settings = s.settings := rfl

/-! ### `addBayEvent` -/

@[simp] theorem State.addBayEvent_now (s : State) (b : BayNo) (e : BayEvent) : (s.addBayEvent b e).now = s.now := rfl
@[simp] theorem State.addBayEvent_bays (s : State) (b : BayNo) (e : BayEvent) : (s.addBayEvent b e).bays = s.bays := rfl
@[simp] theorem State.addBayEvent_arbiter (s : State) (b : BayNo) (e : BayEvent) : (s.addBayEvent b e).arbiter = s.arbiter := rfl
@[simp] theorem State.addBayEvent_scheduler (s : State) (b : BayNo) (e : BayEvent) : (s.addBayEvent b e).scheduler = s.scheduler := rfl
@[simp] theorem State.addBayEvent_motion (s : State) (b : BayNo) (e : BayEvent) : (s.addBayEvent b e).motion = s.motion := rfl
@[simp] theorem State.addBayEvent_supply (s : State) (b : BayNo) (e : BayEvent) : (s.addBayEvent b e).supply = s.supply := rfl
@[simp] theorem State.addBayEvent_transit (s : State) (b : BayNo) (e : BayEvent) : (s.addBayEvent b e).transit = s.transit := rfl
@[simp] theorem State.addBayEvent_faults (s : State) (b : BayNo) (e : BayEvent) : (s.addBayEvent b e).faults = s.faults := rfl
@[simp] theorem State.addBayEvent_store (s : State) (b : BayNo) (e : BayEvent) : (s.addBayEvent b e).store = s.store := rfl
@[simp] theorem State.addBayEvent_freeTick (s : State) (b : BayNo) (e : BayEvent) : (s.addBayEvent b e).freeTick = s.freeTick := rfl
@[simp] theorem State.addBayEvent_pending (s : State) (b : BayNo) (e : BayEvent) : (s.addBayEvent b e).pending = s.pending := rfl
@[simp] theorem State.addBayEvent_bay (s : State) (b : BayNo) (e : BayEvent) (x : BayNo) : (s.addBayEvent b e).bay x = s.bay x := rfl
@[simp] theorem State.addBayEvent_settings (s : State) (b : BayNo) (e : BayEvent) : (s.addBayEvent b e).settings = s.settings := rfl

/-! ### `addCaseEvent` -/

@[simp] theorem State.addCaseEvent_now (s : State) (e : CaseEvent) : (s.addCaseEvent e).now = s.now := rfl
@[simp] theorem State.addCaseEvent_bays (s : State) (e : CaseEvent) : (s.addCaseEvent e).bays = s.bays := rfl
@[simp] theorem State.addCaseEvent_arbiter (s : State) (e : CaseEvent) : (s.addCaseEvent e).arbiter = s.arbiter := rfl
@[simp] theorem State.addCaseEvent_scheduler (s : State) (e : CaseEvent) : (s.addCaseEvent e).scheduler = s.scheduler := rfl
@[simp] theorem State.addCaseEvent_motion (s : State) (e : CaseEvent) : (s.addCaseEvent e).motion = s.motion := rfl
@[simp] theorem State.addCaseEvent_supply (s : State) (e : CaseEvent) : (s.addCaseEvent e).supply = s.supply := rfl
@[simp] theorem State.addCaseEvent_transit (s : State) (e : CaseEvent) : (s.addCaseEvent e).transit = s.transit := rfl
@[simp] theorem State.addCaseEvent_faults (s : State) (e : CaseEvent) : (s.addCaseEvent e).faults = s.faults := rfl
@[simp] theorem State.addCaseEvent_store (s : State) (e : CaseEvent) : (s.addCaseEvent e).store = s.store := rfl
@[simp] theorem State.addCaseEvent_freeTick (s : State) (e : CaseEvent) : (s.addCaseEvent e).freeTick = s.freeTick := rfl
@[simp] theorem State.addCaseEvent_pending (s : State) (e : CaseEvent) : (s.addCaseEvent e).pending = s.pending := rfl
@[simp] theorem State.addCaseEvent_bay (s : State) (e : CaseEvent) (x : BayNo) : (s.addCaseEvent e).bay x = s.bay x := rfl
@[simp] theorem State.addCaseEvent_settings (s : State) (e : CaseEvent) : (s.addCaseEvent e).settings = s.settings := rfl

/-! ### `transmit` -/

@[simp] theorem State.transmit_now (s : State) (l : List Byte) (r : Bool) : (s.transmit l r).now = s.now := rfl
@[simp] theorem State.transmit_bays (s : State) (l : List Byte) (r : Bool) : (s.transmit l r).bays = s.bays := rfl
@[simp] theorem State.transmit_arbiter (s : State) (l : List Byte) (r : Bool) : (s.transmit l r).arbiter = s.arbiter := rfl
@[simp] theorem State.transmit_scheduler (s : State) (l : List Byte) (r : Bool) : (s.transmit l r).scheduler = s.scheduler := rfl
@[simp] theorem State.transmit_motion (s : State) (l : List Byte) (r : Bool) : (s.transmit l r).motion = s.motion := rfl
@[simp] theorem State.transmit_supply (s : State) (l : List Byte) (r : Bool) : (s.transmit l r).supply = s.supply := rfl
@[simp] theorem State.transmit_transit (s : State) (l : List Byte) (r : Bool) : (s.transmit l r).transit = s.transit := rfl
@[simp] theorem State.transmit_faults (s : State) (l : List Byte) (r : Bool) : (s.transmit l r).faults = s.faults := rfl
@[simp] theorem State.transmit_store (s : State) (l : List Byte) (r : Bool) : (s.transmit l r).store = s.store := rfl
@[simp] theorem State.transmit_freeTick (s : State) (l : List Byte) (r : Bool) : (s.transmit l r).freeTick = s.freeTick := rfl
@[simp] theorem State.transmit_pending (s : State) (l : List Byte) (r : Bool) : (s.transmit l r).pending = s.pending := rfl
@[simp] theorem State.transmit_bay (s : State) (l : List Byte) (r : Bool) (x : BayNo) : (s.transmit l r).bay x = s.bay x := rfl
@[simp] theorem State.transmit_settings (s : State) (l : List Byte) (r : Bool) : (s.transmit l r).settings = s.settings := rfl

/-! ### `replyWith` -/

@[simp] theorem State.replyWith_now (s : State) (k tag : Byte) (st : Status) (body : List Byte) : (s.replyWith k tag st body).now = s.now := rfl
@[simp] theorem State.replyWith_bays (s : State) (k tag : Byte) (st : Status) (body : List Byte) : (s.replyWith k tag st body).bays = s.bays := rfl
@[simp] theorem State.replyWith_arbiter (s : State) (k tag : Byte) (st : Status) (body : List Byte) : (s.replyWith k tag st body).arbiter = s.arbiter := rfl
@[simp] theorem State.replyWith_scheduler (s : State) (k tag : Byte) (st : Status) (body : List Byte) : (s.replyWith k tag st body).scheduler = s.scheduler := rfl
@[simp] theorem State.replyWith_motion (s : State) (k tag : Byte) (st : Status) (body : List Byte) : (s.replyWith k tag st body).motion = s.motion := rfl
@[simp] theorem State.replyWith_supply (s : State) (k tag : Byte) (st : Status) (body : List Byte) : (s.replyWith k tag st body).supply = s.supply := rfl
@[simp] theorem State.replyWith_transit (s : State) (k tag : Byte) (st : Status) (body : List Byte) : (s.replyWith k tag st body).transit = s.transit := rfl
@[simp] theorem State.replyWith_faults (s : State) (k tag : Byte) (st : Status) (body : List Byte) : (s.replyWith k tag st body).faults = s.faults := rfl
@[simp] theorem State.replyWith_store (s : State) (k tag : Byte) (st : Status) (body : List Byte) : (s.replyWith k tag st body).store = s.store := rfl
@[simp] theorem State.replyWith_freeTick (s : State) (k tag : Byte) (st : Status) (body : List Byte) : (s.replyWith k tag st body).freeTick = s.freeTick := rfl
@[simp] theorem State.replyWith_pending (s : State) (k tag : Byte) (st : Status) (body : List Byte) : (s.replyWith k tag st body).pending = s.pending := rfl
@[simp] theorem State.replyWith_bay (s : State) (k tag : Byte) (st : Status) (body : List Byte) (x : BayNo) : (s.replyWith k tag st body).bay x = s.bay x := rfl
@[simp] theorem State.replyWith_settings (s : State) (k tag : Byte) (st : Status) (body : List Byte) : (s.replyWith k tag st body).settings = s.settings := rfl

/-! ### `answer` -/

@[simp] theorem State.answer_now (s : State) (k : ReqKind) (r : Req) (st : Status) (body : List Byte) : (s.answer k r st body).now = s.now := rfl
@[simp] theorem State.answer_bays (s : State) (k : ReqKind) (r : Req) (st : Status) (body : List Byte) : (s.answer k r st body).bays = s.bays := rfl
@[simp] theorem State.answer_arbiter (s : State) (k : ReqKind) (r : Req) (st : Status) (body : List Byte) : (s.answer k r st body).arbiter = s.arbiter := rfl
@[simp] theorem State.answer_scheduler (s : State) (k : ReqKind) (r : Req) (st : Status) (body : List Byte) : (s.answer k r st body).scheduler = s.scheduler := rfl
@[simp] theorem State.answer_motion (s : State) (k : ReqKind) (r : Req) (st : Status) (body : List Byte) : (s.answer k r st body).motion = s.motion := rfl
@[simp] theorem State.answer_supply (s : State) (k : ReqKind) (r : Req) (st : Status) (body : List Byte) : (s.answer k r st body).supply = s.supply := rfl
@[simp] theorem State.answer_transit (s : State) (k : ReqKind) (r : Req) (st : Status) (body : List Byte) : (s.answer k r st body).transit = s.transit := rfl
@[simp] theorem State.answer_faults (s : State) (k : ReqKind) (r : Req) (st : Status) (body : List Byte) : (s.answer k r st body).faults = s.faults := rfl
@[simp] theorem State.answer_store (s : State) (k : ReqKind) (r : Req) (st : Status) (body : List Byte) : (s.answer k r st body).store = s.store := rfl
@[simp] theorem State.answer_freeTick (s : State) (k : ReqKind) (r : Req) (st : Status) (body : List Byte) : (s.answer k r st body).freeTick = s.freeTick := rfl
@[simp] theorem State.answer_pending (s : State) (k : ReqKind) (r : Req) (st : Status) (body : List Byte) : (s.answer k r st body).pending = s.pending := rfl
@[simp] theorem State.answer_bay (s : State) (k : ReqKind) (r : Req) (st : Status) (body : List Byte) (x : BayNo) : (s.answer k r st body).bay x = s.bay x := rfl
@[simp] theorem State.answer_settings (s : State) (k : ReqKind) (r : Req) (st : Status) (body : List Byte) : (s.answer k r st body).settings = s.settings := rfl

/-! ### `hunt` -/

@[simp] theorem State.hunt_now (s : State) : (s.hunt).now = s.now := rfl
@[simp] theorem State.hunt_bays (s : State) : (s.hunt).bays = s.bays := rfl
@[simp] theorem State.hunt_arbiter (s : State) : (s.hunt).arbiter = s.arbiter := rfl
@[simp] theorem State.hunt_scheduler (s : State) : (s.hunt).scheduler = s.scheduler := rfl
@[simp] theorem State.hunt_motion (s : State) : (s.hunt).motion = s.motion := rfl
@[simp] theorem State.hunt_supply (s : State) : (s.hunt).supply = s.supply := rfl
@[simp] theorem State.hunt_transit (s : State) : (s.hunt).transit = s.transit := rfl
@[simp] theorem State.hunt_faults (s : State) : (s.hunt).faults = s.faults := rfl
@[simp] theorem State.hunt_store (s : State) : (s.hunt).store = s.store := rfl
@[simp] theorem State.hunt_freeTick (s : State) : (s.hunt).freeTick = s.freeTick := rfl
@[simp] theorem State.hunt_pending (s : State) : (s.hunt).pending = s.pending := rfl
@[simp] theorem State.hunt_bay (s : State) (x : BayNo) : (s.hunt).bay x = s.bay x := rfl
@[simp] theorem State.hunt_settings (s : State) : (s.hunt).settings = s.settings := rfl

/-! ### `collect` -/

@[simp] theorem State.collect_now (s : State) (l : List Byte) : (s.collect l).now = s.now := rfl
@[simp] theorem State.collect_bays (s : State) (l : List Byte) : (s.collect l).bays = s.bays := rfl
@[simp] theorem State.collect_arbiter (s : State) (l : List Byte) : (s.collect l).arbiter = s.arbiter := rfl
@[simp] theorem State.collect_scheduler (s : State) (l : List Byte) : (s.collect l).scheduler = s.scheduler := rfl
@[simp] theorem State.collect_motion (s : State) (l : List Byte) : (s.collect l).motion = s.motion := rfl
@[simp] theorem State.collect_supply (s : State) (l : List Byte) : (s.collect l).supply = s.supply := rfl
@[simp] theorem State.collect_transit (s : State) (l : List Byte) : (s.collect l).transit = s.transit := rfl
@[simp] theorem State.collect_faults (s : State) (l : List Byte) : (s.collect l).faults = s.faults := rfl
@[simp] theorem State.collect_store (s : State) (l : List Byte) : (s.collect l).store = s.store := rfl
@[simp] theorem State.collect_freeTick (s : State) (l : List Byte) : (s.collect l).freeTick = s.freeTick := rfl
@[simp] theorem State.collect_pending (s : State) (l : List Byte) : (s.collect l).pending = s.pending := rfl
@[simp] theorem State.collect_bay (s : State) (l : List Byte) (x : BayNo) : (s.collect l).bay x = s.bay x := rfl
@[simp] theorem State.collect_settings (s : State) (l : List Byte) : (s.collect l).settings = s.settings := rfl

/-! ### `startQuiet` -/

@[simp] theorem State.startQuiet_now (s : State) : (s.startQuiet).now = s.now := rfl
@[simp] theorem State.startQuiet_bays (s : State) : (s.startQuiet).bays = s.bays := rfl
@[simp] theorem State.startQuiet_arbiter (s : State) : (s.startQuiet).arbiter = s.arbiter := rfl
@[simp] theorem State.startQuiet_scheduler (s : State) : (s.startQuiet).scheduler = s.scheduler := rfl
@[simp] theorem State.startQuiet_motion (s : State) : (s.startQuiet).motion = s.motion := rfl
@[simp] theorem State.startQuiet_supply (s : State) : (s.startQuiet).supply = s.supply := rfl
@[simp] theorem State.startQuiet_faults (s : State) : (s.startQuiet).faults = s.faults := rfl
@[simp] theorem State.startQuiet_store (s : State) : (s.startQuiet).store = s.store := rfl
@[simp] theorem State.startQuiet_link (s : State) : (s.startQuiet).link = s.link := rfl
@[simp] theorem State.startQuiet_freeTick (s : State) : (s.startQuiet).freeTick = s.freeTick := rfl
@[simp] theorem State.startQuiet_pending (s : State) : (s.startQuiet).pending = s.pending := rfl
@[simp] theorem State.startQuiet_bay (s : State) (x : BayNo) : (s.startQuiet).bay x = s.bay x := rfl
@[simp] theorem State.startQuiet_settings (s : State) : (s.startQuiet).settings = s.settings := rfl

/-! ### `enterQuietly` -/

@[simp] theorem State.enterQuietly_now (s : State) (b : BayNo) (st : BayState) : (s.enterQuietly b st).now = s.now := rfl
@[simp] theorem State.enterQuietly_arbiter (s : State) (b : BayNo) (st : BayState) : (s.enterQuietly b st).arbiter = s.arbiter := rfl
@[simp] theorem State.enterQuietly_scheduler (s : State) (b : BayNo) (st : BayState) : (s.enterQuietly b st).scheduler = s.scheduler := rfl
@[simp] theorem State.enterQuietly_motion (s : State) (b : BayNo) (st : BayState) : (s.enterQuietly b st).motion = s.motion := rfl
@[simp] theorem State.enterQuietly_supply (s : State) (b : BayNo) (st : BayState) : (s.enterQuietly b st).supply = s.supply := rfl
@[simp] theorem State.enterQuietly_transit (s : State) (b : BayNo) (st : BayState) : (s.enterQuietly b st).transit = s.transit := rfl
@[simp] theorem State.enterQuietly_faults (s : State) (b : BayNo) (st : BayState) : (s.enterQuietly b st).faults = s.faults := rfl
@[simp] theorem State.enterQuietly_store (s : State) (b : BayNo) (st : BayState) : (s.enterQuietly b st).store = s.store := rfl
@[simp] theorem State.enterQuietly_link (s : State) (b : BayNo) (st : BayState) : (s.enterQuietly b st).link = s.link := rfl
@[simp] theorem State.enterQuietly_freeTick (s : State) (b : BayNo) (st : BayState) : (s.enterQuietly b st).freeTick = s.freeTick := rfl
@[simp] theorem State.enterQuietly_pending (s : State) (b : BayNo) (st : BayState) : (s.enterQuietly b st).pending = s.pending := rfl
@[simp] theorem State.enterQuietly_settings (s : State) (b : BayNo) (st : BayState) : (s.enterQuietly b st).settings = s.settings := rfl

/-! ### `setIntent` -/

@[simp] theorem State.setIntent_now (s : State) (b : BayNo) (i : Intent) : (s.setIntent b i).now = s.now := rfl
@[simp] theorem State.setIntent_arbiter (s : State) (b : BayNo) (i : Intent) : (s.setIntent b i).arbiter = s.arbiter := rfl
@[simp] theorem State.setIntent_scheduler (s : State) (b : BayNo) (i : Intent) : (s.setIntent b i).scheduler = s.scheduler := rfl
@[simp] theorem State.setIntent_motion (s : State) (b : BayNo) (i : Intent) : (s.setIntent b i).motion = s.motion := rfl
@[simp] theorem State.setIntent_supply (s : State) (b : BayNo) (i : Intent) : (s.setIntent b i).supply = s.supply := rfl
@[simp] theorem State.setIntent_transit (s : State) (b : BayNo) (i : Intent) : (s.setIntent b i).transit = s.transit := rfl
@[simp] theorem State.setIntent_faults (s : State) (b : BayNo) (i : Intent) : (s.setIntent b i).faults = s.faults := rfl
@[simp] theorem State.setIntent_store (s : State) (b : BayNo) (i : Intent) : (s.setIntent b i).store = s.store := rfl
@[simp] theorem State.setIntent_link (s : State) (b : BayNo) (i : Intent) : (s.setIntent b i).link = s.link := rfl
@[simp] theorem State.setIntent_freeTick (s : State) (b : BayNo) (i : Intent) : (s.setIntent b i).freeTick = s.freeTick := rfl
@[simp] theorem State.setIntent_pending (s : State) (b : BayNo) (i : Intent) : (s.setIntent b i).pending = s.pending := rfl
@[simp] theorem State.setIntent_settings (s : State) (b : BayNo) (i : Intent) : (s.setIntent b i).settings = s.settings := rfl

/-! ### `setLoadOnArrival` -/

@[simp] theorem State.setLoadOnArrival_now (s : State) (b : BayNo) (v : Bool) : (s.setLoadOnArrival b v).now = s.now := rfl
@[simp] theorem State.setLoadOnArrival_arbiter (s : State) (b : BayNo) (v : Bool) : (s.setLoadOnArrival b v).arbiter = s.arbiter := rfl
@[simp] theorem State.setLoadOnArrival_scheduler (s : State) (b : BayNo) (v : Bool) : (s.setLoadOnArrival b v).scheduler = s.scheduler := rfl
@[simp] theorem State.setLoadOnArrival_motion (s : State) (b : BayNo) (v : Bool) : (s.setLoadOnArrival b v).motion = s.motion := rfl
@[simp] theorem State.setLoadOnArrival_supply (s : State) (b : BayNo) (v : Bool) : (s.setLoadOnArrival b v).supply = s.supply := rfl
@[simp] theorem State.setLoadOnArrival_transit (s : State) (b : BayNo) (v : Bool) : (s.setLoadOnArrival b v).transit = s.transit := rfl
@[simp] theorem State.setLoadOnArrival_faults (s : State) (b : BayNo) (v : Bool) : (s.setLoadOnArrival b v).faults = s.faults := rfl
@[simp] theorem State.setLoadOnArrival_store (s : State) (b : BayNo) (v : Bool) : (s.setLoadOnArrival b v).store = s.store := rfl
@[simp] theorem State.setLoadOnArrival_link (s : State) (b : BayNo) (v : Bool) : (s.setLoadOnArrival b v).link = s.link := rfl
@[simp] theorem State.setLoadOnArrival_freeTick (s : State) (b : BayNo) (v : Bool) : (s.setLoadOnArrival b v).freeTick = s.freeTick := rfl
@[simp] theorem State.setLoadOnArrival_pending (s : State) (b : BayNo) (v : Bool) : (s.setLoadOnArrival b v).pending = s.pending := rfl
@[simp] theorem State.setLoadOnArrival_settings (s : State) (b : BayNo) (v : Bool) : (s.setLoadOnArrival b v).settings = s.settings := rfl

/-! ### `dropEntry` -/

@[simp] theorem State.dropEntry_now (s : State) (b : BayNo) : (s.dropEntry b).now = s.now := rfl
@[simp] theorem State.dropEntry_bays (s : State) (b : BayNo) : (s.dropEntry b).bays = s.bays := rfl
@[simp] theorem State.dropEntry_scheduler (s : State) (b : BayNo) : (s.dropEntry b).scheduler = s.scheduler := rfl
@[simp] theorem State.dropEntry_motion (s : State) (b : BayNo) : (s.dropEntry b).motion = s.motion := rfl
@[simp] theorem State.dropEntry_supply (s : State) (b : BayNo) : (s.dropEntry b).supply = s.supply := rfl
@[simp] theorem State.dropEntry_transit (s : State) (b : BayNo) : (s.dropEntry b).transit = s.transit := rfl
@[simp] theorem State.dropEntry_faults (s : State) (b : BayNo) : (s.dropEntry b).faults = s.faults := rfl
@[simp] theorem State.dropEntry_store (s : State) (b : BayNo) : (s.dropEntry b).store = s.store := rfl
@[simp] theorem State.dropEntry_link (s : State) (b : BayNo) : (s.dropEntry b).link = s.link := rfl
@[simp] theorem State.dropEntry_freeTick (s : State) (b : BayNo) : (s.dropEntry b).freeTick = s.freeTick := rfl
@[simp] theorem State.dropEntry_pending (s : State) (b : BayNo) : (s.dropEntry b).pending = s.pending := rfl
@[simp] theorem State.dropEntry_bay (s : State) (b : BayNo) (x : BayNo) : (s.dropEntry b).bay x = s.bay x := rfl
@[simp] theorem State.dropEntry_settings (s : State) (b : BayNo) : (s.dropEntry b).settings = s.settings := rfl

/-! ### `takeGrant` -/

@[simp] theorem State.takeGrant_now (s : State) (e : SpinEntry) : (s.takeGrant e).now = s.now := rfl
@[simp] theorem State.takeGrant_bays (s : State) (e : SpinEntry) : (s.takeGrant e).bays = s.bays := rfl
@[simp] theorem State.takeGrant_scheduler (s : State) (e : SpinEntry) : (s.takeGrant e).scheduler = s.scheduler := rfl
@[simp] theorem State.takeGrant_motion (s : State) (e : SpinEntry) : (s.takeGrant e).motion = s.motion := rfl
@[simp] theorem State.takeGrant_supply (s : State) (e : SpinEntry) : (s.takeGrant e).supply = s.supply := rfl
@[simp] theorem State.takeGrant_transit (s : State) (e : SpinEntry) : (s.takeGrant e).transit = s.transit := rfl
@[simp] theorem State.takeGrant_faults (s : State) (e : SpinEntry) : (s.takeGrant e).faults = s.faults := rfl
@[simp] theorem State.takeGrant_store (s : State) (e : SpinEntry) : (s.takeGrant e).store = s.store := rfl
@[simp] theorem State.takeGrant_link (s : State) (e : SpinEntry) : (s.takeGrant e).link = s.link := rfl
@[simp] theorem State.takeGrant_freeTick (s : State) (e : SpinEntry) : (s.takeGrant e).freeTick = s.freeTick := rfl
@[simp] theorem State.takeGrant_pending (s : State) (e : SpinEntry) : (s.takeGrant e).pending = s.pending := rfl
@[simp] theorem State.takeGrant_bay (s : State) (e : SpinEntry) (x : BayNo) : (s.takeGrant e).bay x = s.bay x := rfl
@[simp] theorem State.takeGrant_settings (s : State) (e : SpinEntry) : (s.takeGrant e).settings = s.settings := rfl

/-! ### `releaseGrant` -/

@[simp] theorem State.releaseGrant_now (s : State) (b : BayNo) : (s.releaseGrant b).now = s.now := rfl
@[simp] theorem State.releaseGrant_bays (s : State) (b : BayNo) : (s.releaseGrant b).bays = s.bays := rfl
@[simp] theorem State.releaseGrant_scheduler (s : State) (b : BayNo) : (s.releaseGrant b).scheduler = s.scheduler := rfl
@[simp] theorem State.releaseGrant_motion (s : State) (b : BayNo) : (s.releaseGrant b).motion = s.motion := rfl
@[simp] theorem State.releaseGrant_supply (s : State) (b : BayNo) : (s.releaseGrant b).supply = s.supply := rfl
@[simp] theorem State.releaseGrant_transit (s : State) (b : BayNo) : (s.releaseGrant b).transit = s.transit := rfl
@[simp] theorem State.releaseGrant_faults (s : State) (b : BayNo) : (s.releaseGrant b).faults = s.faults := rfl
@[simp] theorem State.releaseGrant_store (s : State) (b : BayNo) : (s.releaseGrant b).store = s.store := rfl
@[simp] theorem State.releaseGrant_link (s : State) (b : BayNo) : (s.releaseGrant b).link = s.link := rfl
@[simp] theorem State.releaseGrant_freeTick (s : State) (b : BayNo) : (s.releaseGrant b).freeTick = s.freeTick := rfl
@[simp] theorem State.releaseGrant_pending (s : State) (b : BayNo) : (s.releaseGrant b).pending = s.pending := rfl
@[simp] theorem State.releaseGrant_bay (s : State) (b : BayNo) (x : BayNo) : (s.releaseGrant b).bay x = s.bay x := rfl
@[simp] theorem State.releaseGrant_settings (s : State) (b : BayNo) : (s.releaseGrant b).settings = s.settings := rfl

/-! ### `dropUnload` -/

@[simp] theorem State.dropUnload_now (s : State) (b : BayNo) : (s.dropUnload b).now = s.now := rfl
@[simp] theorem State.dropUnload_bays (s : State) (b : BayNo) : (s.dropUnload b).bays = s.bays := rfl
@[simp] theorem State.dropUnload_arbiter (s : State) (b : BayNo) : (s.dropUnload b).arbiter = s.arbiter := rfl
@[simp] theorem State.dropUnload_motion (s : State) (b : BayNo) : (s.dropUnload b).motion = s.motion := rfl
@[simp] theorem State.dropUnload_supply (s : State) (b : BayNo) : (s.dropUnload b).supply = s.supply := rfl
@[simp] theorem State.dropUnload_transit (s : State) (b : BayNo) : (s.dropUnload b).transit = s.transit := rfl
@[simp] theorem State.dropUnload_faults (s : State) (b : BayNo) : (s.dropUnload b).faults = s.faults := rfl
@[simp] theorem State.dropUnload_store (s : State) (b : BayNo) : (s.dropUnload b).store = s.store := rfl
@[simp] theorem State.dropUnload_link (s : State) (b : BayNo) : (s.dropUnload b).link = s.link := rfl
@[simp] theorem State.dropUnload_freeTick (s : State) (b : BayNo) : (s.dropUnload b).freeTick = s.freeTick := rfl
@[simp] theorem State.dropUnload_pending (s : State) (b : BayNo) : (s.dropUnload b).pending = s.pending := rfl
@[simp] theorem State.dropUnload_bay (s : State) (b : BayNo) (x : BayNo) : (s.dropUnload b).bay x = s.bay x := rfl
@[simp] theorem State.dropUnload_settings (s : State) (b : BayNo) : (s.dropUnload b).settings = s.settings := rfl

/-! ### `lowerUnloading` -/

@[simp] theorem State.lowerUnloading_now (s : State) : (s.lowerUnloading).now = s.now := rfl
@[simp] theorem State.lowerUnloading_bays (s : State) : (s.lowerUnloading).bays = s.bays := rfl
@[simp] theorem State.lowerUnloading_arbiter (s : State) : (s.lowerUnloading).arbiter = s.arbiter := rfl
@[simp] theorem State.lowerUnloading_motion (s : State) : (s.lowerUnloading).motion = s.motion := rfl
@[simp] theorem State.lowerUnloading_supply (s : State) : (s.lowerUnloading).supply = s.supply := rfl
@[simp] theorem State.lowerUnloading_transit (s : State) : (s.lowerUnloading).transit = s.transit := rfl
@[simp] theorem State.lowerUnloading_faults (s : State) : (s.lowerUnloading).faults = s.faults := rfl
@[simp] theorem State.lowerUnloading_store (s : State) : (s.lowerUnloading).store = s.store := rfl
@[simp] theorem State.lowerUnloading_link (s : State) : (s.lowerUnloading).link = s.link := rfl
@[simp] theorem State.lowerUnloading_freeTick (s : State) : (s.lowerUnloading).freeTick = s.freeTick := rfl
@[simp] theorem State.lowerUnloading_pending (s : State) : (s.lowerUnloading).pending = s.pending := rfl
@[simp] theorem State.lowerUnloading_bay (s : State) (x : BayNo) : (s.lowerUnloading).bay x = s.bay x := rfl
@[simp] theorem State.lowerUnloading_settings (s : State) : (s.lowerUnloading).settings = s.settings := rfl

/-! ### `restartDebounce` -/

@[simp] theorem State.restartDebounce_now (s : State) (b : BayNo) : (s.restartDebounce b).now = s.now := rfl
@[simp] theorem State.restartDebounce_arbiter (s : State) (b : BayNo) : (s.restartDebounce b).arbiter = s.arbiter := rfl
@[simp] theorem State.restartDebounce_scheduler (s : State) (b : BayNo) : (s.restartDebounce b).scheduler = s.scheduler := rfl
@[simp] theorem State.restartDebounce_motion (s : State) (b : BayNo) : (s.restartDebounce b).motion = s.motion := rfl
@[simp] theorem State.restartDebounce_supply (s : State) (b : BayNo) : (s.restartDebounce b).supply = s.supply := rfl
@[simp] theorem State.restartDebounce_transit (s : State) (b : BayNo) : (s.restartDebounce b).transit = s.transit := rfl
@[simp] theorem State.restartDebounce_faults (s : State) (b : BayNo) : (s.restartDebounce b).faults = s.faults := rfl
@[simp] theorem State.restartDebounce_store (s : State) (b : BayNo) : (s.restartDebounce b).store = s.store := rfl
@[simp] theorem State.restartDebounce_link (s : State) (b : BayNo) : (s.restartDebounce b).link = s.link := rfl
@[simp] theorem State.restartDebounce_freeTick (s : State) (b : BayNo) : (s.restartDebounce b).freeTick = s.freeTick := rfl
@[simp] theorem State.restartDebounce_pending (s : State) (b : BayNo) : (s.restartDebounce b).pending = s.pending := rfl
@[simp] theorem State.restartDebounce_settings (s : State) (b : BayNo) : (s.restartDebounce b).settings = s.settings := rfl

/-! ### What each update writes -/

@[simp] theorem State.elapse_writes_now (s : State) (dt : Nat) : (s.elapse dt).now = s.now + dt := rfl
@[simp] theorem State.advanceTo_writes_now (s : State) (t : Nat) : (s.advanceTo t).now = max s.now t := rfl
@[simp] theorem State.toMark_writes_now (s : State) (p e : Nat) : (s.toMark p e).now = markAt p (max s.now e) := rfl
@[simp] theorem State.modArbiter_writes_arbiter (s : State) (f : Arbiter → Arbiter) : (s.modArbiter f).arbiter = f s.arbiter := rfl
@[simp] theorem State.modScheduler_writes_scheduler (s : State) (f : Scheduler → Scheduler) : (s.modScheduler f).scheduler = f s.scheduler := rfl
@[simp] theorem State.modMotion_writes_motion (s : State) (f : Motion → Motion) : (s.modMotion f).motion = f s.motion := rfl
@[simp] theorem State.modSupply_writes_supply (s : State) (f : Supply → Supply) : (s.modSupply f).supply = f s.supply := rfl
@[simp] theorem State.modTransit_writes_transit (s : State) (f : Transit → Transit) : (s.modTransit f).transit = f s.transit := rfl
@[simp] theorem State.modLink_writes_link (s : State) (f : Link → Link) : (s.modLink f).link = f s.link := rfl
@[simp] theorem State.modStore_writes_store (s : State) (f : Store → Store) : (s.modStore f).store = f s.store := rfl
@[simp] theorem State.modWorking_writes_store (s : State) (f : WorkingSettings → WorkingSettings) : (s.modWorking f).store = { s.store with working := f s.store.working } := rfl
@[simp] theorem State.recomputeAttn_writes_faults (s : State) : (s.recomputeAttn).faults = { s.faults with attn := s.anyPending } := rfl
@[simp] theorem State.addNotice_writes_link (s : State) (src : Source) (f : Notice → Notice) : (s.addNotice src f).link = { s.link with notices := addToNotices src (s.sourceState true src) f s.link.notices } := rfl
@[simp] theorem State.hunt_writes_link (s : State) : (s.hunt).link = { s.link with rx := .hunting, gapDue := none } := rfl
@[simp] theorem State.collect_writes_link (s : State) (l : List Byte) : (s.collect l).link = { s.link with rx := .inside l, gapDue := some (s.now + byteGap) } := rfl

/-! ### Bay records -/

/-- A bay changed reads as the changed record. -/
@[simp] theorem State.bay_modBay_self (s : State) (b : BayNo) (f : BayRec → BayRec) :
    (s.modBay b f).bay b = f (s.bay b) := by
  simp [State.bay, State.modBay]

/-- Another bay reads as before. -/
theorem State.bay_modBay_ne (s : State) {b x : BayNo} (f : BayRec → BayRec) (h : x ≠ b) :
    (s.modBay b f).bay x = s.bay x := by
  have hv : b.val ≠ x.val := fun e => h (Fin.ext e.symm)
  simp [State.bay, State.modBay, Vector.getElem_set_ne, hv]

/-- A changed bay and another, in one equation. -/
theorem State.bay_modBay (s : State) (b x : BayNo) (f : BayRec → BayRec) :
    (s.modBay b f).bay x = if x = b then f (s.bay x) else s.bay x := by
  by_cases h : x = b
  · subst h; simp
  · simp [h, State.bay_modBay_ne s f h]

/-- Every bay changed. -/
@[simp] theorem State.bay_modBays (s : State) (x : BayNo) (f : BayRec → BayRec) :
    (s.modBays f).bay x = f (s.bay x) := by
  simp [State.bay, State.modBays]

/-- A bay that changes its state: its record (R2, R3, R15). -/
@[simp] theorem State.bay_enterQuietly_self (s : State) (b : BayNo) (st : BayState) :
    (s.enterQuietly b st).bay b = (s.bay b).enter st (s.governing b) s.now := by
  simp [State.enterQuietly]

/-- Another bay reads as before. -/
theorem State.bay_enterQuietly_ne (s : State) {b x : BayNo} (st : BayState) (h : x ≠ b) :
    (s.enterQuietly b st).bay x = s.bay x := State.bay_modBay_ne s _ h

end Sys2Proof.Machine
end

