-- ==== Sys2Proof/Laws/Shared.lean ====
section
/-! SUPPORT. What each shared operation can do, said once: the blocks it leaves, the bays it leaves, and what it does to
the rest. -/

namespace Sys2Proof.Machine

/-! ### Entries of a bay -/

@[simp] theorem State.addBayEvent?_now (s : State) (b : BayNo) (e : Option BayEvent) : (s.addBayEvent? b e).now = s.now := by
  cases e <;> rfl
@[simp] theorem State.addBayEvent?_bays (s : State) (b : BayNo) (e : Option BayEvent) : (s.addBayEvent? b e).bays = s.bays := by
  cases e <;> rfl
@[simp] theorem State.addBayEvent?_arbiter (s : State) (b : BayNo) (e : Option BayEvent) : (s.addBayEvent? b e).arbiter = s.arbiter := by
  cases e <;> rfl
@[simp] theorem State.addBayEvent?_scheduler (s : State) (b : BayNo) (e : Option BayEvent) : (s.addBayEvent? b e).scheduler = s.scheduler := by
  cases e <;> rfl
@[simp] theorem State.addBayEvent?_motion (s : State) (b : BayNo) (e : Option BayEvent) : (s.addBayEvent? b e).motion = s.motion := by
  cases e <;> rfl
@[simp] theorem State.addBayEvent?_supply (s : State) (b : BayNo) (e : Option BayEvent) : (s.addBayEvent? b e).supply = s.supply := by
  cases e <;> rfl
@[simp] theorem State.addBayEvent?_transit (s : State) (b : BayNo) (e : Option BayEvent) : (s.addBayEvent? b e).transit = s.transit := by
  cases e <;> rfl
@[simp] theorem State.addBayEvent?_faults (s : State) (b : BayNo) (e : Option BayEvent) : (s.addBayEvent? b e).faults = s.faults := by
  cases e <;> rfl
@[simp] theorem State.addBayEvent?_store (s : State) (b : BayNo) (e : Option BayEvent) : (s.addBayEvent? b e).store = s.store := by
  cases e <;> rfl
@[simp] theorem State.addBayEvent?_freeTick (s : State) (b : BayNo) (e : Option BayEvent) : (s.addBayEvent? b e).freeTick = s.freeTick := by
  cases e <;> rfl
@[simp] theorem State.addBayEvent?_pending (s : State) (b : BayNo) (e : Option BayEvent) : (s.addBayEvent? b e).pending = s.pending := by
  cases e <;> rfl

@[simp] theorem State.addBayEvent?_bay (s : State) (b x : BayNo) (e : Option BayEvent) :
    (s.addBayEvent? b e).bay x = s.bay x := by
  cases e <;> rfl

@[simp] theorem State.enter_now (s : State) (b : BayNo) (st : BayState) : (s.enter b st).now = s.now := by
  simp [State.enter]
@[simp] theorem State.enter_arbiter (s : State) (b : BayNo) (st : BayState) : (s.enter b st).arbiter = s.arbiter := by
  simp [State.enter]
@[simp] theorem State.enter_scheduler (s : State) (b : BayNo) (st : BayState) : (s.enter b st).scheduler = s.scheduler := by
  simp [State.enter]
@[simp] theorem State.enter_motion (s : State) (b : BayNo) (st : BayState) : (s.enter b st).motion = s.motion := by
  simp [State.enter]
@[simp] theorem State.enter_supply (s : State) (b : BayNo) (st : BayState) : (s.enter b st).supply = s.supply := by
  simp [State.enter]
@[simp] theorem State.enter_transit (s : State) (b : BayNo) (st : BayState) : (s.enter b st).transit = s.transit := by
  simp [State.enter]
@[simp] theorem State.enter_faults (s : State) (b : BayNo) (st : BayState) : (s.enter b st).faults = s.faults := by
  simp [State.enter]
@[simp] theorem State.enter_store (s : State) (b : BayNo) (st : BayState) : (s.enter b st).store = s.store := by
  simp [State.enter]
@[simp] theorem State.enter_freeTick (s : State) (b : BayNo) (st : BayState) : (s.enter b st).freeTick = s.freeTick := by
  simp [State.enter]
@[simp] theorem State.enter_pending (s : State) (b : BayNo) (st : BayState) : (s.enter b st).pending = s.pending := by
  simp [State.enter]

@[simp] theorem State.enterAfter_now (s : State) (e : BayEvent) (b : BayNo) (st : BayState) : (s.enterAfter e b st).now = s.now := by
  simp [State.enterAfter]
@[simp] theorem State.enterAfter_arbiter (s : State) (e : BayEvent) (b : BayNo) (st : BayState) : (s.enterAfter e b st).arbiter = s.arbiter := by
  simp [State.enterAfter]
@[simp] theorem State.enterAfter_scheduler (s : State) (e : BayEvent) (b : BayNo) (st : BayState) : (s.enterAfter e b st).scheduler = s.scheduler := by
  simp [State.enterAfter]
@[simp] theorem State.enterAfter_motion (s : State) (e : BayEvent) (b : BayNo) (st : BayState) : (s.enterAfter e b st).motion = s.motion := by
  simp [State.enterAfter]
@[simp] theorem State.enterAfter_supply (s : State) (e : BayEvent) (b : BayNo) (st : BayState) : (s.enterAfter e b st).supply = s.supply := by
  simp [State.enterAfter]
@[simp] theorem State.enterAfter_transit (s : State) (e : BayEvent) (b : BayNo) (st : BayState) : (s.enterAfter e b st).transit = s.transit := by
  simp [State.enterAfter]
@[simp] theorem State.enterAfter_faults (s : State) (e : BayEvent) (b : BayNo) (st : BayState) : (s.enterAfter e b st).faults = s.faults := by
  simp [State.enterAfter]
@[simp] theorem State.enterAfter_store (s : State) (e : BayEvent) (b : BayNo) (st : BayState) : (s.enterAfter e b st).store = s.store := by
  simp [State.enterAfter]
@[simp] theorem State.enterAfter_freeTick (s : State) (e : BayEvent) (b : BayNo) (st : BayState) : (s.enterAfter e b st).freeTick = s.freeTick := by
  simp [State.enterAfter]
@[simp] theorem State.enterAfter_pending (s : State) (e : BayEvent) (b : BayNo) (st : BayState) : (s.enterAfter e b st).pending = s.pending := by
  simp [State.enterAfter]

/-- The record of a bay that changes its state (R2, R3, R15). -/
@[simp] theorem State.enter_bay_self (s : State) (b : BayNo) (st : BayState) :
    (s.enter b st).bay b = (s.bay b).enter st (s.governing b) s.now := by
  simp [State.enter]

/-- A change of state at one bay leaves the others. -/
theorem State.enter_bay_ne (s : State) {b x : BayNo} (st : BayState) (h : x ≠ b) :
    (s.enter b st).bay x = s.bay x := by
  simp [State.enter, State.bay_enterQuietly_ne s st h]

/-- The record of a bay that changes its state after another event. -/
@[simp] theorem State.enterAfter_bay_self (s : State) (e : BayEvent) (b : BayNo) (st : BayState) :
    (s.enterAfter e b st).bay b = (s.bay b).enter st (s.governing b) s.now := by
  simp [State.enterAfter]

/-- A change of state after another event leaves the other bays. -/
theorem State.enterAfter_bay_ne (s : State) (e : BayEvent) {b x : BayNo} (st : BayState) (h : x ≠ b) :
    (s.enterAfter e b st).bay x = s.bay x := by
  simp [State.enterAfter, State.bay_enterQuietly_ne s st h]

/-- What an entry writes into a record. -/
@[simp] theorem BayRec.enter_state (st : BayState) (p : Profile) (now : Nat) (r : BayRec) :
    (r.enter st p now).state = st := rfl

@[simp] theorem BayRec.enter_presence (st : BayState) (p : Profile) (now : Nat) (r : BayRec) :
    (r.enter st p now).presence = r.presence := rfl
@[simp] theorem BayRec.enter_speed (st : BayState) (p : Profile) (now : Nat) (r : BayRec) :
    (r.enter st p now).speed = r.speed := rfl
@[simp] theorem BayRec.enter_lastSpinUp (st : BayState) (p : Profile) (now : Nat) (r : BayRec) :
    (r.enter st p now).lastSpinUp = r.lastSpinUp := rfl
@[simp] theorem BayRec.enter_sticky (st : BayState) (p : Profile) (now : Nat) (r : BayRec) :
    (r.enter st p now).sticky = r.sticky := rfl
@[simp] theorem BayRec.enter_pending (st : BayState) (p : Profile) (now : Nat) (r : BayRec) :
    (r.enter st p now).pending = r.pending := rfl
@[simp] theorem BayRec.enter_spindleOn (st : BayState) (p : Profile) (now : Nat) (r : BayRec) :
    (r.enter st p now).spindleOn = r.spindleOn := rfl
@[simp] theorem BayRec.enter_winding (st : BayState) (p : Profile) (now : Nat) (r : BayRec) :
    (r.enter st p now).winding = r.winding := rfl
@[simp] theorem BayRec.enter_windingCurrent (st : BayState) (p : Profile) (now : Nat) (r : BayRec) :
    (r.enter st p now).windingCurrent = r.windingCurrent := rfl
@[simp] theorem BayRec.enter_joltsLoaded (st : BayState) (p : Profile) (now : Nat) (r : BayRec) :
    (r.enter st p now).joltsLoaded = r.joltsLoaded := rfl
@[simp] theorem BayRec.enter_joltsParked (st : BayState) (p : Profile) (now : Nat) (r : BayRec) :
    (r.enter st p now).joltsParked = r.joltsParked := rfl
@[simp] theorem BayRec.enter_joltsStopped (st : BayState) (p : Profile) (now : Nat) (r : BayRec) :
    (r.enter st p now).joltsStopped = r.joltsStopped := rfl
@[simp] theorem BayRec.enter_rollsLoaded (st : BayState) (p : Profile) (now : Nat) (r : BayRec) :
    (r.enter st p now).rollsLoaded = r.rollsLoaded := rfl
@[simp] theorem BayRec.enter_grantTime (st : BayState) (p : Profile) (now : Nat) (r : BayRec) :
    (r.enter st p now).grantTime = r.grantTime := rfl
@[simp] theorem BayRec.enter_lastPulse (st : BayState) (p : Profile) (now : Nat) (r : BayRec) :
    (r.enter st p now).lastPulse = r.lastPulse := rfl
@[simp] theorem BayRec.enter_prk (st : BayState) (p : Profile) (now : Nat) (r : BayRec) :
    (r.enter st p now).prk = r.prk := rfl

/-! ### Fault reports (R136) -/

@[simp] theorem State.reportBay_now (s : State) (c : BayFault) (b : BayNo) : (s.reportBay c b).now = s.now := by
  unfold State.reportBay; simp only; split <;> rfl
@[simp] theorem State.reportBay_arbiter (s : State) (c : BayFault) (b : BayNo) : (s.reportBay c b).arbiter = s.arbiter := by
  unfold State.reportBay; simp only; split <;> rfl
@[simp] theorem State.reportBay_scheduler (s : State) (c : BayFault) (b : BayNo) : (s.reportBay c b).scheduler = s.scheduler := by
  unfold State.reportBay; simp only; split <;> rfl
@[simp] theorem State.reportBay_motion (s : State) (c : BayFault) (b : BayNo) : (s.reportBay c b).motion = s.motion := by
  unfold State.reportBay; simp only; split <;> rfl
@[simp] theorem State.reportBay_supply (s : State) (c : BayFault) (b : BayNo) : (s.reportBay c b).supply = s.supply := by
  unfold State.reportBay; simp only; split <;> rfl
@[simp] theorem State.reportBay_transit (s : State) (c : BayFault) (b : BayNo) : (s.reportBay c b).transit = s.transit := by
  unfold State.reportBay; simp only; split <;> rfl
@[simp] theorem State.reportBay_store (s : State) (c : BayFault) (b : BayNo) : (s.reportBay c b).store = s.store := by
  unfold State.reportBay; simp only; split <;> rfl
@[simp] theorem State.reportBay_freeTick (s : State) (c : BayFault) (b : BayNo) : (s.reportBay c b).freeTick = s.freeTick := by
  unfold State.reportBay; simp only; split <;> rfl
@[simp] theorem State.reportBay_pending (s : State) (c : BayFault) (b : BayNo) : (s.reportBay c b).pending = s.pending := by
  unfold State.reportBay; simp only; split <;> rfl

@[simp] theorem State.reportCase_now (s : State) (c : CaseFault) : (s.reportCase c).now = s.now := by
  unfold State.reportCase; simp only; split <;> rfl
@[simp] theorem State.reportCase_bays (s : State) (c : CaseFault) : (s.reportCase c).bays = s.bays := by
  unfold State.reportCase; simp only; split <;> rfl
@[simp] theorem State.reportCase_arbiter (s : State) (c : CaseFault) : (s.reportCase c).arbiter = s.arbiter := by
  unfold State.reportCase; simp only; split <;> rfl
@[simp] theorem State.reportCase_scheduler (s : State) (c : CaseFault) : (s.reportCase c).scheduler = s.scheduler := by
  unfold State.reportCase; simp only; split <;> rfl
@[simp] theorem State.reportCase_motion (s : State) (c : CaseFault) : (s.reportCase c).motion = s.motion := by
  unfold State.reportCase; simp only; split <;> rfl
@[simp] theorem State.reportCase_supply (s : State) (c : CaseFault) : (s.reportCase c).supply = s.supply := by
  unfold State.reportCase; simp only; split <;> rfl
@[simp] theorem State.reportCase_transit (s : State) (c : CaseFault) : (s.reportCase c).transit = s.transit := by
  unfold State.reportCase; simp only; split <;> rfl
@[simp] theorem State.reportCase_store (s : State) (c : CaseFault) : (s.reportCase c).store = s.store := by
  unfold State.reportCase; simp only; split <;> rfl
@[simp] theorem State.reportCase_freeTick (s : State) (c : CaseFault) : (s.reportCase c).freeTick = s.freeTick := by
  unfold State.reportCase; simp only; split <;> rfl
@[simp] theorem State.reportCase_pending (s : State) (c : CaseFault) : (s.reportCase c).pending = s.pending := by
  unfold State.reportCase; simp only; split <;> rfl

@[simp] theorem State.reportCase_bay (s : State) (c : CaseFault) (x : BayNo) :
    (s.reportCase c).bay x = s.bay x := by
  unfold State.reportCase; simp only; split <;> rfl

/-- A report of a bay class: the record of its bay. -/
@[simp] theorem State.reportBay_bay_self (s : State) (c : BayFault) (b : BayNo) :
    (s.reportBay c b).bay b =
      { s.bay b with
        sticky := (s.bay b).sticky ||| c.bit
        pending := if s.answersHold c then (s.bay b).pending ||| c.bit else (s.bay b).pending } := by
  unfold State.reportBay
  simp only
  split <;> rename_i h <;> simp

/-- A report of a bay class leaves the other bays. -/
theorem State.reportBay_bay_ne (s : State) (c : BayFault) {b x : BayNo} (h : x ≠ b) :
    (s.reportBay c b).bay x = s.bay x := by
  unfold State.reportBay
  simp only
  split <;> simp [State.bay_modBay_ne _ _ h]

/-- The answer to a report does not depend on the reports before it (R137). -/
@[simp] theorem State.reportBay_answersHold (s : State) (c d : BayFault) (b : BayNo) :
    (s.reportBay c b).answersHold d = s.answersHold d := by
  simp [State.answersHold]

/-! ### The transmit line -/

@[simp] theorem State.lineUp_now (s : State) : (s.lineUp).now = s.now := by
  unfold State.lineUp; split
  · rfl
  · split
    · rfl
    · split <;> rfl
@[simp] theorem State.lineUp_bays (s : State) : (s.lineUp).bays = s.bays := by
  unfold State.lineUp; split
  · rfl
  · split
    · rfl
    · split <;> rfl
@[simp] theorem State.lineUp_arbiter (s : State) : (s.lineUp).arbiter = s.arbiter := by
  unfold State.lineUp; split
  · rfl
  · split
    · rfl
    · split <;> rfl
@[simp] theorem State.lineUp_scheduler (s : State) : (s.lineUp).scheduler = s.scheduler := by
  unfold State.lineUp; split
  · rfl
  · split
    · rfl
    · split <;> rfl
@[simp] theorem State.lineUp_motion (s : State) : (s.lineUp).motion = s.motion := by
  unfold State.lineUp; split
  · rfl
  · split
    · rfl
    · split <;> rfl
@[simp] theorem State.lineUp_supply (s : State) : (s.lineUp).supply = s.supply := by
  unfold State.lineUp; split
  · rfl
  · split
    · rfl
    · split <;> rfl
@[simp] theorem State.lineUp_transit (s : State) : (s.lineUp).transit = s.transit := by
  unfold State.lineUp; split
  · rfl
  · split
    · rfl
    · split <;> rfl
@[simp] theorem State.lineUp_faults (s : State) : (s.lineUp).faults = s.faults := by
  unfold State.lineUp; split
  · rfl
  · split
    · rfl
    · split <;> rfl
@[simp] theorem State.lineUp_store (s : State) : (s.lineUp).store = s.store := by
  unfold State.lineUp; split
  · rfl
  · split
    · rfl
    · split <;> rfl
@[simp] theorem State.lineUp_freeTick (s : State) : (s.lineUp).freeTick = s.freeTick := by
  unfold State.lineUp; split
  · rfl
  · split
    · rfl
    · split <;> rfl
@[simp] theorem State.lineUp_pending (s : State) : (s.lineUp).pending = s.pending := by
  unfold State.lineUp; split
  · rfl
  · split
    · rfl
    · split <;> rfl

@[simp] theorem State.lineUp_bay (s : State) (x : BayNo) : s.lineUp.bay x = s.bay x := by
  simp [State.bay]

/-- The line takes nothing of the link but its frame and the oldest notice. -/
theorem State.lineUp_keeps (s : State) :
    s.lineUp.link.rx = s.link.rx ∧ s.lineUp.link.gapDue = s.link.gapDue ∧ s.lineUp.link.slot = s.link.slot ∧
      s.lineUp.link.cursor = s.link.cursor ∧ s.lineUp.link.pin = s.link.pin := by
  unfold State.lineUp
  split
  · simp
  · split
    · simp [State.transmit]
    · split <;> simp [State.transmit]

@[simp] theorem State.lineUp_rx (s : State) : s.lineUp.link.rx = s.link.rx := s.lineUp_keeps.1
@[simp] theorem State.lineUp_gapDue (s : State) : s.lineUp.link.gapDue = s.link.gapDue := s.lineUp_keeps.2.1
@[simp] theorem State.lineUp_slot (s : State) : s.lineUp.link.slot = s.link.slot := s.lineUp_keeps.2.2.1
@[simp] theorem State.lineUp_cursor (s : State) : s.lineUp.link.cursor = s.link.cursor := s.lineUp_keeps.2.2.2.1
@[simp] theorem State.lineUp_pin (s : State) : s.lineUp.link.pin = s.link.pin := s.lineUp_keeps.2.2.2.2

/-- A line that sends a frame goes on sending it (R181). -/
theorem State.lineUp_busy (s : State) (h : s.link.tx.isSome) : s.lineUp = s := by
  simp [State.lineUp, h]

/-- The notices that stay in the queue at the end of an event. -/
theorem State.lineUp_notices (s : State) :
    s.lineUp.link.notices = s.link.notices ∨ s.lineUp.link.notices = s.link.notices.tail := by
  unfold State.lineUp
  split
  · exact .inl rfl
  · split
    · exact .inl rfl
    · split
      · rename_i h; exact .inl rfl
      · rename_i h; exact .inr (by simp [State.transmit, h])

/-! ### Unordered events -/

/-- A freely ordered list holds what the list holds (R182, log 9). -/
theorem freelyOrdered_perm {α : Type} (choice : Nat → Nat) (l : List α) : (freelyOrdered choice l).Perm l := by
  induction l generalizing choice with
  | nil => exact .nil
  | cons a rest ih =>
    cases rest with
    | nil => exact .refl _
    | cons b rest =>
      simp only [freelyOrdered]
      refine List.perm_middle.trans (.cons a ?_)
      rw [List.take_append_drop]
      exact ih _

/-- What every holder keeps, an event taken by them in turn keeps. -/
theorem State.inTurn_induct {P : State → Prop} {holders : List (State → State)}
    (keeps : ∀ h ∈ holders, ∀ s, P s → P (h s)) {s : State} (hs : P s) : P (s.inTurn holders) := by
  induction holders generalizing s with
  | nil => exact hs
  | cons h rest ih =>
    exact ih (fun g hg => keeps g (List.mem_cons_of_mem _ hg)) (keeps h List.mem_cons_self s hs)

/-- What one holder brings about and every holder keeps holds after all of them, whatever their order. -/
theorem State.inTurn_brings {P Q : State → Prop} {holders : List (State → State)} {g : State → State}
    (mem : g ∈ holders) (keeps : ∀ h ∈ holders, ∀ s, P s → P (h s)) (brings : ∀ s, P s → Q (g s))
    (stays : ∀ h ∈ holders, ∀ s, P s → Q s → Q (h s)) {s : State} (hs : P s) : Q (s.inTurn holders) := by
  induction holders generalizing s with
  | nil => cases mem
  | cons h rest ih =>
    have keeps' : ∀ h ∈ rest, ∀ s, P s → P (h s) := fun f hf => keeps f (List.mem_cons_of_mem _ hf)
    have next := keeps h List.mem_cons_self s hs
    rcases List.mem_cons.mp mem with rfl | mem
    · exact (State.inTurn_induct (P := fun s => P s ∧ Q s)
        (fun f hf s hs => ⟨keeps' f hf s hs.1, stays f (List.mem_cons_of_mem _ hf) s hs.1 hs.2⟩)
        ⟨next, brings s hs⟩).2
    · exact ih mem keeps' (fun f hf => stays f (List.mem_cons_of_mem _ hf)) next

@[simp] theorem State.inFreeOrder_now (s : State) (holders : List (State → State)) :
    (s.inFreeOrder holders).now = (s.inTurn holders).now := rfl
@[simp] theorem State.inFreeOrder_bays (s : State) (holders : List (State → State)) :
    (s.inFreeOrder holders).bays = (s.inTurn holders).bays := rfl
@[simp] theorem State.inFreeOrder_arbiter (s : State) (holders : List (State → State)) :
    (s.inFreeOrder holders).arbiter = (s.inTurn holders).arbiter := rfl
@[simp] theorem State.inFreeOrder_scheduler (s : State) (holders : List (State → State)) :
    (s.inFreeOrder holders).scheduler = (s.inTurn holders).scheduler := rfl
@[simp] theorem State.inFreeOrder_motion (s : State) (holders : List (State → State)) :
    (s.inFreeOrder holders).motion = (s.inTurn holders).motion := rfl
@[simp] theorem State.inFreeOrder_supply (s : State) (holders : List (State → State)) :
    (s.inFreeOrder holders).supply = (s.inTurn holders).supply := rfl
@[simp] theorem State.inFreeOrder_transit (s : State) (holders : List (State → State)) :
    (s.inFreeOrder holders).transit = (s.inTurn holders).transit := rfl
@[simp] theorem State.inFreeOrder_faults (s : State) (holders : List (State → State)) :
    (s.inFreeOrder holders).faults = (s.inTurn holders).faults := rfl
@[simp] theorem State.inFreeOrder_store (s : State) (holders : List (State → State)) :
    (s.inFreeOrder holders).store = (s.inTurn holders).store := rfl
@[simp] theorem State.inFreeOrder_pending (s : State) (holders : List (State → State)) :
    (s.inFreeOrder holders).pending = (s.inTurn holders).pending := rfl
@[simp] theorem State.inFreeOrder_bay (s : State) (holders : List (State → State)) (x : BayNo) :
    (s.inFreeOrder holders).bay x = (s.inTurn holders).bay x := rfl

/-- The notice queue of an unordered event is the one that some order of its holders leaves. -/
theorem State.inFreeOrder_notices (s : State) (holders : List (State → State)) :
    ∃ order, order.Perm holders ∧ (s.inFreeOrder holders).link.notices = (s.inTurn order).link.notices :=
  ⟨_, freelyOrdered_perm _ _, rfl⟩

/-- The bays in ascending order are holders in turn. -/
theorem State.forBays_eq_inTurn (f : BayNo → State → State) (s : State) :
    s.forBays f = s.inTurn (allBays.map f) := by
  simp only [State.forBays, State.inTurn, List.foldl_map]

/-! ### The store image (R168) -/

/-- An image written whole passes its check exactly where its values do. -/
@[simp] theorem StoreImage.written_passes (w : WorkingSettings) : (StoreImage.written w).passes = w.valid := by
  simp [StoreImage.passes, StoreImage.written]

/-- A spoiled image fails its check. -/
@[simp] theorem StoreImage.spoiled_passes (i : StoreImage) : i.spoiled.passes = false := by
  have h : ∀ c : Word16, ~~~ c ≠ c := by
    intro c e
    have := congrArg (fun c : Word16 => c.getLsbD 0) e
    simp at this
  simp [StoreImage.passes, StoreImage.spoiled, h]

/-! ### Grant evaluations (R34–R40) -/

/-- What every pass that grants keeps, an evaluation keeps. -/
theorem State.passes_induct {P : State → Prop} (h : ∀ s p, s.pass = some p → P s → P (s.carryOut p)) :
    ∀ n s, P s → P (State.passes n s) := by
  intro n
  induction n with
  | zero => intro s hs; exact hs
  | succ n ih =>
    intro s hs
    simp only [State.passes]
    split
    · exact hs
    · rename_i p hp; exact ih _ (h s p hp hs)

/-- What every pass that grants keeps, an evaluation keeps. -/
theorem State.evaluate_induct {P : State → Prop} (h : ∀ s p, s.pass = some p → P s → P (s.carryOut p)) (s : State)
    (hs : P s) : P s.evaluate := State.passes_induct h _ s hs

@[simp] theorem State.grantSpin_now (s : State) (b : BayNo) : (s.grantSpin b).now = s.now := by
  simp [State.grantSpin]
@[simp] theorem State.grantSpin_arbiter (s : State) (b : BayNo) : (s.grantSpin b).arbiter = s.arbiter := by
  simp [State.grantSpin]
@[simp] theorem State.grantSpin_scheduler (s : State) (b : BayNo) : (s.grantSpin b).scheduler = s.scheduler := by
  simp [State.grantSpin]
@[simp] theorem State.grantSpin_motion (s : State) (b : BayNo) : (s.grantSpin b).motion = s.motion := by
  simp [State.grantSpin]
@[simp] theorem State.grantSpin_supply (s : State) (b : BayNo) : (s.grantSpin b).supply = s.supply := by
  simp [State.grantSpin]
@[simp] theorem State.grantSpin_transit (s : State) (b : BayNo) : (s.grantSpin b).transit = s.transit := by
  simp [State.grantSpin]
@[simp] theorem State.grantSpin_faults (s : State) (b : BayNo) : (s.grantSpin b).faults = s.faults := by
  simp [State.grantSpin]
@[simp] theorem State.grantSpin_store (s : State) (b : BayNo) : (s.grantSpin b).store = s.store := by
  simp [State.grantSpin]
@[simp] theorem State.grantSpin_freeTick (s : State) (b : BayNo) : (s.grantSpin b).freeTick = s.freeTick := by
  simp [State.grantSpin]
@[simp] theorem State.grantSpin_pending (s : State) (b : BayNo) : (s.grantSpin b).pending = s.pending := by
  simp [State.grantSpin]

@[simp] theorem State.grantTest_now (s : State) (b : BayNo) : (s.grantTest b).now = s.now := by
  simp [State.grantTest]
@[simp] theorem State.grantTest_scheduler (s : State) (b : BayNo) : (s.grantTest b).scheduler = s.scheduler := by
  simp [State.grantTest]
@[simp] theorem State.grantTest_motion (s : State) (b : BayNo) : (s.grantTest b).motion = s.motion := by
  simp [State.grantTest]
@[simp] theorem State.grantTest_supply (s : State) (b : BayNo) : (s.grantTest b).supply = s.supply := by
  simp [State.grantTest]
@[simp] theorem State.grantTest_transit (s : State) (b : BayNo) : (s.grantTest b).transit = s.transit := by
  simp [State.grantTest]
@[simp] theorem State.grantTest_faults (s : State) (b : BayNo) : (s.grantTest b).faults = s.faults := by
  simp [State.grantTest]
@[simp] theorem State.grantTest_store (s : State) (b : BayNo) : (s.grantTest b).store = s.store := by
  simp [State.grantTest]
@[simp] theorem State.grantTest_freeTick (s : State) (b : BayNo) : (s.grantTest b).freeTick = s.freeTick := by
  simp [State.grantTest]
@[simp] theorem State.grantTest_pending (s : State) (b : BayNo) : (s.grantTest b).pending = s.pending := by
  simp [State.grantTest]

@[simp] theorem State.grant_now (s : State) (e : SpinEntry) : (s.grant e).now = s.now := by
  unfold State.grant; split <;> simp
@[simp] theorem State.grant_scheduler (s : State) (e : SpinEntry) : (s.grant e).scheduler = s.scheduler := by
  unfold State.grant; split <;> simp
@[simp] theorem State.grant_motion (s : State) (e : SpinEntry) : (s.grant e).motion = s.motion := by
  unfold State.grant; split <;> simp
@[simp] theorem State.grant_supply (s : State) (e : SpinEntry) : (s.grant e).supply = s.supply := by
  unfold State.grant; split <;> simp
@[simp] theorem State.grant_transit (s : State) (e : SpinEntry) : (s.grant e).transit = s.transit := by
  unfold State.grant; split <;> simp
@[simp] theorem State.grant_faults (s : State) (e : SpinEntry) : (s.grant e).faults = s.faults := by
  unfold State.grant; split <;> simp
@[simp] theorem State.grant_store (s : State) (e : SpinEntry) : (s.grant e).store = s.store := by
  unfold State.grant; split <;> simp
@[simp] theorem State.grant_freeTick (s : State) (e : SpinEntry) : (s.grant e).freeTick = s.freeTick := by
  unfold State.grant; split <;> simp
@[simp] theorem State.grant_pending (s : State) (e : SpinEntry) : (s.grant e).pending = s.pending := by
  unfold State.grant; split <;> simp

@[simp] theorem State.carryOut_now (s : State) (p : PassResult) : (s.carryOut p).now = s.now := by
  unfold State.carryOut; split <;> simp
@[simp] theorem State.carryOut_scheduler (s : State) (p : PassResult) : (s.carryOut p).scheduler = s.scheduler := by
  unfold State.carryOut; split <;> simp
@[simp] theorem State.carryOut_motion (s : State) (p : PassResult) : (s.carryOut p).motion = s.motion := by
  unfold State.carryOut; split <;> simp
@[simp] theorem State.carryOut_supply (s : State) (p : PassResult) : (s.carryOut p).supply = s.supply := by
  unfold State.carryOut; split <;> simp
@[simp] theorem State.carryOut_transit (s : State) (p : PassResult) : (s.carryOut p).transit = s.transit := by
  unfold State.carryOut; split <;> simp
@[simp] theorem State.carryOut_faults (s : State) (p : PassResult) : (s.carryOut p).faults = s.faults := by
  unfold State.carryOut; split <;> simp
@[simp] theorem State.carryOut_store (s : State) (p : PassResult) : (s.carryOut p).store = s.store := by
  unfold State.carryOut; split <;> simp
@[simp] theorem State.carryOut_freeTick (s : State) (p : PassResult) : (s.carryOut p).freeTick = s.freeTick := by
  unfold State.carryOut; split <;> simp
@[simp] theorem State.carryOut_pending (s : State) (p : PassResult) : (s.carryOut p).pending = s.pending := by
  unfold State.carryOut; split <;> simp

@[simp] theorem State.evaluate_now (s : State) : s.evaluate.now = s.now :=
  State.evaluate_induct (P := fun t => t.now = s.now) (fun t p _ h => by simp [h]) s rfl
@[simp] theorem State.evaluate_scheduler (s : State) : s.evaluate.scheduler = s.scheduler :=
  State.evaluate_induct (P := fun t => t.scheduler = s.scheduler) (fun t p _ h => by simp [h]) s rfl
@[simp] theorem State.evaluate_motion (s : State) : s.evaluate.motion = s.motion :=
  State.evaluate_induct (P := fun t => t.motion = s.motion) (fun t p _ h => by simp [h]) s rfl
@[simp] theorem State.evaluate_supply (s : State) : s.evaluate.supply = s.supply :=
  State.evaluate_induct (P := fun t => t.supply = s.supply) (fun t p _ h => by simp [h]) s rfl
@[simp] theorem State.evaluate_transit (s : State) : s.evaluate.transit = s.transit :=
  State.evaluate_induct (P := fun t => t.transit = s.transit) (fun t p _ h => by simp [h]) s rfl
@[simp] theorem State.evaluate_faults (s : State) : s.evaluate.faults = s.faults :=
  State.evaluate_induct (P := fun t => t.faults = s.faults) (fun t p _ h => by simp [h]) s rfl
@[simp] theorem State.evaluate_store (s : State) : s.evaluate.store = s.store :=
  State.evaluate_induct (P := fun t => t.store = s.store) (fun t p _ h => by simp [h]) s rfl
@[simp] theorem State.evaluate_freeTick (s : State) : s.evaluate.freeTick = s.freeTick :=
  State.evaluate_induct (P := fun t => t.freeTick = s.freeTick) (fun t p _ h => by simp [h]) s rfl
@[simp] theorem State.evaluate_pending (s : State) : s.evaluate.pending = s.pending :=
  State.evaluate_induct (P := fun t => t.pending = s.pending) (fun t p _ h => by simp [h]) s rfl
@[simp] theorem State.evaluate_settings (s : State) : s.evaluate.settings = s.settings := by
  simp [State.settings]

/-! ### Marks and closes of jolt records (R93, R94) -/

@[simp] theorem State.closeJolt_now (s : State) : (s.closeJolt).now = s.now := by
  unfold State.closeJolt; split
  · split <;> simp
  · rfl
@[simp] theorem State.closeJolt_bays (s : State) : (s.closeJolt).bays = s.bays := by
  unfold State.closeJolt; split
  · split <;> simp
  · rfl
@[simp] theorem State.closeJolt_arbiter (s : State) : (s.closeJolt).arbiter = s.arbiter := by
  unfold State.closeJolt; split
  · split <;> simp
  · rfl
@[simp] theorem State.closeJolt_scheduler (s : State) : (s.closeJolt).scheduler = s.scheduler := by
  unfold State.closeJolt; split
  · split <;> simp
  · rfl
@[simp] theorem State.closeJolt_supply (s : State) : (s.closeJolt).supply = s.supply := by
  unfold State.closeJolt; split
  · split <;> simp
  · rfl
@[simp] theorem State.closeJolt_transit (s : State) : (s.closeJolt).transit = s.transit := by
  unfold State.closeJolt; split
  · split <;> simp
  · rfl
@[simp] theorem State.closeJolt_faults (s : State) : (s.closeJolt).faults = s.faults := by
  unfold State.closeJolt; split
  · split <;> simp
  · rfl
@[simp] theorem State.closeJolt_store (s : State) : (s.closeJolt).store = s.store := by
  unfold State.closeJolt; split
  · split <;> simp
  · rfl
@[simp] theorem State.closeJolt_freeTick (s : State) : (s.closeJolt).freeTick = s.freeTick := by
  unfold State.closeJolt; split
  · split <;> simp
  · rfl
@[simp] theorem State.closeJolt_pending (s : State) : (s.closeJolt).pending = s.pending := by
  unfold State.closeJolt; split
  · split <;> simp
  · rfl

@[simp] theorem State.closeJolt_bay (s : State) (x : BayNo) : s.closeJolt.bay x = s.bay x := by
  simp [State.bay]

@[simp] theorem State.markJolt_now (s : State) (k : JoltMark) (b : BayNo) : (s.markJolt k b).now = s.now := by
  unfold State.markJolt; split
  · split <;> simp
  · rfl
@[simp] theorem State.markJolt_bays (s : State) (k : JoltMark) (b : BayNo) : (s.markJolt k b).bays = s.bays := by
  unfold State.markJolt; split
  · split <;> simp
  · rfl
@[simp] theorem State.markJolt_arbiter (s : State) (k : JoltMark) (b : BayNo) : (s.markJolt k b).arbiter = s.arbiter := by
  unfold State.markJolt; split
  · split <;> simp
  · rfl
@[simp] theorem State.markJolt_scheduler (s : State) (k : JoltMark) (b : BayNo) : (s.markJolt k b).scheduler = s.scheduler := by
  unfold State.markJolt; split
  · split <;> simp
  · rfl
@[simp] theorem State.markJolt_supply (s : State) (k : JoltMark) (b : BayNo) : (s.markJolt k b).supply = s.supply := by
  unfold State.markJolt; split
  · split <;> simp
  · rfl
@[simp] theorem State.markJolt_transit (s : State) (k : JoltMark) (b : BayNo) : (s.markJolt k b).transit = s.transit := by
  unfold State.markJolt; split
  · split <;> simp
  · rfl
@[simp] theorem State.markJolt_faults (s : State) (k : JoltMark) (b : BayNo) : (s.markJolt k b).faults = s.faults := by
  unfold State.markJolt; split
  · split <;> simp
  · rfl
@[simp] theorem State.markJolt_store (s : State) (k : JoltMark) (b : BayNo) : (s.markJolt k b).store = s.store := by
  unfold State.markJolt; split
  · split <;> simp
  · rfl
@[simp] theorem State.markJolt_freeTick (s : State) (k : JoltMark) (b : BayNo) : (s.markJolt k b).freeTick = s.freeTick := by
  unfold State.markJolt; split
  · split <;> simp
  · rfl
@[simp] theorem State.markJolt_pending (s : State) (k : JoltMark) (b : BayNo) : (s.markJolt k b).pending = s.pending := by
  unfold State.markJolt; split
  · split <;> simp
  · rfl

@[simp] theorem State.markJolt_bay (s : State) (k : JoltMark) (b x : BayNo) : (s.markJolt k b).bay x = s.bay x := by
  simp [State.bay]

/-! ### Start passes (R64, R65) -/

@[simp] theorem State.leaveUnloading_now (s : State) (b : BayNo) : (s.leaveUnloading b).now = s.now := by
  unfold State.leaveUnloading; split <;> simp
@[simp] theorem State.leaveUnloading_arbiter (s : State) (b : BayNo) : (s.leaveUnloading b).arbiter = s.arbiter := by
  unfold State.leaveUnloading; split <;> simp
@[simp] theorem State.leaveUnloading_scheduler (s : State) (b : BayNo) : (s.leaveUnloading b).scheduler = s.scheduler := by
  unfold State.leaveUnloading; split <;> simp
@[simp] theorem State.leaveUnloading_motion (s : State) (b : BayNo) : (s.leaveUnloading b).motion = s.motion := by
  unfold State.leaveUnloading; split <;> simp
@[simp] theorem State.leaveUnloading_supply (s : State) (b : BayNo) : (s.leaveUnloading b).supply = s.supply := by
  unfold State.leaveUnloading; split <;> simp
@[simp] theorem State.leaveUnloading_transit (s : State) (b : BayNo) : (s.leaveUnloading b).transit = s.transit := by
  unfold State.leaveUnloading; split <;> simp
@[simp] theorem State.leaveUnloading_faults (s : State) (b : BayNo) : (s.leaveUnloading b).faults = s.faults := by
  unfold State.leaveUnloading; split <;> simp
@[simp] theorem State.leaveUnloading_store (s : State) (b : BayNo) : (s.leaveUnloading b).store = s.store := by
  unfold State.leaveUnloading; split <;> simp
@[simp] theorem State.leaveUnloading_freeTick (s : State) (b : BayNo) : (s.leaveUnloading b).freeTick = s.freeTick := by
  unfold State.leaveUnloading; split <;> simp
@[simp] theorem State.leaveUnloading_pending (s : State) (b : BayNo) : (s.leaveUnloading b).pending = s.pending := by
  unfold State.leaveUnloading; split <;> simp

@[simp] theorem State.parkCore_now (s : State) (b : BayNo) : (s.parkCore b).now = s.now := by
  simp [State.parkCore]
@[simp] theorem State.parkCore_arbiter (s : State) (b : BayNo) : (s.parkCore b).arbiter = s.arbiter := by
  simp [State.parkCore]
@[simp] theorem State.parkCore_supply (s : State) (b : BayNo) : (s.parkCore b).supply = s.supply := by
  simp [State.parkCore]
@[simp] theorem State.parkCore_transit (s : State) (b : BayNo) : (s.parkCore b).transit = s.transit := by
  simp [State.parkCore]
@[simp] theorem State.parkCore_faults (s : State) (b : BayNo) : (s.parkCore b).faults = s.faults := by
  simp [State.parkCore]
@[simp] theorem State.parkCore_store (s : State) (b : BayNo) : (s.parkCore b).store = s.store := by
  simp [State.parkCore]
@[simp] theorem State.parkCore_freeTick (s : State) (b : BayNo) : (s.parkCore b).freeTick = s.freeTick := by
  simp [State.parkCore]
@[simp] theorem State.parkCore_pending (s : State) (b : BayNo) : (s.parkCore b).pending = s.pending := by
  simp [State.parkCore]

@[simp] theorem State.startUnload_now (s : State) (b : BayNo) : (s.startUnload b).now = s.now := by
  unfold State.startUnload; simp only; split <;> simp
@[simp] theorem State.startUnload_arbiter (s : State) (b : BayNo) : (s.startUnload b).arbiter = s.arbiter := by
  unfold State.startUnload; simp only; split <;> simp
@[simp] theorem State.startUnload_supply (s : State) (b : BayNo) : (s.startUnload b).supply = s.supply := by
  unfold State.startUnload; simp only; split <;> simp
@[simp] theorem State.startUnload_transit (s : State) (b : BayNo) : (s.startUnload b).transit = s.transit := by
  unfold State.startUnload; simp only; split <;> simp
@[simp] theorem State.startUnload_faults (s : State) (b : BayNo) : (s.startUnload b).faults = s.faults := by
  unfold State.startUnload; simp only; split <;> simp
@[simp] theorem State.startUnload_store (s : State) (b : BayNo) : (s.startUnload b).store = s.store := by
  unfold State.startUnload; simp only; split <;> simp
@[simp] theorem State.startUnload_freeTick (s : State) (b : BayNo) : (s.startUnload b).freeTick = s.freeTick := by
  unfold State.startUnload; simp only; split <;> simp
@[simp] theorem State.startUnload_pending (s : State) (b : BayNo) : (s.startUnload b).pending = s.pending := by
  unfold State.startUnload; simp only; split <;> simp

/-- What every start keeps, a start pass keeps. -/
theorem State.starts_induct {P : State → Prop}
    (h : ∀ s b q, s.scheduler.popHead = some (b, q) → P s → P ({ s with scheduler := q }.startUnload b)) :
    ∀ n s, P s → P (State.starts n s) := by
  intro n
  induction n with
  | zero => intro s hs; exact hs
  | succ n ih =>
    intro s hs
    simp only [State.starts]
    split
    · exact hs
    · split
      · exact hs
      · rename_i b q hp; exact ih _ (h s b q hp hs)

/-- What every start keeps, a start pass keeps. -/
theorem State.startPass_induct {P : State → Prop}
    (h : ∀ s b q, s.scheduler.popHead = some (b, q) → P s → P ({ s with scheduler := q }.startUnload b)) (s : State)
    (hs : P s) : P s.startPass := State.starts_induct h _ s hs

@[simp] theorem State.startPass_now (s : State) : s.startPass.now = s.now :=
  State.startPass_induct (P := fun t => t.now = s.now) (fun t b q _ h => by simp [h]) s rfl
@[simp] theorem State.startPass_arbiter (s : State) : s.startPass.arbiter = s.arbiter :=
  State.startPass_induct (P := fun t => t.arbiter = s.arbiter) (fun t b q _ h => by simp [h]) s rfl
@[simp] theorem State.startPass_supply (s : State) : s.startPass.supply = s.supply :=
  State.startPass_induct (P := fun t => t.supply = s.supply) (fun t b q _ h => by simp [h]) s rfl
@[simp] theorem State.startPass_transit (s : State) : s.startPass.transit = s.transit :=
  State.startPass_induct (P := fun t => t.transit = s.transit) (fun t b q _ h => by simp [h]) s rfl
@[simp] theorem State.startPass_faults (s : State) : s.startPass.faults = s.faults :=
  State.startPass_induct (P := fun t => t.faults = s.faults) (fun t b q _ h => by simp [h]) s rfl
@[simp] theorem State.startPass_store (s : State) : s.startPass.store = s.store :=
  State.startPass_induct (P := fun t => t.store = s.store) (fun t b q _ h => by simp [h]) s rfl
@[simp] theorem State.startPass_freeTick (s : State) : s.startPass.freeTick = s.freeTick :=
  State.startPass_induct (P := fun t => t.freeTick = s.freeTick) (fun t b q _ h => by simp [h]) s rfl
@[simp] theorem State.startPass_pending (s : State) : s.startPass.pending = s.pending :=
  State.startPass_induct (P := fun t => t.pending = s.pending) (fun t b q _ h => by simp [h]) s rfl
@[simp] theorem State.startPass_settings (s : State) : s.startPass.settings = s.settings := by
  simp [State.settings]

/-! ### Whole events -/

/-- An event is taken whole, after the time has passed; it always completes. -/
theorem State.takeEvent_eq (dt : Nat) (body : State → State) (s : State) :
    s.takeEvent dt body = .next (body (s.elapse dt)).lineUp := rfl

/-- Every command completes: no arm faults or refuses. -/
theorem exec_completes (c : Instr) (s : State) : ∃ t, exec c s = .next t := by
  cases c <;> exact ⟨_, rfl⟩

end Sys2Proof.Machine
end

