-- ==== Sys2Proof/Tests/Slice0.lean ====
section
/-! SUPPORT. Tests: ill-formed commands, the CRC, and one step of each command on small states. -/

namespace Sys2Proof.Tests

open Sys2Proof Sys2Proof.Machine

set_option Elab.async false

/-! ### WellFormed -/

/-- A request with `n` body bytes of 0. -/
def longReq (n : Nat) : Req := { flags := 0, tag := 0, body := List.replicate n 0 }

theorem test_wellFormed_refuses_241_body_bytes :
    ReqKind.all.all (fun k => !(commandOf k 0 (longReq 241)).wellFormed && (commandOf k 0 (longReq 240)).wellFormed)
      = true := by decide +kernel

theorem test_wellFormed_refuses_a_bad_length_in_range :
    Instr.wellFormed (.frameDiscard 0 (.badLength 3)) = false ∧
    Instr.wellFormed (.frameDiscard 0 (.badLength 243)) = false ∧
    Instr.wellFormed (.frameDiscard 0 (.badLength 2)) = true ∧
    Instr.wellFormed (.frameDiscard 0 (.badLength 244)) = true := by decide +kernel

theorem test_wellFormed_refuses_a_known_kind :
    Instr.wellFormed (.unknownKind 0 0x37 (longReq 0)) = false ∧
    Instr.wellFormed (.unknownKind 0 0x38 (longReq 0)) = true ∧
    Instr.wellFormed (.unknownKind 0 0x38 (longReq 241)) = false := by decide +kernel

/-! ### States to test on -/

/-- A request of no CHECK flag. -/
def ask (body : List Byte) : Req := { flags := 0, tag := 7, body := body }

/-- A request that carries the CHECK flag. -/
def askChecked (body : List Byte) : Req := { flags := 1, tag := 7, body := body }

/-- A still case in service at 1000 s, its supply NORMAL, its bays VACANT. -/
def calm : State :=
  { State.reset with
    now := 1000000000
    store := { Store.reset with loading := false, image := .written .factory }
    motion := { Motion.reset with
      cls := .still, nextSample := 1000002500, ring := List.replicate 64 0,
      lastSamples := List.replicate 8 { x := 0, y := 0, z := 1000 } }
    supply := { lastReading := some 12000, cls := .normal, budget := 24, nextReading := some 1000001000 } }

/-- A bay put into a state, with the claims that the state holds. -/
def put (b : BayNo) (st : BayState) (s : State) : State :=
  let s1 := s.modBay b (fun r => BayRec.enter st Profile.factory s.now { r with
    presence := true, latched := some Profile.factory, armed := true, prk := false,
    lastPulse := some (s.now - 4167), speed := some 7199 })
  match st with
  | .queued => { s1 with arbiter := { s1.arbiter with
      queue := s1.arbiter.queue ++ [{ bay := b, kind := .spin, skip := 2 }] } }
  | .parkQueued => { s1 with scheduler := { s1.scheduler with ordinary := s1.scheduler.ordinary ++ [b] } }
  | .unloading => { s1 with scheduler := { s1.scheduler with unloading := s1.scheduler.unloading + 1 } }
  | .spinningUp => { s1 with arbiter := { s1.arbiter with
      held := s1.arbiter.held + 8, grants := s1.arbiter.grants + 1 } }
  | .diag => { s1 with arbiter := { s1.arbiter with
      held := s1.arbiter.held + 1, grants := s1.arbiter.grants + 1,
      converter := { holder := some b, offsetDue := some (s.now + 1000), offset := none } } }
  | .held => s1.modBay b (fun r => { r with sticky := 4, pending := 4 })
  | .vacant | .stopped | .spun | .loading | .loaded | .spinningDown | .fenced => s1

/-- A bay queued for a test. -/
def putTest (b : BayNo) (s : State) : State :=
  { (s.modBay b (fun r => BayRec.enter .queued Profile.factory s.now { r with presence := true })) with
    arbiter := { s.arbiter with queue := s.arbiter.queue ++ [{ bay := b, kind := .test, skip := 0 }] } }

/-- A bay in each of the thirteen states, bay n in the n-th of them, and bay 13 queued for a test. -/
def zoo : State :=
  putTest 13 (put 12 .fenced (put 11 .held (put 10 .diag (put 9 .spinningDown (put 8 .unloading (put 7 .parkQueued
    (put 6 .loaded (put 5 .loading (put 4 .spun (put 3 .spinningUp (put 2 .queued (put 1 .stopped calm))))))))))))

/-- The case in TRANSIT_SAFE. -/
def safe (s : State) : State := { s with transit := { mode := .transitSafe, quietDue := none } }

/-- A case class pending. -/
def faulty (s : State) : State := { s with faults := { caseSticky := 8, casePending := 8, attn := true } }

/-- Every class masked. -/
def masked (s : State) : State := s.modWorking (fun w => { w with masks := BitVec.allOnes 13 })

/-- No class masked. -/
def unmasked (s : State) : State := s.modWorking (fun w => { w with masks := 0 })

/-- The unload width at 1. -/
def narrow (s : State) : State := s.modWorking (fun w => { w with case := { w.case with unloadWidth := 1 } })

/-- A frame on the line, so that the notices of an event wait: their order may be a free value (log 9). -/
def busyLine (s : State) : State :=
  { s with link := { s.link with tx := some { bytes := [], isReply := false, due := 2000000000 } } }

/-- The state after a command. -/
def after (c : Instr) (s : State) : State :=
  match exec c s with
  | .next t => t
  | .fault _ | .refused _ => s

/-- The STATUS and the body of the reply in the slot. -/
def reply (s : State) : Option (Status × List Byte) := s.link.slot.map (fun r => (r.status, r.body))

/-- The states of the sixteen bays. -/
def states (s : State) : List BayState := allBays.map (fun b => (s.bay b).state)

/-! ### One step of the commands -/

/-- The check value of CRC-16 with polynomial 0x1021 and start 0xFFFF over the nine digits. -/
theorem test_crc_of_the_nine_digits :
    crc16 [0x31, 0x32, 0x33, 0x34, 0x35, 0x36, 0x37, 0x38, 0x39] = 0x29B1 := by decide +kernel

theorem test_powerOn : (after .powerOn zoo).bays = Vector.replicate 16 BayRec.reset ∧
    (after .powerOn zoo).now = 0 := by decide +kernel

theorem test_resetN : caseClock (after (.resetN 5000) zoo).now = 1000005 ∧
    ((after (.resetN 5000) zoo).bay 4).state = .vacant := by decide +kernel

theorem test_startUpLoadEnd_of_a_new_part :
    (after (.startUpLoadEnd 14000) State.reset).faults = { caseSticky := 16, casePending := 16, attn := true } ∧
    (after (.startUpLoadEnd 14000) State.reset).supply.nextReading = some 15000 ∧
    (after (.startUpLoadEnd 14000) State.reset).transit = { mode := .normal, quietDue := some 10014000 } := by
  decide +kernel

theorem test_presenceDebounceDone :
    ((after (.presenceDebounceDone 500000 0) State.reset).bay 0).state = .stopped ∧
    ((after (.presenceDebounceDone 499000 0) State.reset).now = 500000) := by decide +kernel

theorem test_presenceDebounceRestart :
    ((after (.presenceDebounceRestart 0 0) calm).bay 0).timers.debounce = some 1000500000 := by decide +kernel

theorem test_removal_reports_pulled :
    ((after (.removal 0 8) (busyLine zoo)).bay 8).state = .vacant ∧
    ((after (.removal 0 8) (busyLine zoo)).bay 8).pending = 0x40 ∧
    ((after (.removal 0 8) (busyLine zoo)).bay 7).state = .unloading := by decide +kernel

/-- The example of 1.4: 4167 µs at two pulses for a revolution is 7199 rpm. -/
theorem test_tachPulse_speed : ((after (.tachPulse 0 9) zoo).bay 9).speed = some 7199 ∧
    speedOf 4166 2 = 7201 := by decide +kernel

theorem test_speedLossGapExpiry : ((after (.speedLossGapExpiry 500000 4) (unmasked zoo)).bay 4).state = .held ∧
    ((after (.speedLossGapExpiry 500000 4) (masked zoo)).bay 4).intent = .respin := by decide +kernel

theorem test_tachFirstExpiry : ((after (.tachFirstExpiry 1000000 3) (unmasked zoo)).bay 3).sticky = 1 ∧
    (after (.tachFirstExpiry 1000000 3) (unmasked zoo)).arbiter.held = 9 := by decide +kernel

theorem test_holdTimerExpiry : ((after (.holdTimerExpiry 12000000 3) (unmasked calm)).bay 3).state = .vacant ∧
    ((after (.holdTimerExpiry 12000000 3) (unmasked (put 3 .spinningUp calm))).bay 3).state = .held := by
  decide +kernel

theorem test_stopGapExpiry : ((after (.stopGapExpiry 1000000 9) zoo).bay 9).state = .stopped ∧
    ((after (.stopGapExpiry 1000000 9) zoo).bay 9).speed = some 0 := by decide +kernel

theorem test_stopTimeoutExpiry : (after (.stopTimeoutExpiry 0 9) zoo).now = 1030000000 := by decide +kernel

theorem test_prkDeasserted_starts_the_settle_period :
    ((after (.prkDeasserted 60000 5) (zoo.modBay 5 (fun r => { r with prk := true }))).bay 5).timers.settle =
      some 1000260000 := by decide +kernel

theorem test_settleComplete : ((after (.settleComplete 200000 5) zoo).bay 5).state = .loaded := by decide +kernel

theorem test_loadTimerExpiry : ((after (.loadTimerExpiry 1500000 5) (narrow zoo)).bay 5).state = .parkQueued ∧
    (after (.loadTimerExpiry 1500000 5) (narrow zoo)).scheduler.ordinary = [7, 5] := by decide +kernel

theorem test_park : ((after (.park 0 8) (narrow zoo)).bay 8).state = .spun ∧
    ((after (.park 0 8) (narrow zoo)).bay 7).state = .unloading := by decide +kernel

theorem test_unloadDeadlineExpiry : ((after (.unloadDeadlineExpiry 0 8) (unmasked zoo)).bay 8).state = .held ∧
    ((after (.unloadDeadlineExpiry 0 8) (masked zoo)).bay 8).state = .fenced := by decide +kernel

theorem test_offsetReadingComplete : ((after (.offsetReadingComplete 1000 10 12) zoo).bay 10).spen = some 8000 ∧
    ((after (.offsetReadingComplete 1000 10 12) zoo).bay 10).timers.testPulse = some 1000006000 := by decide +kernel

theorem test_testPulseEnd :
    ((after (.testPulseEnd 5000 10 112) (after (.offsetReadingComplete 1000 10 12) zoo)).bay 10).winding = .pass ∧
    ((after (.testPulseEnd 5000 10 111) (after (.offsetReadingComplete 1000 10 12) zoo)).bay 10).winding =
      .openCircuit := by decide +kernel

theorem test_motionSample_opens_a_jolt_record :
    ((after (.motionSample 0 true 3000 0 1000) zoo).newestJolt.map JoltRec.loaded) = some 0x01E0 ∧
    ((after (.motionSample 0 true 3000 0 1000) zoo).bay 6).joltsLoaded = 1 ∧
    (after (.motionSample 0 true 2999 0 1000) zoo).motion.jolts = [] := by decide +kernel

theorem test_sensorLost : (after (.sensorLost 0) zoo).motion.missing = 20 ∧
    (after (.sensorLost 0) zoo).now = 1000050000 ∧ (after (.sensorLost 0) zoo).motion.cls = .rolling := by
  decide +kernel

theorem test_supplyReading : (after (.supplyReading 0 11000) zoo).supply.budget = 8 ∧
    (after (.supplyReading 0 11001) zoo).supply.budget = 24 ∧
    (after (.supplyReading 0 10000) (busyLine zoo)).supply.cls = .cut := by decide +kernel

theorem test_quietTimerExpiry :
    (after (.quietTimerExpiry 0)
      { busyLine zoo with transit := { mode := .normal, quietDue := some 1000005000 } }).now = 1000005000 ∧
    (after (.quietTimerExpiry 0)
      { busyLine zoo with transit := { mode := .normal, quietDue := some 1000005000 } }).transit =
      { mode := .transitSafe, quietDue := none } := by decide +kernel

theorem test_commit_and_its_completion :
    (after (.commit 0 (ask [])) calm).store.image.passes = false ∧
    (after (.commitComplete 0 true) (after (.commit 0 (ask [])) calm)).store.image.passes = true ∧
    (after (.commitComplete 0 false) (after (.commit 0 (ask [])) calm)).faults.caseSticky = 16 := by decide +kernel

/-- A whole STATUS frame, byte by byte, is the STATUS command; its reply carries DONE. -/
theorem test_rxdByte_receives_a_frame :
    (([0xC3, 3, 0x01, 0, 7] ++ le16 (crc16 [3, 0x01, 0, 7])).foldl (fun s b => after (.rxdByte 0 b) s) zoo).link.slot =
      (after (.status 0 (ask [])) zoo).link.slot := by decide +kernel

theorem test_frameDiscard : (after (.frameDiscard 0 (.badLength 2))
    { zoo with link := { zoo.link with rx := .inside [] } }).link.rx = .hunting := by decide +kernel

theorem test_byteGapTimeout : (after (.byteGapTimeout 0)
    { zoo with link := { zoo.link with rx := .inside [3], gapDue := some 1000010001 } }).link.rx = .hunting := by
  decide +kernel

theorem test_crcMismatch : (after (.crcMismatch 0) { zoo with link := { zoo.link with rx := .inside [3] } }).link.slot =
    none := by decide +kernel

theorem test_unknownKind : ((after (.unknownKind 0 0x7F (ask [])) zoo).link.slot.map Reply.kind) = some 0xFF ∧
    reply (after (.unknownKind 0 0x7F (ask [])) zoo) = some (.unknown, []) := by decide +kernel

theorem test_txFrameEnd : (after (.txFrameEnd 0) (after (.viewUnpin 0 (ask [])) zoo)).link.slot = none := by
  decide +kernel

theorem test_status : (reply (after (.status 0 (ask [])) zoo)).map (fun p => p.2.drop 12) =
    some [0, 1, 2, 3, 4, 5, 6, 7, 8, 9, 10, 11, 12, 2, 0, 0] := by decide +kernel

theorem test_viewBay : (reply (after (.viewBay 0 (ask [0xFF])) zoo)).map (fun p => p.2.take 2) = some [0, 0] ∧
    (after (.viewBay 0 (ask [15])) zoo).link.cursor = 16 := by decide +kernel

theorem test_viewPin : (after (.viewPin 0 (ask [])) zoo).link.pin = some 0 := by decide +kernel

theorem test_viewEnvironment : (reply (after (.viewEnvironment 0 (ask [])) calm)).map (fun p => p.2.take 2) =
    some [0x8B, 0x00] ∧ (after (.viewEnvironment 0 (ask [])) calm).store.working.masks = 0x1FFF := by decide +kernel

theorem test_readJolts : reply (after (.readJolts 0 (ask [0])) zoo) = some (.done, [0, 0, 0]) ∧
    reply (after (.readJolts 0 (ask [8])) zoo) = some (.argument, []) := by decide +kernel

/-- The outcomes of SPIN UP with load-after yes at the bays of the example of 2.7. -/
theorem test_spinUp : reply (after (.spinUp 0 (ask [0x16, 0x22, 1])) zoo) =
    some (.partly, [1, 1, 2, 1, 4, 1, 9, 5, 13, 5]) := by decide +kernel

theorem test_spinDown : reply (after (.spinDown 0 (ask [0x1A, 0x02])) zoo) =
    some (.partly, [1, 0, 3, 1, 4, 1, 9, 0]) := by decide +kernel

/-- The outcomes of LOAD at the bays of the example of 3.7, without the exposure. -/
theorem test_load : reply (after (.load 0 (ask [0x58, 0x01])) zoo) =
    some (.partly, [3, 1, 4, 1, 6, 0, 8, 5]) := by decide +kernel

theorem test_unload : reply (after (.unload 0 (ask [0x50, 0x01, 1])) zoo) =
    some (.accepted, [4, 1, 6, 1, 8, 1]) := by decide +kernel

theorem test_testWinding : reply (after (.testWinding 0 (ask [0x02, 0])) calm) = some (.partly, [1, 5]) ∧
    ((after (.testWinding 0 (ask [0x02, 0])) (put 1 .stopped calm)).bay 1).state = .diag := by decide +kernel

theorem test_release : reply (after (.release 0 (ask [0, 8])) zoo) = some (.partly, [11, 5]) ∧
    reply (after (.release 0 (ask [0, 8])) (zoo.modBay 11 (fun r => { r with prk := true }))) =
      some (.accepted, [11, 1]) := by decide +kernel

theorem test_clearFaults : reply (after (.clearFaults 0 (ask [1, 0, 8])) zoo) = some (.done, [11, 0]) ∧
    ((after (.clearFaults 0 (ask [1, 0, 8])) zoo).bay 11).pending = 4 := by decide +kernel

theorem test_takeContext : ((after (.takeContext 0 (ask [12])) zoo).bay 12).state = .stopped ∧
    reply (after (.takeContext 0 (ask [11])) zoo) = some (.state, []) := by decide +kernel

theorem test_setMasks : (after (.setMasks 0 (ask [0xFF, 0xFF])) zoo).store.working.masks = 0x1FFF := by decide +kernel

theorem test_forceSafe : states (after (.forceSafe 0 (ask [])) zoo) =
    [.vacant, .stopped, .stopped, .spinningDown, .spinningDown, .unloading, .unloading, .unloading, .unloading,
     .spinningDown, .stopped, .held, .fenced, .stopped, .vacant, .vacant] := by decide +kernel

theorem test_leaveSafe : (after (.leaveSafe 0 (ask [])) (safe calm)).transit =
    { mode := .normal, quietDue := some 1010000000 } := by decide +kernel

theorem test_setSetting : reply (after (.setSetting 0 (ask [1, 63, 0])) zoo) = some (.done, [1, 63, 0]) ∧
    reply (after (.setSetting 0 (ask [1, 64, 0])) zoo) = some (.kept, [1, 24, 0]) := by decide +kernel

theorem test_getSetting : reply (after (.getSetting 0 (ask [10])) zoo) = some (.done, [10, 0xB8, 0x0B]) := by
  decide +kernel

theorem test_setProfile :
    reply (after (.setProfile 0 (ask (7 :: ({ Profile.factory with rank := 3 } : Profile).image))) zoo) =
      some (.done, 7 :: ({ Profile.factory with rank := 3 } : Profile).image) := by decide +kernel

theorem test_getProfile : reply (after (.getProfile 0 (ask [7])) zoo) =
    some (.done, [7, 8, 2, 0x6C, 0x1B, 0xD4, 0x1C, 0xE8, 0x03, 12, 3, 0, 0xDC, 0x05, 0xC8, 0, 0x96, 0, 30]) := by
  decide +kernel

theorem test_setBay : reply (after (.setBay 0 (ask [15, 7])) zoo) = some (.done, [15, 7]) ∧
    reply (after (.setBay 0 (ask [15, 8])) zoo) = some (.kept, [15, 0]) := by decide +kernel

theorem test_recall : reply (after (.recall 0 (ask [])) zoo) = some (.done, []) ∧
    reply (after (.recall 0 (ask [])) { zoo with store := { zoo.store with image := .newPart } }) =
      some (.store, []) := by decide +kernel

theorem test_restart : reply (after (.restart 0 (ask [])) zoo) = some (.state, []) ∧
    states (after (.restart 0 (ask [])) (put 2 .queued (put 12 .fenced calm))) =
      allBays.map (fun b => if b = 2 ∨ b = 12 then .stopped else .vacant) := by decide +kernel

/-- An empty queue ticks; a command at the front of the queue is taken. -/
theorem test_step : caseClock (match step calm with | .next t => t.now | .fault _ | .refused _ => 0) = 1000001 ∧
    (match step { calm with pending := [.resetN 7, .powerOn] } with
      | .next t => (t.now, t.pending) | .fault _ | .refused _ => (0, [])) = (1000000007, [.powerOn]) := by
  decide +kernel

end Sys2Proof.Tests
end

