-- ==== Sys2Proof/Tests/Witnesses.lean ====
section
/-! SUPPORT. For every statement that has hypotheses, a state and operands that meet them, clause by clause, at values
where the clauses meet. -/

namespace Sys2Proof.Tests

open Sys2Proof Sys2Proof.Machine

set_option Elab.async false

/-! ### The invariants that stand as premises -/

theorem zoo_queuesMatch : zoo.queuesMatch := by unfold State.queuesMatch; decide +kernel

theorem zoo_countsMatch : zoo.countsMatch := by unfold State.countsMatch; decide +kernel

theorem safe_calm_queuesMatch : (safe calm).queuesMatch := by unfold State.queuesMatch; decide +kernel

/-- A case at rest: bay 2 queued, bay 12 FENCED, bay 11 HELD and parked with the spindle off. -/
def resting : State :=
  (put 2 .queued (put 12 .fenced (put 11 .held calm))).modBay 11 (fun r => { r with prk := true, spindleOn := false })

theorem resting_queuesMatch : resting.queuesMatch := by unfold State.queuesMatch; decide +kernel

theorem resting_countsMatch : resting.countsMatch := by unfold State.countsMatch; decide +kernel

/-- A bay's timer of each kind runs. -/
def timed (b : BayNo) (s : State) : State :=
  s.modBay b (fun r => { r with timers := {
    debounce := some 1000001000, tachFirst := some 1000001000, hold := some 1000001000, gap := some 1000001000,
    load := some 1000001000, settle := some 1000001000, unloadDeadline := some 1000001000,
    stopGap := some 1000001000, stopTimeout := some 1000001000, testPulse := some 1000001000 } })

/-- PRK of a bay asserted. -/
def parked (b : BayNo) (s : State) : State := s.modBay b (fun r => { r with prk := true })

/-- The intent of a bay. -/
def intends (b : BayNo) (i : Intent) (s : State) : State := s.modBay b (fun r => { r with intent := i })

/-- An open jolt record that still waits for one bay. -/
def joltOf (b : BayNo) (s : State) : State :=
  { s with motion := { s.motion with jolts := [{
      isOpen := true, time := 999999, peak := 3000, count := 1, classBefore := .still, loaded := baySetOf (· = b),
      parked := 0, late := 0, pulled := 0, duration := none }] } }

/-- The quiet code set. -/
def quiet (code : Nat) (s : State) : State :=
  s.modWorking (fun w => { w with case := { w.case with quietCode := code } })

/-! ### Steps and resets -/

theorem witness_StepTakesTheFrontCommand : ({ zoo with pending := [.powerOn] } : State).pending = [.powerOn] := rfl

theorem witness_IdleStepIsOneMillisecond : zoo.pending = [] := by decide +kernel

theorem witness_ArbiterStartsEmpty :
    zoo.handsUnchecked .restart (ask []) ∧ zoo.store.commit = none ∧ (zoo.bay 3).state = .spinningUp ∧
    (zoo.bay 10).state = .diag ∧
    resting.handsUnchecked .restart (ask []) ∧ resting.store.commit = none ∧
    (∀ b, (resting.bay b).refusesRestart = false) ∧ (resting.bay 2).state = .queued := by
  unfold State.handsUnchecked State.hands State.checkRefuses; decide +kernel

theorem witness_SchedulerStartsEmpty :
    zoo.handsUnchecked .restart (ask []) ∧ zoo.store.commit = none ∧ (zoo.bay 7).state = .parkQueued ∧
    (zoo.bay 8).state = .unloading ∧
    resting.handsUnchecked .restart (ask []) ∧ (∀ b, (resting.bay b).refusesRestart = false) := by
  unfold State.handsUnchecked State.hands State.checkRefuses; decide +kernel

/-- The load runs; the image fails or passes; the code in force afterwards is 4 or 7. -/
theorem witness_StartUpLoadEnds :
    State.reset.store.loading = true ∧ State.reset.store.image.passes = false ∧
    (after (.startUpLoadEnd 0) State.reset).settings.quietCode = 4 ∧
    ({ calm with store := { calm.store with loading := true } } : State).store.image.passes = true ∧
    (busyLine (quiet 7 State.reset)).store.loading = true ∧
    (after (.startUpLoadEnd 0) (busyLine (quiet 7 State.reset))).settings.quietCode = 7 := by decide +kernel

/-! ### Presence -/

theorem witness_PresenceDebounce :
    (State.reset.bay 0).state = .vacant ∧ (State.reset.bay 0).timers.debounce = some 500000 ∧
    (State.reset.bay 15).state = .vacant := by decide +kernel

theorem witness_RemovalVacatesTheBay :
    (∀ b : BayNo, 1 ≤ b.val → b.val ≤ 13 → (zoo.bay b).state ≠ .vacant) ∧
    (∃ j, (joltOf 8 zoo).newestJolt = some j ∧ j.isOpen = true ∧ j.awaits 8 = true) ∧
    BayFault.pulled.maskedBy zoo.store.working.masks = false ∧
    (put 8 .unloading calm).scheduler.ordinary = [] ∧
    ((put 3 .spinningUp calm).bay 3).state = .spinningUp ∧ (put 3 .spinningUp calm).arbiter.queue = [] ∧
    ((put 10 .diag calm).bay 10).state = .diag ∧ (put 10 .diag calm).arbiter.queue = [] := by
  and_intros <;> decide +kernel

/-! ### Spindles -/

/-- The interval at its ends: 1 µs and 1000 ms measure, 1000 ms and 1 µs does not, and neither does a first pulse. -/
theorem witness_TachMeasuresSpeed :
    (zoo.bay 4).state ≠ .vacant ∧ (zoo.bay 4).lastPulse = some (zoo.now - 4167) ∧
    zoo.measures 4 zoo.now 7199 ∧ zoo.measures 4 (zoo.now - 4166) 65535 ∧ zoo.measures 4 (zoo.now + 995833) 30 ∧
    1000000 < zoo.now + 995834 - (zoo.now - 4167) ∧ (calm.bay 1).lastPulse = none ∧
    (zoo.bay 3).state = .spinningUp ∧ zoo.measures 3 zoo.now 7199 ∧ zoo.inSpeedWindow 3 7199 ∧
    (zoo.bay 3).atSpeed = 0 ∧ zoo.measures 3 (zoo.now + 1) 7197 ∧ zoo.measures 3 (zoo.now + 833) 6000 ∧
    ¬ zoo.inSpeedWindow 3 6000 := by
  unfold State.inSpeedWindow
  and_intros
  all_goals first | decide +kernel | exact ⟨_, rfl, by decide +kernel⟩

/-- The interval of a bay broken: no pulse before, or one more than 1000 ms before. -/
def unmeasured (last : Option Nat) (b : BayNo) (s : State) : State := s.modBay b (fun r => { r with lastPulse := last })

theorem witness_TachPulse_without_a_measurement :
    ((unmeasured none 3 zoo).bay 3).lastPulse = none ∧ ((unmeasured none 3 zoo).bay 3).state = .spinningUp ∧
    ((unmeasured (some 999999999) 3 zoo).bay 3).lastPulse = some 999999999 ∧
    1000000 < (unmeasured (some 999999999) 3 zoo).now + 1000000 - 999999999 ∧ (unmeasured none 3 zoo).queuesMatch ∧
    (∀ b : BayNo, 4 ≤ b.val → b.val ≤ 8 → ((unmeasured none b zoo).bay b).lastPulse = none ∧
      ((unmeasured none b zoo).bay b).armed = true ∧
      (((unmeasured none b zoo).bay b).state = .spun ∨
        ((unmeasured none b zoo).bay b).state.inLoadedCondition = true)) := by
  unfold State.queuesMatch; decide +kernel

/-- Bay 3 one measurement short of its speed, with its load-on-arrival flag. -/
def nearly (flag : Bool) (s : State) : State :=
  s.modBay 3 (fun r => { r with atSpeed := 3, loadOnArrival := flag })

theorem witness_FourthMeasurementReachesSpeed :
    (nearly false zoo).queuesMatch ∧ (nearly false zoo).measures 3 zoo.now 7199 ∧
    (nearly false zoo).inSpeedWindow 3 7199 ∧ ((nearly false zoo).bay 3).atSpeed = 3 ∧
    (nearly true zoo).admission 3 = .accepted ∧ (nearly true zoo).transit.mode = .normal ∧
    (nearly true { zoo with motion := { zoo.motion with cls := .unsettled } }).admission 3 = .motion ∧
    ((nearly true zoo).modWorking (fun w => { w with case := { w.case with exposureLimit := 1 } })
      |>.modBay 3 (fun r => { r with joltsLoaded := 1 })).admission 3 = .exposed ∧
    (nearly true (safe zoo)).transit.mode = .transitSafe ∧
    (nearly false (put 3 .spinningUp calm)).arbiter.queue = [] := by
  unfold State.queuesMatch State.inSpeedWindow
  and_intros
  all_goals first | decide +kernel | exact ⟨_, rfl, by decide +kernel⟩

theorem witness_TachPulseAbortsATest : (zoo.bay 10).state = .diag ∧ (put 10 .diag calm).arbiter.queue = [] := by
  decide +kernel

theorem witness_SpeedLossOfASpunBay :
    (zoo.bay 4).state = .spun ∧ (zoo.bay 8).state.inLoadedCondition = true ∧ (zoo.bay 4).armed = true ∧
    (zoo.bay 8).armed = true ∧ zoo.measures 4 zoo.now 7199 ∧ zoo.inSpeedWindow 4 7199 ∧
    zoo.measures 4 (zoo.now + 833) 6000 ∧ ¬ zoo.inSpeedWindow 4 6000 ∧ (zoo.bay 4).outside = 0 ∧
    ((zoo.modBay 4 (fun r => { r with outside := 3 })).bay 4).outside = 3 ∧
    (zoo.bay 4).timers.gap = some 1000500000 ∧
    BayFault.speedLoss.maskedBy (masked zoo).store.working.masks = true ∧
    BayFault.speedLoss.maskedBy (unmasked zoo).store.working.masks = false := by
  unfold State.inSpeedWindow
  and_intros
  all_goals first | decide +kernel | exact ⟨_, rfl, by decide +kernel⟩

theorem witness_SpeedLossOfALoadedBay :
    (∀ b : BayNo, 5 ≤ b.val → b.val ≤ 8 → ((timed b zoo).bay b).armed = true ∧
      ((timed b zoo).bay b).timers.gap = some 1000001000) ∧
    (narrow zoo).settings.unloadWidth ≤ (narrow zoo).scheduler.unloading ∧ (narrow zoo).queuesMatch ∧
    (timed 6 (put 6 .loaded calm)).scheduler.unloading < calm.settings.unloadWidth ∧
    (timed 6 (put 6 .loaded calm)).scheduler.ordinary = [] ∧ ((timed 6 (put 6 .loaded calm)).bay 6).prk = false := by
  unfold State.queuesMatch; decide +kernel

/-- Bay `b` three measurements outside its window. -/
def slipping (b : BayNo) (s : State) : State := s.modBay b (fun r => { r with outside := 3 })

/-- The fourth measurement outside the window of a LOADED bay, and a loaded bay whose PRK is asserted. -/
theorem witness_SpeedLossOfALoadedBay_pulse :
    ((slipping 6 (narrow zoo)).bay 6).outside = 3 ∧ (slipping 6 (narrow zoo)).measures 6 (zoo.now + 833) 6000 ∧
    ¬ (slipping 6 (narrow zoo)).inSpeedWindow 6 6000 ∧ (slipping 6 (narrow zoo)).queuesMatch ∧
    ((parked 6 (slipping 6 (put 6 .loaded calm))).bay 6).prk = true ∧
    ((parked 6 (slipping 6 (put 6 .loaded calm))).bay 6).intent = .none ∧
    (parked 6 (slipping 6 (put 6 .loaded calm))).measures 6 (calm.now + 833) 6000 ∧
    (parked 6 (slipping 6 (put 6 .loaded calm))).queuesMatch ∧
    BayFault.speedLoss.maskedBy (masked (put 6 .loaded calm)).store.working.masks = true ∧
    BayFault.speedLoss.maskedBy (unmasked (put 6 .loaded calm)).store.working.masks = false := by
  unfold State.queuesMatch State.inSpeedWindow
  and_intros
  all_goals first | decide +kernel | exact ⟨_, rfl, by decide +kernel⟩

theorem witness_SpinUpFailures :
    ((timed 3 zoo).bay 3).timers.tachFirst = some 1000001000 ∧ ((timed 3 zoo).bay 3).timers.hold = some 1000001000 ∧
    ((timed 3 zoo).bay 3).state = .spinningUp ∧ (zoo.governing 3).retryLimit = 3 ∧ (zoo.bay 3).attempts = 0 ∧
    ((zoo.modBay 3 (fun r => { r with attempts := 2 })).bay 3).attempts = 2 ∧
    BayFault.spinSlow.maskedBy (masked zoo).store.working.masks = true ∧
    BayFault.spinSlow.maskedBy (unmasked zoo).store.working.masks = false ∧
    (put 3 .spinningUp calm).arbiter.queue = [] := by decide +kernel

theorem witness_SpindleComesToRest :
    (zoo.bay 9).state = .spinningDown ∧ (zoo.bay 9).timers.stopGap = some 1001000000 ∧
    (zoo.bay 9).timers.stopTimeout = some 1030000000 ∧ (zoo.bay 9).intent = .none ∧
    ((intends 9 .respin zoo).bay 9).intent = .respin ∧ zoo.transit.mode = .normal := by decide +kernel

/-! ### Heads -/

theorem witness_SettlePeriodLoadsTheBay :
    ((parked 5 zoo).bay 5).prk = true ∧ ((parked 5 zoo).bay 5).state = .loading ∧ (zoo.bay 5).prk = false ∧
    (zoo.bay 6).state ≠ .loading ∧ (zoo.bay 5).timers.settle = some 1000200000 := by decide +kernel

theorem witness_LateLoadIsUnloaded :
    (zoo.bay 5).state = .loading ∧ (zoo.bay 5).timers.load = some 1001500000 ∧
    (narrow zoo).settings.unloadWidth ≤ (narrow zoo).scheduler.unloading ∧ (narrow zoo).queuesMatch ∧
    (put 5 .loading calm).scheduler.ordinary = [] ∧ ((parked 5 (put 5 .loading calm)).bay 5).prk = true ∧
    BayFault.loadLate.maskedBy (masked zoo).store.working.masks = true ∧
    BayFault.loadLate.maskedBy (unmasked zoo).store.working.masks = false := by
  unfold State.queuesMatch; decide +kernel

theorem witness_ParkFollowsTheIntent :
    (zoo.bay 8).state = .unloading ∧ (zoo.bay 8).intent = .none ∧ (safe zoo).transit.mode = .transitSafe ∧
    ((intends 8 .stopAfter zoo).bay 8).intent = .stopAfter ∧ ((intends 8 .holdAfter zoo).bay 8).pending = 0 ∧
    ((zoo.modBay 8 (fun r => { r with intent := .holdAfter, pending := 4, sticky := 4 })).bay 8).pending ≠ 0 ∧
    (put 8 .unloading calm).scheduler.ordinary = [] ∧ (zoo.bay 5).state ≠ .unloading ∧
    (∃ j, (joltOf 8 zoo).newestJolt = some j ∧ j.isOpen = true ∧ j.awaits 8 = true) := by
  and_intros <;> decide +kernel

theorem witness_LateUnloadFencesOrHolds :
    (zoo.bay 8).state = .unloading ∧ (zoo.bay 8).timers.unloadDeadline = some 1000150000 ∧
    BayFault.unloadLate.maskedBy (masked zoo).store.working.masks = true ∧
    BayFault.unloadLate.maskedBy (unmasked zoo).store.working.masks = false ∧
    (put 8 .unloading calm).scheduler.ordinary = [] := by decide +kernel

/-- Two entries, of bays 1 and 2, that cost 8 su each, under a held total. -/
def contended (held : Nat) : State :=
  { put 2 .queued (put 1 .queued calm) with arbiter := { (put 2 .queued (put 1 .queued calm)).arbiter with held := held } }

/-- A candidate that fits, one that does not with none behind it that does, and one past which a cheaper one fits. -/
theorem witness_QueuePassesFollowTheirOrder :
    (contended 16).transit.mode = .normal ∧ (contended 16).arbiter.grants < (contended 16).settings.concurrencyLimit ∧
    ((contended 16).inModeOrder ((contended 16).arbiter.queue.filter (contended 16).eligible)).map SpinEntry.bay =
      [1, 2] ∧
    (contended 16).arbiter.held + (contended 16).cost { bay := 1, kind := .spin, skip := 2 } =
      (contended 16).supply.budget ∧
    (contended 17).supply.budget < (contended 17).arbiter.held + (contended 17).cost { bay := 1, kind := .spin, skip := 2 } ∧
    (contended 17).settings.skipLimit = 3 ∧
    ((putTest 2 { put 1 .queued calm with arbiter := { (put 1 .queued calm).arbiter with held := 23 } }).cost
      { bay := 2, kind := .test, skip := 0 }) = 1 := by decide +kernel

/-- The arbiter mode set. -/
def ordering (m : ArbiterMode) (s : State) : State :=
  s.modWorking (fun w => { w with case := { w.case with arbiterMode := m } })

/-- Valid settings in each mode; a pass that grants a SPIN entry, one that grants a TEST entry, and one that passes over
its candidate. -/
theorem witness_QueuePassesFollowTheirOrder_passes :
    (∀ m ∈ [ArbiterMode.arrival, .rotate, .ranked], (ordering m (contended 0)).store.working.valid = true) ∧
    (contended 0).pass.map (fun p => p.granted.kind) = some .spin ∧
    (putTest 2 calm).pass.map (fun p => p.granted.kind) = some .test ∧
    (putTest 2 { put 1 .queued calm with arbiter := { (put 1 .queued calm).arbiter with held := 23 } }).pass.map
      (fun p => p.skipped) = some (some 1) := by decide +kernel

/-- Entries of both kinds, eligible or not; the common profile on and off. -/
theorem witness_QueuePassesFollowTheirOrder_eligibility :
    (∀ e ∈ zoo.arbiter.queue, zoo.eligible e = (e.kind == .spin)) ∧ (zoo.arbiter.queue.map SpinEntry.kind) = [.spin, .test] ∧
    zoo.settings.commonProfile = false ∧
    (zoo.modWorking (fun w => { w with case := { w.case with commonProfile := true } })).settings.commonProfile =
      true := by decide +kernel

/-- The PARK_QUEUED bay of the zoo in the emergency section. -/
def urgent (s : State) : State := { s with scheduler := { s.scheduler with emergency := [7], ordinary := [] } }

/-- A head in each section with room for it, no room, and an empty queue; a sweep takes up bays 5, 6 and 7 behind what
stands there. -/
theorem witness_QueuePassesFollowTheirOrder_starts :
    zoo.scheduler.unloading < zoo.settings.unloadWidth ∧ zoo.scheduler.emergency = [] ∧ zoo.scheduler.ordinary = [7] ∧
    (urgent zoo).scheduler.emergency = [7] ∧ (narrow zoo).settings.unloadWidth ≤ (narrow zoo).scheduler.unloading ∧
    resting.scheduler.emergency = [] ∧ resting.scheduler.ordinary = [] ∧ (zoo.bay 7).prk = false ∧
    ((parked 7 zoo).bay 7).prk = true ∧ (urgent zoo).queuesMatch ∧
    ((narrow zoo).sweep .jolt).scheduler.emergency = [5, 6, 7] ∧
    ((narrow (urgent zoo)).sweep .jolt).scheduler.emergency = [7, 5, 6] := by
  unfold State.queuesMatch; decide +kernel

theorem witness_WindingTestRuns :
    (zoo.bay 10).state = .diag ∧ zoo.arbiter.converter.holder = some 10 ∧
    zoo.arbiter.converter.offsetDue = some 1000001000 ∧
    ((after (.offsetReadingComplete 0 10 12) zoo).bay 10).timers.testPulse = some 1000006000 ∧
    (after (.offsetReadingComplete 0 10 12) zoo).arbiter.converter.offset = some 12 ∧
    (after (.offsetReadingComplete 0 10 12) zoo).queuesMatch ∧
    zoo.settings.openThreshold = 100 ∧ zoo.settings.shortThreshold = 3000 ∧
    (after (.offsetReadingComplete 0 10 12) (put 10 .diag calm)).arbiter.queue = [] := by
  unfold State.queuesMatch; decide +kernel

/-! ### Motion and supply -/

/-- The ends of the ranges of a sample, the counts about the twentieth missing sample, and a lost sensor. -/
theorem witness_SampleAccounting :
    sampleValid true { x := -16000, y := 16000, z := 0 } = true ∧
    sampleValid true { x := -16001, y := 0, z := 0 } = false ∧ zoo.motion.lost = false ∧ zoo.motion.missing + 1 < 20 ∧
    ({ zoo with motion := { zoo.motion with missing := 18 } } : State).motion.missing + 1 < 20 := by decide +kernel

/-- The deviation at the roll threshold and below it; the dwell at its end. -/
theorem witness_MotionClassSettles :
    sampleValid true { x := 150, y := 0, z := 1000 } = true ∧ zoo.motion.lost = false ∧ zoo.motion.cls = .still ∧
    zoo.motion.deviation { x := 150, y := 0, z := 1000 } = 150 ∧ zoo.settings.rollThreshold = 150 ∧
    (after (.motionSample 0 true 150 0 1000) zoo).motion.cls = .unsettled ∧
    (after (.motionSample 0 true 149 0 1000) zoo).motion.cls = .still := by decide +kernel

/-- The rolling policy set, in a case one sample short of rolling. -/
def aboutToRoll (p : RollingPolicy) (s : State) : State :=
  { s.modWorking (fun w => { w with case := { w.case with rollingPolicy := p } }) with
    motion := { s.motion with ring := List.replicate 64 150 } }

/-- A SPUN bay that waits with its load-on-arrival flag. -/
def waiting (s : State) : State := s.modBay 4 (fun r => { r with loadOnArrival := true })

/-- A change to STILL with a bay that waits, or whose admission is EXPOSED; UNSETTLED kept with and without a deviation;
an entry into ROLLING under each policy. -/
theorem witness_MotionClassSettles_changes :
    (after (.motionSample 0 true 0 0 1000) (busyLine (waiting
      { zoo with motion := { zoo.motion with cls := .unsettled } }))).motion.cls = .still ∧
    ((waiting zoo).bay 4).state = .spun ∧ ((waiting zoo).bay 4).loadOnArrival = true ∧
    (waiting zoo).admission 4 = .accepted ∧ (waiting zoo).transit.mode = .normal ∧ zoo.supply.cls ≠ .cut ∧
    (((waiting zoo).modWorking (fun w => { w with case := { w.case with exposureLimit := 1 } })).modBay 4
      (fun r => { r with joltsLoaded := 1 })).admission 4 = .exposed ∧
    (∀ x ∈ [0, 150], (after (.motionSample 0 true x 0 1000)
      { zoo with motion := { zoo.motion with cls := .unsettled, dwellStart := zoo.now } }).motion.cls = .unsettled) ∧
    (∀ p ∈ [RollingPolicy.keep, .park, .parkAndStop],
      (after (.motionSample 0 true 0 0 1000) (aboutToRoll p zoo)).motion.cls = .rolling) ∧
    (aboutToRoll .park zoo).queuesMatch ∧ (aboutToRoll .park zoo).motion.cls = .still := by
  unfold State.queuesMatch; decide +kernel

/-- A jolt at the threshold; none before it, one 200 ms before it, one 200 ms and 2.5 ms before it. -/
theorem witness_JoltsOpenOrMerge :
    zoo.store.working.valid = true ∧ zoo.settings.joltThreshold = 3000 ∧
    zoo.motion.deviation { x := 3000, y := 0, z := 1000 } = 3000 ∧ zoo.motion.jolts = [] ∧
    zoo.motion.lastJolt = none ∧
    (after (.motionSample 0 true 3000 0 1000) (after (.motionSample 0 true 3000 0 1000) zoo)).motion.opened = 1 ∧
    (after (.motionSample 0 true 3000 0 1000) { calm with motion := { calm.motion with
      lastJolt := some 999802500 } }).motion.opened = 0 ∧
    (after (.motionSample 0 true 3000 0 1000) { calm with motion := { calm.motion with
      lastJolt := some 999800000 } }).motion.opened = 1 ∧
    (∀ b, (calm.bay b).state.inLoadedCondition = false) ∧
    (zoo.bay 2).state = .queued ∧ (zoo.bay 4).state = .spun ∧ (zoo.bay 1).state = .stopped ∧
    ((after (.motionSample 0 true 3000 0 1000) zoo).bay 2).state = .spinningUp ∧
    ((after (.motionSample 0 true 3000 0 1000) { zoo with arbiter := { zoo.arbiter with held := 24 } }).bay 2).state =
      .queued := by decide +kernel

theorem witness_SensorLossAndRecovery :
    zoo.motion.lost = false ∧ (after (.sensorLost 0) zoo).motion.lost = true ∧
    sampleValid true { x := 0, y := 0, z := 1000 } = true ∧ (zoo.bay 4).state = .spun ∧
    ({ zoo with motion := { zoo.motion with missing := 19 } } : State).motion.missing = 19 ∧
    sampleValid false { x := 0, y := 0, z := 1000 } = false ∧
    (after (.motionSample 0 false 0 0 1000) { zoo with motion := { zoo.motion with missing := 19 } }).motion.lost =
      true := by decide +kernel

/-- A case in CUT. -/
def starved (s : State) : State :=
  busyLine { s with supply := { s.supply with lastReading := some 10000, cls := .cut, budget := 0 } }

/-- A first reading, and each class a reading leaves; a bay that waits on leaving CUT. -/
theorem witness_SupplyReadingSettlesTheClass :
    zoo.supply.nextReading = some 1000001000 ∧ zoo.supply.cls = .normal ∧
    (after (.supplyReading 0 11000) zoo).supply.cls = .low ∧
    (after (.supplyReading 0 11200) (after (.supplyReading 0 11000) zoo)).supply.cls = .normal ∧
    (after (.supplyReading 0 11199) (after (.supplyReading 0 11000) zoo)).supply.cls = .low ∧
    (after (.supplyReading 0 10199) (starved zoo)).supply.cls = .cut ∧
    (after (.supplyReading 0 10200) (starved zoo)).supply.cls = .low ∧
    (after (.supplyReading 0 11200) (starved zoo)).supply.cls = .normal ∧
    ((waiting (starved zoo)).bay 4).state = .spun ∧ ((waiting (starved zoo)).bay 4).loadOnArrival = true ∧
    (waiting (starved zoo)).admission 4 = .supply ∧ (starved zoo).motion.cls = .still ∧
    (waiting (starved zoo)).queuesMatch ∧
    (((waiting (starved zoo)).modWorking (fun w => { w with case := { w.case with exposureLimit := 1 } })).modBay 4
      (fun r => { r with joltsLoaded := 1 })).admission 4 = .exposed ∧
    (after (.startUpLoadEnd 0) State.reset).supply.lastReading = none ∧
    (after (.startUpLoadEnd 0) State.reset).supply.nextReading = some 1000 := by
  unfold State.queuesMatch; decide +kernel

theorem witness_CutActions :
    zoo.store.working.valid = true ∧ zoo.supply.nextReading = some 1000001000 ∧ zoo.settings.supplyCutoff = 10000 ∧
    zoo.supply.cls ≠ .cut ∧ (zoo.bay 3).state = .spinningUp ∧ (zoo.bay 10).state = .diag ∧
    (zoo.bay 5).state = .loading ∧ (zoo.bay 12).state = .fenced := by decide +kernel

/-! ### Transit safety -/

/-- The quiet timer running under code 4. -/
def watched (s : State) : State := { s with transit := { mode := .normal, quietDue := some 1000001000 } }

theorem witness_QuietTimerMakesTheCaseSafe :
    (watched zoo).queuesMatch ∧ (watched zoo).transit.mode = .normal ∧
    (watched zoo).transit.quietDue = some 1000001000 ∧
    CaseFault.quiet.maskedBy (unmasked zoo).store.working.masks = false := by
  unfold State.queuesMatch; decide +kernel

theorem witness_ForceAndLeaveSafe :
    zoo.hands .forceSafe (ask []) ∧ ¬ zoo.checkRefuses (ask []) ∧ zoo.transit.mode = .normal ∧
    (faulty zoo).hands .forceSafe (askChecked []) ∧ (faulty zoo).checkRefuses (askChecked []) ∧
    ¬ zoo.checkRefuses (askChecked []) ∧ (safe calm).hands .forceSafe (ask []) ∧
    (safe calm).transit.mode = .transitSafe ∧ (safe calm).hands .leaveSafe (ask []) ∧
    (faulty zoo).hands .leaveSafe (askChecked []) ∧ zoo.hands .leaveSafe (ask []) := by
  unfold State.hands State.checkRefuses; decide +kernel

/-! ### The link -/

/-- The receiver inside a frame, with the byte gap watched. -/
def receiving (got : List Byte) : State :=
  { zoo with link := { zoo.link with rx := .inside got, gapDue := some 1000010001 } }

/-- LENGTH at 2, 3, 243 and 244; a frame one byte short; a whole STATUS frame, one of an unknown KIND and one whose CRC
fails; the byte gap one µs short and at its end. -/
theorem witness_ReceiverTakesBytes :
    zoo.link.rx = .hunting ∧ zoo.link.gapDue = none ∧ (receiving []).link.rx = .inside [] ∧
    (receiving []).link.gapDue = some 1000010001 ∧ (receiving []).now + 10000 < 1000010001 ∧
    1000010001 ≤ (receiving []).now + 10001 ∧
    (receiving [3, 1, 0]).link.rx = .inside (3 :: [1, 0]) ∧ ([1, 0] : List Byte).length + 1 < 3 + 2 ∧
    (le16 (crc16 [3, 0x01, 0, 7])).length = 2 ∧ ReqKind.status.code = 0x01 ∧ (∀ k : ReqKind, k.code ≠ 0x7F) ∧
    ([0, 0] : List Byte) ≠ le16 (crc16 [3, 0x01, 0, 7]) := by
  and_intros
  all_goals first | decide +kernel | (intro k; cases k <;> decide)

/-- The slot occupied; the start-up load running; a body of one byte for STATUS. -/
theorem witness_FramesTurnedAway :
    (after (.viewPin 0 (ask [])) zoo).link.slot.isSome = true ∧ State.reset.link.slot = none ∧
    State.reset.store.loading = true ∧ zoo.link.slot = none ∧ zoo.store.loading = false ∧
    (ask [0]).body.length ≠ ReqKind.status.bodyLen := by decide +kernel

/-- The reply on the line; a notice on the line with the reply waiting; a notice on the line with another waiting. -/
theorem witness_TheLineSendsWhatWaits :
    ((after (.viewPin 0 (ask [])) zoo).link.tx.map TxFrame.isReply) = some true ∧
    ((after (.settleComplete 0 5) zoo).link.tx.map TxFrame.isReply) = some false ∧
    ((after (.viewPin 0 (ask [])) (after (.settleComplete 0 5) zoo)).link.tx.map TxFrame.isReply) = some false ∧
    ((after (.viewPin 0 (ask [])) (after (.settleComplete 0 5) zoo)).link.slot.isSome) = true ∧
    ((after (.stopGapExpiry 0 9) (after (.settleComplete 0 5) zoo)).link.notices.map Notice.source) =
      [.bay 9] ∧ zoo.link.tx = none := by decide +kernel

theorem witness_StatusReportsTheCase :
    zoo.hands .status (ask []) ∧ State.reset.hands .status (ask []) := by unfold State.hands; decide +kernel

theorem witness_ViewBayWalksTheRecords :
    zoo.hands .viewBay (ask [15]) ∧ zoo.hands .viewBay (ask [16]) ∧ zoo.hands .viewBay (ask [254]) ∧
    zoo.hands .viewBay (ask [255]) ∧ zoo.link.pin = none ∧ zoo.link.cursor.val = 0 ∧
    ({ zoo with link := { zoo.link with cursor := 16 } } : State).hands .viewBay (ask [255]) ∧
    ({ zoo with link := { zoo.link with pin := some 3 } } : State).hands .viewBay (ask [15]) := by
  unfold State.hands; decide +kernel

theorem witness_PinHoldsTheCursor :
    zoo.hands .viewPin (ask []) ∧ zoo.hands .viewUnpin (ask []) ∧
    ({ zoo with link := { zoo.link with pin := some 16 } } : State).hands .viewUnpin (ask []) ∧
    zoo.link.slot = none ∧ zoo.store.loading = false ∧ (ask [0]).body ≠ [] ∧
    ({ zoo with link := { zoo.link with pin := some 16, cursor := 15 } } : State).hands .viewBay (ask [255]) ∧
    resting.handsUnchecked .restart (ask []) ∧ (∀ b, (resting.bay b).refusesRestart = false) := by
  unfold State.handsUnchecked State.hands State.checkRefuses; decide +kernel

/-! ### The requests that refuse and those that read -/

/-- The hypotheses of a request with the CHECK flag in a case with a case class pending. -/
theorem witness_checkRefuses : (faulty zoo).checkRefuses (askChecked [0]) ∧ ¬ zoo.checkRefuses (askChecked [0]) ∧
    ¬ (faulty zoo).checkRefuses (ask [0]) := by unfold State.checkRefuses; decide +kernel

theorem witness_ReadJoltsReturnsTheList :
    zoo.hands .readJolts (ask [7]) ∧ zoo.hands .readJolts (ask [8]) ∧ (faulty zoo).hands .readJolts (askChecked [7]) ∧
    (joltOf 8 zoo).motion.jolts ≠ [] := by unfold State.hands; decide +kernel

theorem witness_GetReturnsASetting :
    zoo.hands .getSetting (ask [0]) ∧ zoo.hands .getSetting (ask [1]) ∧ zoo.hands .getSetting (ask [21]) ∧
    zoo.hands .getSetting (ask [22]) ∧ (faulty zoo).hands .getSetting (askChecked [21]) := by
  unfold State.hands; decide +kernel

theorem witness_GetProfileReturnsTheTableEntry :
    zoo.hands .getProfile (ask [7]) ∧ zoo.hands .getProfile (ask [8]) ∧
    (faulty zoo).hands .getProfile (askChecked [0]) ∧ (zoo.bay 4).latched = some Profile.factory := by
  unfold State.hands; decide +kernel

/-! ### The requests of bays -/

/-- Every bay of the zoo is named and taken; with the CHECK flag bay 11, which has a pending class, is not. -/
theorem witness_takes :
    (∀ b : BayNo, zoo.takes (ask [0xFF, 0xFF]) 0xFFFF b) ∧
    ¬ zoo.takes (askChecked [0xFF, 0xFF]) 0xFFFF 11 ∧ zoo.takes (askChecked [0xFF, 0xFF]) 0xFFFF 10 := by
  unfold State.takes; decide +kernel

/-- All sixteen bays, no bay, and the choice at 0, 1 and 2, in a NORMAL and in a safe case. -/
theorem witness_SpinUpOutcomes :
    zoo.hands .spinUp (ask [0xFF, 0xFF, 0]) ∧ zoo.hands .spinUp (ask [0xFF, 0xFF, 1]) ∧
    zoo.hands .spinUp (ask [0xFF, 0xFF, 2]) ∧ zoo.hands .spinUp (ask [0, 0, 0]) ∧
    (safe calm).hands .spinUp (ask [0xFF, 0xFF, 0]) ∧ (faulty zoo).hands .spinUp (askChecked [0xFF, 0xFF, 1]) ∧
    zoo.entryKind 2 = some .spin ∧ zoo.entryKind 13 = some .test ∧ zoo.admission 4 = .accepted ∧
    ({ zoo with motion := { zoo.motion with cls := .rolling } } : State).admission 4 = .motion ∧
    ({ zoo with supply := { zoo.supply with cls := .cut } } : State).admission 4 = .supply ∧
    ((zoo.modWorking (fun w => { w with case := { w.case with exposureLimit := 1 } })).modBay 4
      (fun r => { r with joltsLoaded := 1 })).admission 4 = .exposed := by unfold State.hands; decide +kernel

theorem witness_SpinDownOutcomes :
    zoo.hands .spinDown (ask [0xFF, 0xFF]) ∧ zoo.hands .spinDown (ask [0, 0]) ∧
    (faulty zoo).hands .spinDown (askChecked [4, 0]) ∧ zoo.takes (ask [4, 0]) 4 2 ∧
    (∀ x : BayNo, x < 2 → (4 : BaySet).getLsbD x.val = false) ∧ zoo.takes (ask [0x80, 0]) 0x80 7 ∧
    (∀ x : BayNo, x < 7 → (0x80 : BaySet).getLsbD x.val = false) ∧ (zoo.bay 7).prk = false ∧
    (narrow zoo).settings.unloadWidth ≤ (narrow zoo).scheduler.unloading ∧ zoo.entryKind 2 = some .spin ∧
    zoo.entryKind 13 = some .test ∧ ¬ (faulty zoo).takes (askChecked [0xFF, 0xFF]) 0xFFFF 11 := by
  unfold State.hands State.takes; decide +kernel

theorem witness_LoadOutcomes :
    zoo.hands .load (ask [0xFF, 0xFF]) ∧ zoo.hands .load (ask [0, 0]) ∧ (safe calm).hands .load (ask [0xFF, 0xFF]) ∧
    (faulty zoo).hands .load (askChecked [0xFF, 0xFF]) := by unfold State.hands; decide +kernel

theorem witness_UnloadOutcomes :
    zoo.hands .unload (ask [0xFF, 0xFF, 0]) ∧ zoo.hands .unload (ask [0xFF, 0xFF, 1]) ∧
    zoo.hands .unload (ask [0xFF, 0xFF, 2]) ∧ zoo.hands .unload (ask [0, 0, 1]) ∧
    (faulty zoo).hands .unload (askChecked [0xFF, 0xFF, 1]) ∧ (zoo.bay 6).prk = false ∧
    (∀ x : BayNo, x < 7 → (0x80 : BaySet).getLsbD x.val = false) ∧ (zoo.bay 7).prk = false ∧
    (narrow zoo).settings.unloadWidth ≤ (narrow zoo).scheduler.unloading := by unfold State.hands; decide +kernel

theorem witness_TestWindingOutcomes :
    zoo.hands .testWinding (ask [0xFF, 0xFF]) ∧ zoo.hands .testWinding (ask [0, 0]) ∧
    (safe calm).hands .testWinding (ask [0xFF, 0xFF]) ∧ (faulty zoo).hands .testWinding (askChecked [2, 0]) ∧
    (zoo.bay 1).state = .stopped := by unfold State.hands; decide +kernel

/-- Bay 11 HELD and parked, its spindle on within its window, or off. -/
theorem witness_ReleaseOutcomes :
    zoo.hands .release (ask [0, 8]) ∧ zoo.hands .release (ask [0, 0]) ∧ (resting.bay 11).state = .held ∧
    (resting.bay 11).prk = true ∧ (resting.bay 11).spindleOn = false ∧ (zoo.bay 11).prk = false ∧
    ((resting.modBay 11 (fun r => { r with spindleOn := true })).bay 11).spindleOn = true ∧
    (resting.bay 11).latched = some Profile.factory ∧ (resting.bay 11).speed = some 7199 ∧
    Profile.factory.speedLow = 7020 ∧ Profile.factory.speedHigh = 7380 := by unfold State.hands; decide +kernel

theorem witness_ClearFaultsEmptiesTheSets :
    zoo.hands .clearFaults (ask [2, 0, 0]) ∧ zoo.hands .clearFaults (ask [1, 0, 0]) ∧
    zoo.hands .clearFaults (ask [0, 0, 0]) ∧ zoo.hands .clearFaults (ask [1, 0xFF, 0xFF]) := by
  unfold State.hands; decide +kernel

theorem witness_TakeContextReturnsAndReinits :
    zoo.hands .takeContext (ask [15]) ∧ zoo.hands .takeContext (ask [16]) ∧ (zoo.bay 15).state = .vacant ∧
    (faulty zoo).hands .takeContext (askChecked [15]) ∧ (zoo.bay 1).state = .stopped ∧ (zoo.bay 12).state = .fenced ∧
    (resting.bay 11).state = .held ∧ (resting.bay 11).spindleOn = false ∧ (resting.bay 11).prk = true ∧
    (zoo.bay 11).prk = false ∧ (zoo.bay 4).state = .spun := by unfold State.hands; decide +kernel

/-! ### Masks, settings and the store -/

theorem witness_MasksAreSetAndViewed :
    zoo.hands .setMasks (ask [0xFF, 0xFF]) ∧ zoo.hands .viewEnvironment (ask []) := by
  unfold State.hands; decide +kernel

/-- The numbers 0, 1, 21 and 22; the ends of a range; the two sides of a cross-check. -/
theorem witness_SetChangesOneSetting :
    zoo.hands .setSetting (ask [0, 0, 0]) ∧ zoo.hands .setSetting (ask [22, 0, 0]) ∧
    zoo.hands .setSetting (ask [1, 63, 0]) ∧ zoo.settings.admits 1 63 ∧ ¬ zoo.settings.admits 1 64 ∧
    ¬ zoo.settings.admits 1 0 ∧ zoo.settings.admits 21 101 ∧ ¬ zoo.settings.admits 21 100 ∧
    zoo.settings.admits 14 10400 ∧ ¬ zoo.settings.admits 14 10399 ∧ zoo.settings.admits 16 7 ∧
    zoo.settings.admits 6 16 ∧ (faulty zoo).hands .setSetting (askChecked [1, 63, 0]) ∧
    zoo.supply.cls = .normal := by
  refine ⟨by unfold State.hands; decide +kernel, by unfold State.hands; decide +kernel,
    by unfold State.hands; decide +kernel, ⟨⟨_, _, rfl, by decide, by decide⟩, by decide +kernel⟩, ?_, ?_,
    ⟨⟨_, _, rfl, by decide, by decide⟩, by decide +kernel⟩, ?_,
    ⟨⟨_, _, rfl, by decide, by decide⟩, by decide +kernel⟩, ?_,
    ⟨⟨_, _, rfl, by decide, by decide⟩, by decide +kernel⟩, ⟨⟨_, _, rfl, by decide, by decide⟩, by decide +kernel⟩,
    by unfold State.hands; decide +kernel, by decide +kernel⟩
  · rintro ⟨⟨lo, hi, h, h1, h2⟩, -⟩; cases h; omega
  · rintro ⟨⟨lo, hi, h, h1, h2⟩, -⟩; cases h; omega
  · rintro ⟨-, -, -, -, -, -, h⟩; exact absurd (h rfl) (by decide +kernel)
  · rintro ⟨-, -, -, h, -⟩; exact absurd (h rfl) (by decide +kernel)

/-- A profile whose surge cost lies above its range. -/
def costly : Profile := { Profile.factory with surgeCost := 33 }

/-- A profile whose speed low is not below speed high. -/
def narrowWindow : Profile := { Profile.factory with speedLow := 7380 }

theorem witness_profiles_fit : Profile.factory.fits ∧ ¬ costly.fits ∧ ¬ narrowWindow.fits :=
  ⟨by unfold Profile.fits; decide +kernel, fun h => absurd h.2.1 (by decide +kernel),
    fun h => absurd h.2.2.2.2.2.1 (by decide +kernel)⟩

theorem witness_ProfilesAndSelections :
    zoo.hands .setProfile (ask (7 :: Profile.factory.image)) ∧ zoo.hands .setProfile (ask (8 :: Profile.factory.image)) ∧
    (faulty zoo).hands .setProfile (askChecked (7 :: Profile.factory.image)) ∧ Profile.factory.tachFirst < 65536 ∧
    zoo.hands .setBay (ask [15, 7]) ∧ zoo.hands .setBay (ask [16, 0]) ∧ zoo.hands .setBay (ask [15, 8]) ∧
    (faulty zoo).hands .setBay (askChecked [15, 7]) := by
  unfold State.hands; decide +kernel

theorem witness_CommitAndRecall :
    zoo.hands .commit (ask []) ∧ zoo.store.commit = none ∧ (faulty zoo).hands .commit (askChecked []) ∧
    (after (.commit 0 (ask [])) { zoo with link := { zoo.link with tx := none } }).store.commit =
      some zoo.store.working ∧
    ({ zoo with store := { zoo.store with commit := some .factory } } : State).hands .commit (ask []) ∧
    zoo.hands .recall (ask []) ∧ zoo.store.image.passes = true ∧
    ({ zoo with store := { zoo.store with image := .newPart } } : State).store.image.passes = false ∧
    (quiet 5 zoo).store.image.values.case.quietCode ≠ (quiet 5 zoo).settings.quietCode ∧
    (quiet 5 (safe calm)).hands .recall (ask []) ∧ (quiet 5 (safe calm)).store.image.passes = true ∧
    (quiet 5 (safe calm)).store.image.values.case.quietCode ≠ (quiet 5 (safe calm)).settings.quietCode ∧
    (quiet 5 (safe calm)).transit.mode = .transitSafe := by
  unfold State.hands; decide +kernel

/-- The three refusals, and a case at rest under quiet codes 4 and 7. -/
theorem witness_RestartStartsAfresh :
    zoo.hands .restart (ask []) ∧ (faulty zoo).hands .restart (askChecked []) ∧ zoo.store.commit = none ∧
    (zoo.bay 3).state = .spinningUp ∧ (zoo.bay 11).prk = false ∧ resting.hands .restart (ask []) ∧
    (∀ b, (resting.bay b).state = .vacant ∨ (resting.bay b).state = .stopped ∨ (resting.bay b).state = .queued ∨
      (resting.bay b).state = .fenced ∨ (resting.bay b).state = .held ∧ (resting.bay b).spindleOn = false ∧
        (resting.bay b).prk = true) ∧
    resting.settings.quietCode = 4 ∧ (quiet 7 resting).settings.quietCode = 7 := by
  unfold State.hands; decide +kernel

/-! ### The invariants -/

theorem witness_StepKeepsFaultSets : zoo.faultSetsNested ∧ (faulty zoo).attnShowsPending := by
  unfold State.faultSetsNested State.attnShowsPending; decide +kernel

theorem witness_StepKeepsCounts : zoo.queuesMatch ∧ zoo.countsMatch ∧ zoo.converterHeld ∧ (zoo.bay 10).state = .diag := by
  unfold State.queuesMatch State.countsMatch State.converterHeld; decide +kernel

theorem witness_StepKeepsBounds : zoo.settingsAndSurgeBounded ∧ zoo.noticesSingle := by
  unfold State.settingsAndSurgeBounded State.noticesSingle; decide +kernel

theorem witness_StepKeepsSafeQuiet : (safe calm).queuesMatch ∧ (safe calm).safeIsQuiet ∧
    (safe calm).transit.mode = .transitSafe := by
  unfold State.queuesMatch State.safeIsQuiet; decide +kernel

end Sys2Proof.Tests
end

section
/-! PROOFS. The start values of the Admission Arbiter (R31): what a reset, a request that is handed on, a RESTART and
the entry into TRANSIT_SAFE of a case at rest do, and the statement O7. -/

namespace Sys2Proof.Machine

/-! ### All the bays -/

/-- Every bay stands in the list of the bays. -/
theorem mem_allBays (b : BayNo) : b ∈ allBays := by revert b; decide

/-- No bay stands twice in the list of the bays. -/
theorem nodup_allBays : allBays.Nodup := by decide

/-- A check of some record is a check of some bay. -/
theorem State.bays_any_iff (s : State) (p : BayRec → Bool) : s.bays.any p = true ↔ ∃ b, p (s.bay b) = true := by
  rw [Vector.any_iff_exists]
  exact ⟨fun ⟨i, hi, h⟩ => ⟨⟨i, hi⟩, h⟩, fun ⟨b, h⟩ => ⟨b.val, b.isLt, h⟩⟩

/-- Bays taken in turn that all leave `b` alone. -/
theorem State.foldl_bay_of_others {f : BayNo → State → State} {b : BayNo}
    (others : ∀ x s, x ≠ b → (f x s).bay b = s.bay b) {l : List BayNo} (hl : b ∉ l) (s : State) :
    (l.foldl (fun s x => f x s) s).bay b = s.bay b := by
  induction l generalizing s with
  | nil => rfl
  | cons x l ih =>
    obtain ⟨hx, hl⟩ : b ≠ x ∧ b ∉ l := by simpa using hl
    rw [List.foldl_cons, ih hl, others x s (Ne.symm hx)]

/-- What the turn of a bay makes of its record stands after the turns of all bays, where no other turn touches it. -/
theorem State.forBays_brings {f : BayNo → State → State} {b : BayNo} {P Q : BayRec → Prop}
    (others : ∀ x s, x ≠ b → (f x s).bay b = s.bay b) (own : ∀ s, P (s.bay b) → Q ((f b s).bay b)) {s : State}
    (hs : P (s.bay b)) : Q ((s.forBays f).bay b) := by
  obtain ⟨before, after, split⟩ := List.append_of_mem (mem_allBays b)
  have distinct : (before ++ b :: after).Nodup := split ▸ nodup_allBays
  have notBefore : b ∉ before := fun h => (List.nodup_append.mp distinct).2.2 b h b List.mem_cons_self rfl
  have notAfter : b ∉ after := (List.nodup_cons.mp (List.nodup_append.mp distinct).2.1).1
  rw [State.forBays, split, List.foldl_append, List.foldl_cons, State.foldl_bay_of_others others notAfter]
  exact own _ (by rwa [State.foldl_bay_of_others others notBefore])

/-! ### Resets (R26) -/

/-- POWER_ON is the reset at time 0. -/
theorem exec_powerOn (s : State) : exec .powerOn s = .next (s.afterReset 0) := rfl

/-- RESET_N is the reset with the time running on. -/
theorem exec_resetN (dt : Nat) (s : State) : exec (.resetN dt) s = .next (s.afterReset (s.now + dt)) := rfl

@[simp] theorem State.afterReset_arbiter (s : State) (now : Nat) : (s.afterReset now).arbiter = .reset := rfl

/-! ### Requests that are handed on (R148, R176) -/

@[simp] theorem State.restartQuiet_bays (s : State) : s.restartQuiet.bays = s.bays := by
  unfold State.restartQuiet; split <;> simp
@[simp] theorem State.restartQuiet_arbiter (s : State) : s.restartQuiet.arbiter = s.arbiter := by
  unfold State.restartQuiet; split <;> simp
@[simp] theorem State.restartQuiet_scheduler (s : State) : s.restartQuiet.scheduler = s.scheduler := by
  unfold State.restartQuiet; split <;> simp
@[simp] theorem State.restartQuiet_faults (s : State) : s.restartQuiet.faults = s.faults := by
  unfold State.restartQuiet; split <;> simp
@[simp] theorem State.restartQuiet_store (s : State) : s.restartQuiet.store = s.store := by
  unfold State.restartQuiet; split <;> simp
@[simp] theorem State.restartQuiet_link (s : State) : s.restartQuiet.link = s.link := by
  unfold State.restartQuiet; split <;> simp

@[simp] theorem State.frameArrived_bays (s : State) : s.frameArrived.bays = s.bays := by
  simp [State.frameArrived]
@[simp] theorem State.frameArrived_bay (s : State) (b : BayNo) : s.frameArrived.bay b = s.bay b := by
  simp [State.bay]
@[simp] theorem State.frameArrived_arbiter (s : State) : s.frameArrived.arbiter = s.arbiter := by
  simp [State.frameArrived]
@[simp] theorem State.frameArrived_scheduler (s : State) : s.frameArrived.scheduler = s.scheduler := by
  simp [State.frameArrived]
@[simp] theorem State.frameArrived_faults (s : State) : s.frameArrived.faults = s.faults := by
  simp [State.frameArrived]
@[simp] theorem State.frameArrived_store (s : State) : s.frameArrived.store = s.store := by
  simp [State.frameArrived]
@[simp] theorem State.frameArrived_slot (s : State) : s.frameArrived.link.slot = s.link.slot := by
  simp [State.frameArrived]

/-- No row of R176 before the last applies: the handler takes the request. -/
theorem takeRequest_of_hands {k : ReqKind} {r : Req} {s : State} (h : s.hands k r) (handle : Req → State → State) :
    takeRequest k handle r s = handle r s.frameArrived := by
  obtain ⟨slotEmpty, noLoad, length⟩ := h
  have notBusy : (s.store.loading && k != .status) = false := by
    rcases noLoad with h | h <;> simp [h]
  simp [takeRequest, slotEmpty, notBusy, length]

/-- The case pending set refuses a request exactly where the statements say so (R148). -/
theorem State.refuses_iff (s : State) (r : Req) : s.refuses r = true ↔ s.checkRefuses r := by
  simp [State.refuses, State.checkRefuses, checkFlag]

/-- A request that the case pending set does not refuse is taken. -/
theorem State.checked_of_not_checkRefuses {s : State} {r : Req} (h : ¬ s.checkRefuses r) (k : ReqKind)
    (go : State → State) : s.checked k r go = go s := by
  rw [State.checked, if_neg (mt (s.refuses_iff r).mp h)]

/-- The reply that a request has got stands in the slot. -/
theorem State.answer_replied (s : State) (k : ReqKind) (r : Req) (st : Status) (body : List Byte) :
    (s.answer k r st body).replied k r st body := ⟨_, rfl, rfl, rfl, rfl, rfl⟩

/-- The line sends a reply from the slot and leaves it there. -/
theorem State.lineUp_replied {s : State} {k : ReqKind} {r : Req} {st : Status} {body : List Byte}
    (h : s.replied k r st body) : s.lineUp.replied k r st body := by
  simpa [State.replied] using h

/-! ### RESTART at the bays (R27, R173) -/

/-- RESTART at one bay leaves the others. -/
theorem State.restartBay_bay_ne (s : State) {b x : BayNo} (h : x ≠ b) : (s.restartBay b).bay x = s.bay x := by
  unfold State.restartBay
  rw [State.bay_modBay_ne _ _ h]
  split <;> simp [State.bay_enterQuietly_ne _ _ h]

/-- RESTART at a bay that does not refuse it leaves VACANT alone and goes to STOPPED from every other state. -/
theorem State.restartBay_state {s : State} {b : BayNo} (h : (s.bay b).refusesRestart = false) :
    ((s.restartBay b).bay b).state = if (s.bay b).state = .vacant then .vacant else .stopped := by
  unfold State.restartBay
  rw [State.bay_modBay_self]
  cases state : (s.bay b).state with
  | vacant | stopped => simp [state]
  | queued | fenced | held => simp [BayRec.enter]
  | spinningUp | spun | loading | loaded | parkQueued | unloading | spinningDown | diag =>
    simp [BayRec.refusesRestart, state] at h

@[simp] theorem State.restartBlocks_arbiter (s : State) : s.restartBlocks.arbiter = .reset := rfl
@[simp] theorem State.restartBlocks_scheduler (s : State) : s.restartBlocks.scheduler = .reset := rfl

@[simp] theorem State.restartBlocks_bay (s : State) (b : BayNo) :
    s.restartBlocks.bay b = (s.forBays State.restartBay).bay b := by
  simp only [State.bay, State.restartBlocks]

/-- The states that RESTART leaves where no bay refuses it. -/
theorem State.restartBlocks_state {s : State} {b : BayNo} (h : (s.bay b).refusesRestart = false) :
    (s.restartBlocks.bay b).state = if (s.bay b).state = .vacant then .vacant else .stopped := by
  rw [State.restartBlocks_bay]
  refine State.forBays_brings (f := State.restartBay) (P := fun r => r = s.bay b)
    (Q := fun r => r.state = if (s.bay b).state = .vacant then .vacant else .stopped)
    (fun _ t hx => t.restartBay_bay_ne (Ne.symm hx)) (fun t ht => ?_) rfl
  rw [State.restartBay_state (by rwa [ht]), ht]

/-! ### A case at rest

RESTART leaves every bay VACANT or STOPPED and the unload queue empty. The entry into TRANSIT_SAFE, which follows under
quiet code 7, finds nothing to do at the bays of such a case and nothing to start. -/

/-- Every bay is VACANT or STOPPED, and no bay waits to unload. -/
structure State.AtRest (s : State) : Prop where
  states : ∀ b, (s.bay b).state = .vacant ∨ (s.bay b).state = .stopped
  noUnload : s.unloadQueueLength = 0

/-- The arbiter, the unload queue, the unloading count and the states of the bays stand as they stood. -/
structure State.RestsLike (s t : State) : Prop where
  arbiter : t.arbiter = s.arbiter
  emergency : t.scheduler.emergency = s.scheduler.emergency
  ordinary : t.scheduler.ordinary = s.scheduler.ordinary
  unloading : t.scheduler.unloading = s.scheduler.unloading
  states : ∀ b, (t.bay b).state = (s.bay b).state

/-- What stands over two changes. -/
theorem State.RestsLike.trans {s t u : State} (h : s.RestsLike t) (g : t.RestsLike u) : s.RestsLike u where
  arbiter := g.arbiter.trans h.arbiter
  emergency := g.emergency.trans h.emergency
  ordinary := g.ordinary.trans h.ordinary
  unloading := g.unloading.trans h.unloading
  states b := (g.states b).trans (h.states b)

/-- Rest goes over to what rests alike. -/
theorem State.AtRest.of_restsLike {s t : State} (h : s.AtRest) (g : s.RestsLike t) : t.AtRest where
  states b := by rw [g.states b]; exact h.states b
  noUnload := by rw [State.unloadQueueLength, g.emergency, g.ordinary]; exact h.noUnload

/-- An event of the case moves nothing. -/
theorem State.restsLike_addCaseEvent (s : State) (e : CaseEvent) : s.RestsLike (s.addCaseEvent e) :=
  ⟨rfl, rfl, rfl, rfl, fun _ => rfl⟩

/-- The load-on-arrival flag of a bay moves nothing. -/
theorem State.restsLike_setLoadOnArrival (s : State) (b : BayNo) (v : Bool) :
    s.RestsLike (s.setLoadOnArrival b v) where
  arbiter := rfl
  emergency := rfl
  ordinary := rfl
  unloading := rfl
  states x := by rw [State.setLoadOnArrival, State.bay_modBay]; split <;> rfl

/-- The entry into TRANSIT_SAFE at a VACANT or STOPPED bay clears its load-on-arrival flag and no more (R130). -/
theorem State.transitBay_of_atRest {s : State} (h : s.AtRest) (b : BayNo) :
    s.transitBay b = s.setLoadOnArrival b false := by
  rcases h.states b with state | state <;> simp [State.transitBay, state]

/-- A sweep does nothing at a VACANT or STOPPED bay (R102). -/
theorem State.sweepBay_of_atRest {s : State} (h : s.AtRest) (k : SweepKind) (b : BayNo) : s.sweepBay k b = s := by
  rcases h.states b with state | state <;> simp [State.sweepBay, state]

/-- A walk of a sweep does nothing in a case at rest, whatever bays it examines (R102). -/
theorem State.walk_of_atRest {s : State} (h : s.AtRest) (k : SweepKind) (walk : List BayNo) :
    walk.foldl (fun s b => s.sweepBay k b) s = s := by
  induction walk with
  | nil => rfl
  | cons b rest ih => rw [List.foldl_cons, State.sweepBay_of_atRest h k b, ih]

/-- A start pass with an empty unload queue starts nothing (R64). -/
theorem State.startPass_of_noUnload {s : State} (h : s.unloadQueueLength = 0) : s.startPass = s := by
  rw [State.startPass, h, State.starts]

/-- A sweep over a case at rest moves the sweep origin and pointer alone (R100, R102). -/
theorem State.restsLike_sweep {s : State} (h : s.AtRest) (k : SweepKind) : s.RestsLike (s.sweep k) := by
  have pointed : (s.modScheduler (fun q => { q with pointer := q.origin })).AtRest := ⟨h.states, h.noUnload⟩
  rw [State.sweep, State.walk_of_atRest pointed k,
    State.startPass_of_noUnload (by exact h.noUnload)]
  exact ⟨rfl, rfl, rfl, rfl, fun _ => rfl⟩

/-- What stands while the holders take an event in turn stands while they take it in no order. -/
theorem State.RestsLike.inFreeOrder {s t : State} {holders : List (State → State)}
    (h : s.RestsLike (t.inTurn holders)) : s.RestsLike (t.inFreeOrder holders) :=
  ⟨h.arbiter, h.emergency, h.ordinary, h.unloading, h.states⟩

/-- The entry into TRANSIT_SAFE moves nothing of a case at rest (R130). -/
theorem State.restsLike_enterSafe {s : State} (h : s.AtRest) : s.RestsLike s.enterSafe := by
  unfold State.enterSafe
  split
  · exact ⟨rfl, rfl, rfl, rfl, fun _ => rfl⟩
  · have step : ∀ f ∈ State.addCaseEvent .safeEntered :: allBays.map State.transitBay ++ [State.sweep .transit],
        ∀ t, s.RestsLike t → s.RestsLike (f t) := by
      intro f hf t ht
      have rest := h.of_restsLike ht
      simp only [List.mem_append, List.mem_cons, List.mem_map, List.not_mem_nil, or_false] at hf
      obtain (rfl | ⟨b, -, rfl⟩) | rfl := hf
      · exact ht.trans (t.restsLike_addCaseEvent _)
      · exact ht.trans (State.transitBay_of_atRest rest b ▸ t.restsLike_setLoadOnArrival b false)
      · exact ht.trans (State.restsLike_sweep rest _)
    exact State.RestsLike.inFreeOrder (State.inTurn_induct step ⟨rfl, rfl, rfl, rfl, fun _ => rfl⟩)

/-- What the transit unit does after a RESTART moves nothing of a case at rest (R127). -/
theorem State.restsLike_startTransit {s : State} (h : s.AtRest) : s.RestsLike s.startTransit := by
  unfold State.startTransit
  split
  · exact State.restsLike_enterSafe h
  · exact ⟨rfl, rfl, rfl, rfl, fun _ => rfl⟩

/-! ### RESTART (R173, R174) -/

/-- The blocks that a RESTART leaves are at rest where no bay refuses it. -/
theorem State.restartBlocks_atRest {s : State} (h : ∀ b, (s.bay b).refusesRestart = false) :
    s.restartBlocks.AtRest where
  states b := by rw [State.restartBlocks_state (h b)]; split <;> simp
  noUnload := rfl

/-- After the transit unit and the notice STARTED the blocks of a RESTART stand as it left them. -/
theorem State.restsLike_takeRestart {s : State} (h : ∀ b, (s.bay b).refusesRestart = false) (r : Req) :
    (s.answer .restart r .done []).restartBlocks.RestsLike (s.takeRestart r) :=
  (State.restsLike_startTransit (State.restartBlocks_atRest (by exact h))).trans (State.restsLike_addCaseEvent _ _)

/-- A RESTART that reaches its handler with no commit in progress is refused where some bay refuses it and taken
otherwise. -/
theorem handleRestart_of_no_commit {r : Req} {s : State} (body : r.body = []) (check : ¬ s.checkRefuses r)
    (commit : s.store.commit = none) :
    handleRestart r s =
      if s.bays.any BayRec.refusesRestart then s.answer .restart r .state [] else s.takeRestart r := by
  simp [handleRestart, withEmptyBody, body, State.checked_of_not_checkRefuses check, commit]

/-- RESTART as a command, where it is handed on and no commit is in progress. -/
theorem exec_restart_of_handsUnchecked {r : Req} {s : State} (dt : Nat) (h : s.handsUnchecked .restart r)
    (commit : s.store.commit = none) :
    exec (.restart dt r) s = .next
      (if s.bays.any BayRec.refusesRestart then (s.elapse dt).frameArrived.answer .restart r .state []
        else (s.elapse dt).frameArrived.takeRestart r).lineUp := by
  obtain ⟨hands, check⟩ := h
  have body : r.body = [] := by
    obtain ⟨-, -, length⟩ := hands
    exact List.length_eq_zero_iff.mp length
  have passes : ¬ (s.elapse dt).frameArrived.checkRefuses r := by simpa [State.checkRefuses] using check
  calc exec (.restart dt r) s
      = .next (takeRequest .restart handleRestart r (s.elapse dt)).lineUp := rfl
    _ = .next (handleRestart r (s.elapse dt).frameArrived).lineUp := by
      rw [takeRequest_of_hands (s := s.elapse dt) hands]
    _ = _ := by
      rw [handleRestart_of_no_commit body passes (by simpa using commit), State.frameArrived_bays, State.elapse_bays]

/-- RESTART is refused with STATE while some bay refuses it, and only answers (R173). -/
theorem exec_restart_refused {r : Req} {s : State} (dt : Nat) (h : s.handsUnchecked .restart r)
    (commit : s.store.commit = none) (busy : ∃ b, (s.bay b).refusesRestart = true) :
    exec (.restart dt r) s = .next ((s.elapse dt).frameArrived.answer .restart r .state []).lineUp := by
  rw [exec_restart_of_handsUnchecked dt h commit, if_pos ((s.bays_any_iff _).mpr busy)]

/-- RESTART is taken where no bay refuses it (R174). -/
theorem exec_restart_taken {r : Req} {s : State} (dt : Nat) (h : s.handsUnchecked .restart r)
    (commit : s.store.commit = none) (rest : ∀ b, (s.bay b).refusesRestart = false) :
    exec (.restart dt r) s = .next ((s.elapse dt).frameArrived.takeRestart r).lineUp := by
  have noneRefuses : ¬ s.bays.any BayRec.refusesRestart = true := by simp [State.bays_any_iff, rest]
  rw [exec_restart_of_handsUnchecked dt h commit, if_neg noneRefuses]

/-- What a RESTART that is taken leaves of the arbiter, the scheduler and the bays (R27, R31, R63): the line is the last
to act, before it the transit unit, which finds the blocks at rest. -/
theorem exec_restart_starts_empty {r : Req} {s : State} (dt : Nat) (h : s.handsUnchecked .restart r)
    (commit : s.store.commit = none) (rest : ∀ b, (s.bay b).refusesRestart = false) :
    ∃ t, exec (.restart dt r) s = .next t ∧ t.arbiter = .reset ∧ t.scheduler.emergency = [] ∧
      t.scheduler.ordinary = [] ∧ t.scheduler.unloading = 0 ∧
      ∀ b, (t.bay b).state = if (s.bay b).state = .vacant then .vacant else .stopped := by
  have arrived : ∀ b, ((s.elapse dt).frameArrived.bay b).refusesRestart = false := by simpa using rest
  obtain ⟨arbiter, emergency, ordinary, unloading, states⟩ := State.restsLike_takeRestart arrived r
  refine ⟨_, exec_restart_taken dt h commit rest, ?_, ?_, ?_, ?_, fun b => ?_⟩
  · rw [State.lineUp_arbiter, arbiter, State.restartBlocks_arbiter]
  · rw [State.lineUp_scheduler, emergency, State.restartBlocks_scheduler, Scheduler.reset]
  · rw [State.lineUp_scheduler, ordinary, State.restartBlocks_scheduler, Scheduler.reset]
  · rw [State.lineUp_scheduler, unloading, State.restartBlocks_scheduler, Scheduler.reset]
  · rw [State.lineUp_bay, states b, State.restartBlocks_state (by simpa using rest b)]
    simp

/-! ### Grants while RESTART is taken (R31, R32) -/

/-- A bay that does not refuse RESTART holds no grant and no surge. -/
theorem BayRec.no_grant_of_not_refusesRestart {r : BayRec} (h : r.refusesRestart = false) :
    r.surge = 0 ∧ r.holdsGrant = false := by
  cases state : r.state with
  | spinningUp | diag => simp [BayRec.refusesRestart, state] at h
  | vacant | stopped | queued | spun | loading | loaded | parkQueued | unloading | spinningDown | held | fenced =>
    simp [BayRec.surge, BayRec.holdsGrant, state]

/-- Where no bay refuses RESTART the counts that match the bays are 0. -/
theorem State.countsMatch_at_restart {s : State} (h : s.countsMatch) (rest : ∀ b, (s.bay b).refusesRestart = false) :
    s.arbiter.held = 0 ∧ s.arbiter.grants = 0 := by
  obtain ⟨held, grants, -, -⟩ := h
  have noGrant := fun b => BayRec.no_grant_of_not_refusesRestart (rest b)
  constructor
  · rw [held, List.sum_eq_zero_iff_forall_eq_nat]
    intro surge mem
    obtain ⟨b, -, rfl⟩ := List.mem_map.mp mem
    exact (noGrant b).1
  · rw [grants, List.countP_eq_zero]
    intro b _
    rw [(noGrant b).2]
    exact Bool.false_ne_true

/-! ### The records (R184, R191) -/

/-- The environment record carries the held total and the grant count as its bytes 12 and 13. -/
theorem State.environmentImage_held_grants (s : State) :
    s.environmentImage[12]? = some (BitVec.ofNat 8 s.arbiter.held) ∧
      s.environmentImage[13]? = some (BitVec.ofNat 8 s.arbiter.grants) := ⟨rfl, rfl⟩

/-- The STATUS reply carries the held total and the grant count as its bytes 4 and 5. -/
theorem State.statusImage_held_grants (s : State) :
    s.statusImage[4]? = some (BitVec.ofNat 8 s.arbiter.held) ∧
      s.statusImage[5]? = some (BitVec.ofNat 8 s.arbiter.grants) := ⟨rfl, rfl⟩

/-- No record reads the rotate pointer. -/
theorem State.images_of_pointer (s : State) (p : BayNo) :
    ({ s with arbiter := { s.arbiter with pointer := p } } : State).environmentImage = s.environmentImage ∧
      ({ s with arbiter := { s.arbiter with pointer := p } } : State).statusImage = s.statusImage ∧
      ∀ b, ({ s with arbiter := { s.arbiter with pointer := p } } : State).bayImage b = s.bayImage b :=
  ⟨rfl, rfl, fun _ => rfl⟩

/-! ### The arbiter starts empty -/

/-- Settles O7: the resets and the blocks of a RESTART write the arbiter's start values; after a RESTART the transit
unit finds a case at rest and leaves them. -/
theorem arbiterStartsEmpty : Obligations.ArbiterStartsEmpty := by
  refine ⟨fun dt s => ⟨?powerOn, ?resetN⟩, fun dt r s hands commit => ⟨?refused, ?taken⟩, fun s => ?records,
    State.images_of_pointer⟩
  case powerOn => exact ⟨_, exec_powerOn s, by simp [Arbiter.reset]⟩
  case resetN => exact ⟨_, exec_resetN dt s, by simp [Arbiter.reset]⟩
  case refused =>
    rintro ⟨b, state⟩
    have busy : (s.bay b).refusesRestart = true := by
      rcases state with state | state <;> simp [BayRec.refusesRestart, state]
    exact ⟨_, exec_restart_refused dt hands commit ⟨b, busy⟩,
      State.lineUp_replied (State.answer_replied _ _ _ _ _), by simp⟩
  case taken =>
    intro rest
    obtain ⟨t, taken, arbiter, -, -, -, states⟩ := exec_restart_starts_empty dt hands commit rest
    refine ⟨t, taken, ?_⟩
    rw [arbiter]
    exact ⟨rfl, rfl, rfl, rfl, fun b queued => by simp [states b, queued],
      fun counts => State.countsMatch_at_restart counts rest⟩
  case records =>
    exact and_assoc.mp ⟨s.environmentImage_held_grants, s.statusImage_held_grants⟩

end Sys2Proof.Machine
end

section
/-! PROOFS. The start values of the Unload Scheduler (R63): what RESTART finds where no bay refuses it, and the
statement O8. -/

namespace Sys2Proof.Machine

@[simp] theorem State.afterReset_scheduler (s : State) (now : Nat) : (s.afterReset now).scheduler = .reset := rfl

/-! ### The unload queue while RESTART is taken (R27, R62, R64) -/

/-- A bay that does not refuse RESTART neither waits to unload nor unloads. -/
theorem BayRec.no_unload_of_not_refusesRestart {r : BayRec} (h : r.refusesRestart = false) :
    r.state ≠ .parkQueued ∧ r.state ≠ .unloading := by
  constructor <;> intro state <;> simp [BayRec.refusesRestart, state] at h

/-- Where no bay refuses RESTART an unload queue that matches the bays is empty. -/
theorem State.queuesMatch_at_restart {s : State} (h : s.queuesMatch) (rest : ∀ b, (s.bay b).refusesRestart = false) :
    s.scheduler.emergency = [] ∧ s.scheduler.ordinary = [] := by
  obtain ⟨-, -, -, waiting⟩ := h
  refine List.append_eq_nil_iff.mp (List.eq_nil_iff_forall_not_mem.mpr fun b mem => ?_)
  exact (BayRec.no_unload_of_not_refusesRestart (rest b)).1 ((waiting b).mp mem)

/-- Where no bay refuses RESTART an unloading count that matches the bays is 0. -/
theorem State.unloading_at_restart {s : State} (h : s.countsMatch) (rest : ∀ b, (s.bay b).refusesRestart = false) :
    s.scheduler.unloading = 0 := by
  obtain ⟨-, -, -, unloading⟩ := h
  rw [unloading, List.countP_eq_zero]
  intro b _
  simpa using (BayRec.no_unload_of_not_refusesRestart (rest b)).2

/-! ### The scheduler starts empty -/

/-- Settles O8: the resets write the scheduler's start values, and a RESTART that is taken leaves them; a bay that
waits to unload or unloads refuses RESTART, so that the invariants leave it an empty queue and no count. -/
theorem schedulerStartsEmpty : Obligations.SchedulerStartsEmpty := by
  refine ⟨fun dt s => ⟨?powerOn, ?resetN⟩, fun dt r s hands commit => ⟨?refused, fun rest => ⟨?taken, ?finds⟩⟩⟩
  case powerOn => exact ⟨_, exec_powerOn s, by simp [Scheduler.reset]⟩
  case resetN => exact ⟨_, exec_resetN dt s, by simp [Scheduler.reset]⟩
  case refused =>
    rintro ⟨b, state⟩
    have busy : (s.bay b).refusesRestart = true := by
      rcases state with state | state <;> simp [BayRec.refusesRestart, state]
    exact ⟨_, exec_restart_refused dt hands commit ⟨b, busy⟩,
      State.lineUp_replied (State.answer_replied _ _ _ _ _), by simp⟩
  case taken =>
    obtain ⟨t, taken, -, emergency, ordinary, unloading, -⟩ := exec_restart_starts_empty dt hands commit rest
    exact ⟨t, taken, emergency, ordinary, unloading⟩
  case finds =>
    intro queues counts
    obtain ⟨emergency, ordinary⟩ := State.queuesMatch_at_restart queues rest
    exact ⟨emergency, ordinary, State.unloading_at_restart counts rest⟩

end Sys2Proof.Machine
end

section
/-! PROOFS. The two reads of the working settings, GET (R166) and GET PROFILE (R162): what a request that is handed on
leaves where its handler only answers, and the statements O50 and O51. -/

namespace Sys2Proof.Machine

/-! ### What a frame that passes its check leaves (R124, R176) -/

/-- The quiet timer's length in ms is its length in µs, code by code (R124). -/
theorem quietLength_micros (code now : Nat) :
    (quietLength code).map (fun l => now + l * ms) = (quietMicros code).map (fun l => now + l) := by
  match code with
  | 0 | 1 | 2 | 3 | 4 | 5 | 6 => rfl
  | _ + 7 => rfl

@[simp] theorem State.restartQuiet_now (s : State) : s.restartQuiet.now = s.now := by
  unfold State.restartQuiet; split <;> simp
@[simp] theorem State.restartQuiet_motion (s : State) : s.restartQuiet.motion = s.motion := by
  unfold State.restartQuiet; split <;> simp
@[simp] theorem State.restartQuiet_supply (s : State) : s.restartQuiet.supply = s.supply := by
  unfold State.restartQuiet; split <;> simp
@[simp] theorem State.restartQuiet_freeTick (s : State) : s.restartQuiet.freeTick = s.freeTick := by
  unfold State.restartQuiet; split <;> simp

@[simp] theorem State.frameArrived_now (s : State) : s.frameArrived.now = s.now := by
  simp [State.frameArrived]
@[simp] theorem State.frameArrived_motion (s : State) : s.frameArrived.motion = s.motion := by
  simp [State.frameArrived]
@[simp] theorem State.frameArrived_supply (s : State) : s.frameArrived.supply = s.supply := by
  simp [State.frameArrived]
@[simp] theorem State.frameArrived_freeTick (s : State) : s.frameArrived.freeTick = s.freeTick := by
  simp [State.frameArrived]
@[simp] theorem State.frameArrived_settings (s : State) : s.frameArrived.settings = s.settings := by
  simp [State.settings]

/-- The receiver hunts after a frame, and the rest of the link stands. -/
@[simp] theorem State.frameArrived_link (s : State) :
    s.frameArrived.link = { s.link with rx := .hunting, gapDue := none } := by
  simp [State.frameArrived]

/-- A frame restarts the running quiet timer and leaves the rest of the transit unit. -/
@[simp] theorem State.frameArrived_transit (s : State) : s.frameArrived.transit = s.transitAfterFrame s.now := by
  unfold State.frameArrived State.restartQuiet State.transitAfterFrame
  cases running : s.transit.quietDue with
  | some due => simp [running, State.startQuiet, quietLength_micros]
  | none =>
    have stands : s.transit = { s.transit with quietDue := none } := by rw [← running]
    simpa [running] using stands

/-- What a frame leaves of the transit unit does not depend on the time before it. -/
@[simp] theorem State.elapse_transitAfterFrame (s : State) (dt now : Nat) :
    (s.elapse dt).transitAfterFrame now = s.transitAfterFrame now := rfl

/-! ### Requests that only answer (R148, R176, R177) -/

/-- A request that the case pending set refuses is answered PENDING (R148). -/
theorem State.checked_of_checkRefuses {s : State} {r : Req} (h : s.checkRefuses r) (k : ReqKind)
    (go : State → State) : s.checked k r go = s.answer k r .pending [] := by
  rw [State.checked, if_pos ((s.refuses_iff r).mpr h)]

/-- Neither the time that passes nor the frame's arrival changes what the case pending set refuses. -/
@[simp] theorem State.checkRefuses_arrived (s : State) (dt : Nat) (r : Req) :
    (s.elapse dt).frameArrived.checkRefuses r ↔ s.checkRefuses r := by
  simp [State.checkRefuses]

/-- An answer, with the line taking its next frame, keeps every block but for the running quiet timer. -/
theorem State.onlyAnswered_answer (s : State) (dt : Nat) (k : ReqKind) (r : Req) (st : Status) (body : List Byte) :
    s.onlyAnswered ((s.elapse dt).frameArrived.answer k r st body).lineUp dt := by
  simp [State.onlyAnswered, State.driveKept, State.answer, State.replyWith]

/-- An answer adds no event to the notice queue. -/
theorem State.nothingRaised_answer (s : State) (dt : Nat) (k : ReqKind) (r : Req) (st : Status) (body : List Byte) :
    s.nothingRaised ((s.elapse dt).frameArrived.answer k r st body).lineUp := by
  have stands : ((s.elapse dt).frameArrived.answer k r st body).link.notices = s.link.notices := by
    simp [State.answer, State.replyWith]
  rw [State.nothingRaised, ← stands]
  exact State.lineUp_notices _

/-- A request that is handed on, and whose handler only answers, changes nothing and gets that reply. -/
theorem State.takeRequest_onlyAnswers {s : State} {dt : Nat} {k : ReqKind} {r : Req} {handle : Req → State → State}
    {st : Status} {body : List Byte} (hands : s.hands k r)
    (answers : handle r (s.elapse dt).frameArrived = (s.elapse dt).frameArrived.answer k r st body) :
    ∃ t, s.takeEvent dt (takeRequest k handle r) = .next t ∧ s.onlyAnswered t dt ∧ s.nothingRaised t ∧
      t.replied k r st body := by
  refine ⟨_, State.takeEvent_eq dt _ s, ?_⟩
  rw [takeRequest_of_hands (s := s.elapse dt) hands, answers]
  exact ⟨s.onlyAnswered_answer dt k r st body, s.nothingRaised_answer dt k r st body,
    State.lineUp_replied (State.answer_replied _ _ _ _ _)⟩

/-- A request that is handed on, and whose handler reads the state under the CHECK flag, changes nothing: it is refused
with PENDING, or answered DONE with what it read. -/
theorem State.takeRequest_reads {s : State} {dt : Nat} {k : ReqKind} {r : Req} {handle : Req → State → State}
    {read : State → List Byte} (hands : s.hands k r)
    (reads : ∀ t, handle r t = t.checked k r (fun t => t.answer k r .done (read t))) :
    ∃ t, s.takeEvent dt (takeRequest k handle r) = .next t ∧ s.onlyAnswered t dt ∧ s.nothingRaised t ∧
      (s.checkRefuses r → t.replied k r .pending []) ∧
      (¬ s.checkRefuses r → t.replied k r .done (read (s.elapse dt).frameArrived)) := by
  by_cases refuses : s.checkRefuses r
  case pos =>
    have arrived := (s.checkRefuses_arrived dt r).mpr refuses
    obtain ⟨t, step, kept, quiet, replied⟩ :=
      State.takeRequest_onlyAnswers hands ((reads _).trans (State.checked_of_checkRefuses arrived _ _))
    exact ⟨t, step, kept, quiet, fun _ => replied, fun h => absurd refuses h⟩
  case neg =>
    have arrived := mt (s.checkRefuses_arrived dt r).mp refuses
    obtain ⟨t, step, kept, quiet, replied⟩ :=
      State.takeRequest_onlyAnswers hands ((reads _).trans (State.checked_of_not_checkRefuses arrived _ _))
    exact ⟨t, step, kept, quiet, fun h => absurd h refuses, fun _ => replied⟩

/-! ### GET (R166) -/

/-- GET as a command. -/
theorem exec_getSetting (dt : Nat) (r : Req) (s : State) :
    exec (.getSetting dt r) s = s.takeEvent dt (takeRequest .getSetting handleGetSetting r) := rfl

/-- The numbers that name no setting are 0 and those above 21. -/
theorem settingNumberBad_iff (n : Byte) : settingNumberBad n = true ↔ n.toNat = 0 ∨ 21 < n.toNat := by
  simp [settingNumberBad]

/-- GET of a number that names no setting, before the CHECK flag. -/
theorem handleGetSetting_argument {r : Req} {s : State} {n : Byte} (body : r.body = [n])
    (bad : n.toNat = 0 ∨ 21 < n.toNat) : handleGetSetting r s = s.answer .getSetting r .argument [] := by
  simp [handleGetSetting, body, (settingNumberBad_iff n).mpr bad]

/-- GET of a setting goes through the CHECK flag to its reply. -/
theorem handleGetSetting_checked {r : Req} {s : State} {n : Byte} (body : r.body = [n])
    (good : ¬ (n.toNat = 0 ∨ 21 < n.toNat)) :
    handleGetSetting r s =
      s.checked .getSetting r (fun s => s.answer .getSetting r .done (s.settingBody n)) := by
  simp [handleGetSetting, body, mt (settingNumberBad_iff n).mp good]

/-- The body of a GET, as a request that arrives reads the settings. -/
theorem State.settingBody_arrived (s : State) (dt : Nat) (n : Byte) :
    (s.elapse dt).frameArrived.settingBody n = n :: le16 (BitVec.ofNat 16 (s.settings.get n.toNat)) := by
  simp [State.settingBody, le16OfNat]

/-- The environment record carries the masks as its first two bytes (R191). -/
theorem State.environmentImage_masks (s : State) :
    s.environmentImage.take 2 = le16 (s.store.working.masks.zeroExtend 16) := rfl

/-- The bay record carries the selection as its byte 7 (R191). -/
theorem State.bayImage_selection (s : State) (b : BayNo) :
    (s.bayImage b)[7]? = some (BitVec.ofNat 8 s.store.working.selections[b].val) := rfl

/-- Settles O50: GET answers ARGUMENT where its number names no setting, and reads the value under the CHECK flag
otherwise. -/
theorem getReturnsASetting : Obligations.GetReturnsASetting := by
  refine ⟨fun dt r s n hands body => ?_, State.environmentImage_masks, State.bayImage_selection⟩
  rw [exec_getSetting]
  by_cases bad : n.toNat = 0 ∨ 21 < n.toNat
  case pos =>
    obtain ⟨t, step, kept, quiet, replied⟩ :=
      State.takeRequest_onlyAnswers (dt := dt) hands (handleGetSetting_argument body bad)
    exact ⟨t, step, kept, quiet, fun _ => replied, by omega, by omega⟩
  case neg =>
    obtain ⟨t, step, kept, quiet, refused, done⟩ :=
      State.takeRequest_reads (dt := dt) hands (fun _ => handleGetSetting_checked body bad)
    rw [State.settingBody_arrived] at done
    exact ⟨t, step, kept, quiet, fun h => absurd h bad, fun _ _ => refused, fun _ _ => done⟩

/-! ### GET PROFILE (R162) -/

/-- GET PROFILE as a command. -/
theorem exec_getProfile (dt : Nat) (r : Req) (s : State) :
    exec (.getProfile dt r) s = s.takeEvent dt (takeRequest .getProfile handleGetProfile r) := rfl

/-- A byte above 7 names no profile. -/
theorem profileNoOf_above {n : Byte} (h : 7 < n.toNat) : profileNoOf n = none := by
  rw [profileNoOf, dif_neg (by omega)]

/-- A byte up to 7 names the profile of its number. -/
theorem profileNoOf_of_toNat {n : Byte} {k : Fin 8} (h : n.toNat = k.val) : profileNoOf n = some k := by
  simp [profileNoOf, h]

/-- GET PROFILE of a number that names no profile, before the CHECK flag. -/
theorem handleGetProfile_argument {r : Req} {s : State} {n : Byte} (body : r.body = [n]) (above : 7 < n.toNat) :
    handleGetProfile r s = s.answer .getProfile r .argument [] := by
  simp [handleGetProfile, body, profileNoOf_above above]

/-- GET PROFILE of a profile goes through the CHECK flag to its reply. -/
theorem handleGetProfile_checked {r : Req} {s : State} {n : Byte} {k : Fin 8} (body : r.body = [n])
    (number : n.toNat = k.val) :
    handleGetProfile r s =
      s.checked .getProfile r (fun s => s.answer .getProfile r .done (s.profileBody k)) := by
  simp [handleGetProfile, body, profileNoOf_of_toNat number]

/-- The body of a GET PROFILE, as a request that arrives reads the table. -/
theorem State.profileBody_arrived (s : State) (dt : Nat) {n : Byte} {k : Fin 8} (number : n.toNat = k.val) :
    (s.elapse dt).frameArrived.profileBody k = n :: (s.store.working.profiles[k]).image := by
  simp [State.profileBody, byteOf, ← number]

/-- The bay record carries the latched copy as its last 18 bytes, from byte 28 on (R191). -/
theorem State.bayImage_latched {s : State} {b : BayNo} {p : Profile} (h : (s.bay b).latched = some p) :
    (s.bayImage b).drop 28 = p.image := by
  simp only [State.bayImage, h]
  rfl

/-- Settles O51: GET PROFILE answers ARGUMENT where its number names no profile, and reads the table under the CHECK
flag otherwise. -/
theorem getProfileReturnsTheTableEntry : Obligations.GetProfileReturnsTheTableEntry := by
  refine ⟨fun dt r s n hands body => ?_, fun s b p => State.bayImage_latched⟩
  rw [exec_getProfile]
  by_cases above : 7 < n.toNat
  case pos =>
    obtain ⟨t, step, kept, quiet, replied⟩ :=
      State.takeRequest_onlyAnswers (dt := dt) hands (handleGetProfile_argument body above)
    exact ⟨t, step, kept, quiet, fun _ => replied, by omega, by omega⟩
  case neg =>
    obtain ⟨k, number⟩ : ∃ k : Fin 8, n.toNat = k.val := ⟨⟨n.toNat, by omega⟩, rfl⟩
    obtain ⟨t, step, kept, quiet, refused, done⟩ :=
      State.takeRequest_reads (dt := dt) hands (fun _ => handleGetProfile_checked body number)
    rw [State.profileBody_arrived s dt number] at done
    refine ⟨t, step, kept, quiet, fun h => absurd h above, fun _ => refused, fun j named => ?_⟩
    obtain rfl : j = k := Fin.ext (named.symm.trans number)
    exact done

end Sys2Proof.Machine
end

section
/-! PROOFS. The VIEW cursor and its pin (R185, R186): what a request that moves them leaves, what a RESTART makes of
them, and the statement O38. -/

namespace Sys2Proof.Machine

/-! ### Requests that move the cursor or the pin -/

/-- The VIEW cursor and the pin written, and the rest of the link kept. -/
def State.setView (cursor : Fin 17) (pin : Option (Fin 17)) (s : State) : State :=
  s.modLink (fun l => { l with cursor := cursor, pin := pin })

/-- A reply leaves the cursor and the pin that were written before it. -/
theorem State.setView_answer_link (s : State) (cursor : Fin 17) (pin : Option (Fin 17)) (k : ReqKind) (r : Req)
    (st : Status) (body : List Byte) :
    ((s.setView cursor pin).answer k r st body).link.cursor = cursor ∧
      ((s.setView cursor pin).answer k r st body).link.pin = pin := ⟨rfl, rfl⟩

/-- A request that is handed on, and whose handler writes the cursor and the pin and answers, leaves every block outside
the link but for the running quiet timer. -/
theorem State.takeRequest_setsView {s : State} {dt : Nat} {k : ReqKind} {r : Req} {handle : Req → State → State}
    {cursor : Fin 17} {pin : Option (Fin 17)} {st : Status} {body : List Byte} (hands : s.hands k r)
    (writes : handle r (s.elapse dt).frameArrived =
      ((s.elapse dt).frameArrived.setView cursor pin).answer k r st body) :
    ∃ t, s.takeEvent dt (takeRequest k handle r) = .next t ∧ t.replied k r st body ∧ t.link.cursor = cursor ∧
      t.link.pin = pin ∧ s.driveKept t ∧ t.faults = s.faults ∧ t.store = s.store ∧
      t.transit = s.transitAfterFrame (s.now + dt) := by
  refine ⟨_, State.takeEvent_eq dt _ s, ?_⟩
  rw [takeRequest_of_hands (s := s.elapse dt) hands, writes]
  obtain ⟨writesCursor, writesPin⟩ := (s.elapse dt).frameArrived.setView_answer_link cursor pin k r st body
  refine ⟨State.lineUp_replied (State.answer_replied _ _ _ _ _), ?_, ?_, ?_⟩
  · rw [State.lineUp_cursor, writesCursor]
  · rw [State.lineUp_pin, writesPin]
  · simp [State.driveKept, State.setView]

/-- A request whose body has not the length of its kind is answered ARGUMENT and does nothing else (R176). -/
theorem State.takeRequest_badLength {s : State} {dt : Nat} {k : ReqKind} {r : Req} (slotEmpty : s.link.slot = none)
    (noLoad : s.store.loading = false) (length : r.body.length ≠ k.bodyLen) (handle : Req → State → State) :
    ∃ t, s.takeEvent dt (takeRequest k handle r) = .next t ∧ t.replied k r .argument [] ∧ s.onlyAnswered t dt := by
  have refused : takeRequest k handle r (s.elapse dt) = (s.elapse dt).frameArrived.answer k r .argument [] := by
    simp [takeRequest, slotEmpty, noLoad, length]
  refine ⟨_, State.takeEvent_eq dt _ s, ?_⟩
  rw [refused]
  exact ⟨State.lineUp_replied (State.answer_replied _ _ _ _ _), s.onlyAnswered_answer dt k r _ _⟩

/-! ### VIEW PIN and VIEW UNPIN (R186) -/

/-- VIEW PIN as a command. -/
theorem exec_viewPin (dt : Nat) (r : Req) (s : State) :
    exec (.viewPin dt r) s = s.takeEvent dt (takeRequest .viewPin handleViewPin r) := rfl

/-- VIEW UNPIN as a command. -/
theorem exec_viewUnpin (dt : Nat) (r : Req) (s : State) :
    exec (.viewUnpin dt r) s = s.takeEvent dt (takeRequest .viewUnpin handleViewUnpin r) := rfl

/-- VIEW PIN keeps a saved cursor and saves the cursor where none is saved. -/
theorem handleViewPin_eq {r : Req} (body : r.body = []) (s : State) :
    handleViewPin r s = (s.setView s.link.cursor (some (s.link.pin.getD s.link.cursor))).answer .viewPin r .done
      [BitVec.ofNat 8 s.link.cursor.val] := by
  rw [handleViewPin, withEmptyBody, body]
  rfl

/-- VIEW UNPIN brings a saved cursor back and clears the pin. -/
theorem handleViewUnpin_eq {r : Req} (body : r.body = []) (s : State) :
    handleViewUnpin r s = (s.setView (s.link.pin.getD s.link.cursor) none).answer .viewUnpin r .done
      [BitVec.ofNat 8 (s.link.pin.getD s.link.cursor).val] := by
  rw [handleViewUnpin, withEmptyBody, body]
  rfl

/-- VIEW PIN that is handed on (R186). -/
theorem exec_viewPin_of_hands {r : Req} {s : State} (dt : Nat) (hands : s.hands .viewPin r) :
    ∃ t, exec (.viewPin dt r) s = .next t ∧ t.replied .viewPin r .done [BitVec.ofNat 8 s.link.cursor.val] ∧
      t.link.cursor = s.link.cursor ∧ t.link.pin = some (s.link.pin.getD s.link.cursor) ∧ s.driveKept t ∧
      t.faults = s.faults ∧ t.store = s.store ∧ t.transit = s.transitAfterFrame (s.now + dt) := by
  have ⟨_, _, length⟩ := hands
  have writes := handleViewPin_eq (List.length_eq_zero_iff.mp length) (s.elapse dt).frameArrived
  rw [State.frameArrived_link, State.elapse_link] at writes
  rw [exec_viewPin]
  exact State.takeRequest_setsView hands writes

/-- VIEW UNPIN that is handed on (R186). -/
theorem exec_viewUnpin_of_hands {r : Req} {s : State} (dt : Nat) (hands : s.hands .viewUnpin r) :
    ∃ t, exec (.viewUnpin dt r) s = .next t ∧
      t.replied .viewUnpin r .done [BitVec.ofNat 8 (s.link.pin.getD s.link.cursor).val] ∧
      t.link.cursor = s.link.pin.getD s.link.cursor ∧ t.link.pin = none ∧ s.driveKept t ∧
      t.faults = s.faults ∧ t.store = s.store ∧ t.transit = s.transitAfterFrame (s.now + dt) := by
  have ⟨_, _, length⟩ := hands
  have writes := handleViewUnpin_eq (List.length_eq_zero_iff.mp length) (s.elapse dt).frameArrived
  rw [State.frameArrived_link, State.elapse_link] at writes
  rw [exec_viewUnpin]
  exact State.takeRequest_setsView hands writes

/-! ### VIEW BAY under the pin (R185) -/

/-- VIEW BAY as a command. -/
theorem exec_viewBay (dt : Nat) (r : Req) (s : State) :
    exec (.viewBay dt r) s = s.takeEvent dt (takeRequest .viewBay handleViewBay r) := rfl

/-- The byte of a bay names that bay. -/
theorem bayOf_ofNat (b : BayNo) : bayOf (BitVec.ofNat 8 b.val) = some b := by revert b; decide

/-- The byte of a bay is not that of NEXT. -/
theorem ofNat_bay_ne_next (b : BayNo) : BitVec.ofNat 8 b.val ≠ 0xFF := by revert b; decide

/-- VIEW BAY of a named bay is refused while the pin is set. -/
theorem handleViewBay_named_of_pinned {r : Req} {s : State} {b : BayNo} (body : r.body = [BitVec.ofNat 8 b.val])
    (pinned : s.link.pin ≠ none) : handleViewBay r s = s.answer .viewBay r .state [] := by
  simp only [handleViewBay, body, if_neg (ofNat_bay_ne_next b), bayOf_ofNat, State.viewNamed]
  exact if_pos (Option.isSome_iff_ne_none.mpr pinned)

/-- VIEW BAY NEXT reads the bay at the cursor and advances the cursor, whether the pin is set or not. -/
theorem handleViewBay_next {r : Req} {s : State} {b : BayNo} (body : r.body = [0xFF])
    (cursor : s.link.cursor.val = b.val) :
    handleViewBay r s = (s.setView b.succ s.link.pin).answer .viewBay r .done (s.bayImage b) := by
  have inRange : s.link.cursor.val < 16 := cursor ▸ b.isLt
  obtain rfl : ⟨s.link.cursor.val, inRange⟩ = b := Fin.ext cursor
  simp only [handleViewBay, body, if_pos, State.viewNext, dif_pos inRange]
  rfl

/-- The bay record reads the bays, the arbiter's queue and the selections alone. -/
theorem State.bayImage_arrived (s : State) (dt : Nat) (b : BayNo) :
    (s.elapse dt).frameArrived.bayImage b = s.bayImage b := by
  simp [State.bayImage, State.recordFlags, State.entryByte, State.entryOf, State.loadAfter]

/-- VIEW BAY of a named bay that is handed on while the pin is set (R185). -/
theorem exec_viewBay_named_of_pinned {r : Req} {s : State} {b : BayNo} (dt : Nat) (hands : s.hands .viewBay r)
    (body : r.body = [BitVec.ofNat 8 b.val]) (pinned : s.link.pin ≠ none) :
    ∃ t, exec (.viewBay dt r) s = .next t ∧ t.replied .viewBay r .state [] ∧ s.onlyAnswered t dt := by
  have refuses : handleViewBay r (s.elapse dt).frameArrived = (s.elapse dt).frameArrived.answer .viewBay r .state [] :=
    handleViewBay_named_of_pinned body (by simpa using pinned)
  obtain ⟨t, step, kept, -, replied⟩ := State.takeRequest_onlyAnswers hands refuses
  exact ⟨t, step, replied, kept⟩

/-- VIEW BAY NEXT that is handed on with the cursor at a bay (R185). -/
theorem exec_viewBay_next {r : Req} {s : State} {b : BayNo} (dt : Nat) (hands : s.hands .viewBay r)
    (body : r.body = [0xFF]) (cursor : s.link.cursor.val = b.val) :
    ∃ t, exec (.viewBay dt r) s = .next t ∧ t.replied .viewBay r .done (s.bayImage b) ∧
      t.link.cursor.val = b.val + 1 ∧ t.link.pin = s.link.pin := by
  have writes := handleViewBay_next (s := (s.elapse dt).frameArrived) body (by simpa using cursor)
  rw [State.bayImage_arrived, State.frameArrived_link, State.elapse_link] at writes
  obtain ⟨t, step, replied, advanced, pin, -⟩ := State.takeRequest_setsView hands writes
  exact ⟨t, step, replied, by rw [advanced, Fin.val_succ], pin⟩

/-! ### RESTART and the cursor (R174, R185, R186) -/

/-- The VIEW cursor and the pin stand as they stood. -/
structure State.ViewsLike (s t : State) : Prop where
  cursor : t.link.cursor = s.link.cursor
  pin : t.link.pin = s.link.pin

/-- What stands over two changes. -/
theorem State.ViewsLike.trans {s t u : State} (h : s.ViewsLike t) (g : t.ViewsLike u) : s.ViewsLike u where
  cursor := g.cursor.trans h.cursor
  pin := g.pin.trans h.pin

/-- An event of the case leaves the cursor and the pin. -/
theorem State.viewsLike_addCaseEvent (s : State) (e : CaseEvent) : s.ViewsLike (s.addCaseEvent e) := ⟨rfl, rfl⟩

/-- A cursor and a pin that stand while the holders take an event in turn stand while they take it in no order. -/
theorem State.ViewsLike.inFreeOrder {s t : State} {holders : List (State → State)}
    (h : s.ViewsLike (t.inTurn holders)) : s.ViewsLike (t.inFreeOrder holders) := ⟨h.cursor, h.pin⟩

/-- A sweep over a case at rest leaves the link alone (R102). -/
theorem State.sweep_link_of_atRest {s : State} (h : s.AtRest) (k : SweepKind) : (s.sweep k).link = s.link := by
  have pointed : (s.modScheduler (fun q => { q with pointer := q.origin })).AtRest := ⟨h.states, h.noUnload⟩
  rw [State.sweep, State.walk_of_atRest pointed k, State.startPass_of_noUnload (by exact h.noUnload)]
  rfl

/-- Each holder of the entry into TRANSIT_SAFE leaves a case at rest still at rest, and its cursor and its pin as they
stand (R130). -/
theorem State.safeHolder_of_atRest {f : State → State}
    (holder : f ∈ State.addCaseEvent .safeEntered :: allBays.map State.transitBay ++ [State.sweep .transit])
    {s : State} (h : s.AtRest) : (f s).AtRest ∧ s.ViewsLike (f s) := by
  simp only [List.mem_append, List.mem_cons, List.mem_map, List.not_mem_nil, or_false] at holder
  obtain (rfl | ⟨b, -, rfl⟩) | rfl := holder
  · exact ⟨h.of_restsLike (s.restsLike_addCaseEvent _), s.viewsLike_addCaseEvent _⟩
  · rw [State.transitBay_of_atRest h b]
    exact ⟨h.of_restsLike (s.restsLike_setLoadOnArrival b false), rfl, rfl⟩
  · have link := State.sweep_link_of_atRest h .transit
    exact ⟨h.of_restsLike (State.restsLike_sweep h _), by rw [link], by rw [link]⟩

/-- The entry into TRANSIT_SAFE of a case at rest leaves the cursor and the pin (R130). -/
theorem State.viewsLike_enterSafe {s : State} (h : s.AtRest) : s.ViewsLike s.enterSafe := by
  unfold State.enterSafe
  split
  · exact ⟨rfl, rfl⟩
  · refine State.ViewsLike.inFreeOrder (State.inTurn_induct (P := fun t => t.AtRest ∧ s.ViewsLike t) ?holders ?start).2
    case holders =>
      rintro f holder t ⟨rest, views⟩
      obtain ⟨restAfter, viewsAfter⟩ := State.safeHolder_of_atRest holder rest
      exact ⟨restAfter, views.trans viewsAfter⟩
    case start => exact ⟨⟨h.states, h.noUnload⟩, rfl, rfl⟩

/-- What the transit unit does after a RESTART leaves the cursor and the pin (R127). -/
theorem State.viewsLike_startTransit {s : State} (h : s.AtRest) : s.ViewsLike s.startTransit := by
  unfold State.startTransit
  split
  · exact State.viewsLike_enterSafe h
  · exact ⟨rfl, rfl⟩

/-- The blocks of a RESTART have the cursor at 0 and the pin clear (R174). -/
theorem State.restartBlocks_view (s : State) :
    s.restartBlocks.link.cursor = 0 ∧ s.restartBlocks.link.pin = none := ⟨rfl, rfl⟩

/-- A RESTART that is taken leaves the cursor at 0 and the pin clear (R174). -/
theorem State.takeRestart_view {s : State} (rest : ∀ b, (s.bay b).refusesRestart = false) (r : Req) :
    (s.takeRestart r).link.pin = none ∧ (s.takeRestart r).link.cursor = 0 := by
  have atRest : (s.answer .restart r .done []).restartBlocks.AtRest := State.restartBlocks_atRest (by exact rest)
  obtain ⟨cursor, pin⟩ := (State.viewsLike_startTransit atRest).trans (State.viewsLike_addCaseEvent _ .started)
  obtain ⟨cursorZero, pinClear⟩ := (s.answer .restart r .done []).restartBlocks_view
  exact ⟨pin.trans pinClear, cursor.trans cursorZero⟩

/-! ### The pin holds the cursor -/

/-- Settles O38: VIEW PIN, VIEW UNPIN and NEXT write the cursor and the pin and no block beside the link; after a
RESTART the transit unit finds a case at rest and leaves them cleared. -/
theorem pinHoldsTheCursor : Obligations.PinHoldsTheCursor := by
  refine ⟨fun dt r s hands => ?pin, fun dt r s hands => ?unpin, fun dt r s slotEmpty noLoad body => ?argument,
    fun dt r s b hands pinned => ⟨fun body => ?named, fun body cursor => ?next⟩, fun dt s => ⟨?powerOn, ?resetN⟩,
    fun dt r s hands commit rest => ?restart⟩
  case pin =>
    obtain ⟨t, step, replied, cursor, pin, kept⟩ := exec_viewPin_of_hands dt hands
    exact ⟨t, step, replied, cursor, pin.trans (by cases s.link.pin <;> rfl), kept⟩
  case unpin =>
    obtain ⟨t, step, replied, cursor, pin, kept⟩ := exec_viewUnpin_of_hands dt hands
    exact ⟨t, step, pin, cursor.trans (by cases s.link.pin <;> rfl), cursor ▸ replied, kept⟩
  case argument =>
    have length : r.body.length ≠ 0 := mt List.length_eq_zero_iff.mp body
    rw [exec_viewPin, exec_viewUnpin]
    exact ⟨State.takeRequest_badLength slotEmpty noLoad length _, State.takeRequest_badLength slotEmpty noLoad length _⟩
  case named => exact exec_viewBay_named_of_pinned dt hands body pinned
  case next => exact exec_viewBay_next dt hands body cursor
  case powerOn => exact ⟨_, exec_powerOn s, rfl, rfl⟩
  case resetN => exact ⟨_, exec_resetN dt s, rfl, rfl⟩
  case restart =>
    refine ⟨_, exec_restart_taken dt hands commit rest, ?_⟩
    rw [State.lineUp_pin, State.lineUp_cursor]
    exact State.takeRestart_view (by simpa using rest) r

end Sys2Proof.Machine
end

section
/-! PROOFS. Steps, the state after reset and the resets: the statements O1, O2, O4, O5 and O6. -/

namespace Sys2Proof.Machine

/-! ### Steps -/

/-- A step with a command in front runs it on the state with the rest of the queue. -/
theorem step_of_cons {c : Instr} {rest : List Instr} {s : State} (front : s.pending = c :: rest) :
    step s = exec c { s with pending := rest } := by
  simp only [step, front]

/-- A step on an empty queue lets a millisecond pass. -/
theorem step_of_nil {s : State} (empty : s.pending = []) : step s = .next (s.elapse ms) := by
  simp only [step, empty]

/-- What every command keeps and time passing keeps, a step keeps. -/
theorem step_induct {P : State → Prop} (pending : ∀ s l, P s → P { s with pending := l })
    (idle : ∀ s, P s → P (s.elapse ms)) (command : ∀ c s t, P s → exec c s = .next t → P t) {s t : State}
    (hs : P s) (h : step s = .next t) : P t := by
  cases front : s.pending with
  | nil =>
    rw [step_of_nil front] at h
    obtain rfl : s.elapse ms = t := by simpa using h
    exact idle s hs
  | cons c rest =>
    rw [step_of_cons front] at h
    exact command c _ t (pending s rest hs) h

/-- The case clock a millisecond later. -/
theorem caseClock_add_ms (now : Nat) : caseClock (now + ms) = caseClock now + 1 := by
  have later : (now + ms) / ms = now / ms + 1 := Nat.add_div_right now (by decide)
  rw [caseClock, later, caseClock, BitVec.ofNat_add]
  rfl

/-- Settles O1. -/
theorem stepTakesTheFrontCommand : Obligations.StepTakesTheFrontCommand :=
  fun _ _ _ front => step_of_cons front

/-- Settles O2: the tick of the empty queue. -/
theorem idleStepIsOneMillisecond : Obligations.IdleStepIsOneMillisecond :=
  fun s empty => ⟨step_of_nil empty, caseClock_add_ms s.now⟩

/-! ### The state after reset -/

/-- Every bay of the state after reset has the record of R26. -/
@[simp] theorem State.reset_bay (b : BayNo) : State.reset.bay b = BayRec.reset := by
  simp [State.bay, State.reset]

/-- Settles O4: the values of a new part, field by field. -/
theorem resetStateIsAFreshPart : Obligations.ResetStateIsAFreshPart := by
  refine ⟨?fresh, StoreImage.spoiled_passes _, by decide, rfl, by decide, by decide⟩
  exact ⟨rfl, fun b => by simp [BayRec.reset, debounceLength, ms], ⟨rfl, rfl, rfl, rfl, rfl⟩, rfl, rfl,
    ⟨rfl, rfl, rfl, rfl⟩, ⟨rfl, rfl⟩, ⟨rfl, rfl, rfl⟩, ⟨rfl, rfl, rfl⟩, ⟨rfl, rfl, rfl, rfl, rfl, rfl⟩⟩

/-- The factory defaults pass their checks (R160, R164). -/
theorem WorkingSettings.factory_valid : WorkingSettings.factory.valid = true := by
  have profiles : WorkingSettings.factory.profiles.all Profile.valid = true := by
    simp only [WorkingSettings.factory, Vector.all_replicate]
    decide
  rw [WorkingSettings.valid, profiles]
  rfl

@[simp] theorem BayRec.reset_state : BayRec.reset.state = .vacant := rfl
@[simp] theorem BayRec.reset_pending : BayRec.reset.pending = 0 := rfl
@[simp] theorem State.reset_arbiter : State.reset.arbiter = .reset := rfl
@[simp] theorem State.reset_scheduler : State.reset.scheduler = .reset := rfl
@[simp] theorem State.reset_faults : State.reset.faults = .reset := rfl
@[simp] theorem State.reset_motion : State.reset.motion = .reset := rfl
@[simp] theorem State.reset_transit : State.reset.transit = .reset := rfl

/-- Settles O5: after reset every bay is VACANT, no fault is pending, and every queue and list is empty. -/
theorem resetStateHasEveryInvariant : Obligations.ResetStateHasEveryInvariant := by
  refine ⟨⟨fun b => ?nested, rfl⟩, ?attn, fun b => ?outputs, ?settings, ?notices, ?queues, ?counts, fun b => ?converter,
    ?quiet, ?motion⟩
  case nested => simp
  case attn => simp [State.attnShowsPending, FaultUnit.reset]
  case outputs => rw [State.reset_bay]; exact ⟨by simp [BayRec.reset], rfl⟩
  case settings => exact ⟨WorkingSettings.factory_valid, Nat.zero_le _, Nat.zero_le _, Nat.zero_le _⟩
  case notices => exact ⟨List.nodup_nil, Nat.zero_le _⟩
  case queues =>
    exact ⟨List.nodup_nil, fun b => by simp [Arbiter.reset], List.nodup_nil, fun b => by simp [Scheduler.reset]⟩
  case counts =>
    refine ⟨?_, ?_, fun b spinning => ?_, ?_⟩
    · simp [BayRec.surge, Arbiter.reset, allBays]
    · simp [BayRec.holdsGrant, Arbiter.reset, allBays]
    · simp at spinning
    · simp [Scheduler.reset, allBays]
  case converter => simp [Arbiter.reset, Converter.free]
  case quiet => intro safe; simp [Transit.reset] at safe
  case motion => simp [State.motionBounded, Motion.reset]

/-! ### The resets -/

/-- A bay after a reset. -/
@[simp] theorem State.afterReset_bay (s : State) (now : Nat) (b : BayNo) :
    (s.afterReset now).bay b = (s.bay b).afterReset now := by
  simp [State.bay, State.afterReset]

/-- Every block after a reset has its start value (R26). -/
theorem State.afterReset_freshAt (s : State) (now : Nat) : (s.afterReset now).freshAt now := by
  refine ⟨rfl, fun b => ?_, ⟨rfl, rfl, rfl, rfl, rfl⟩, rfl, rfl, ⟨rfl, rfl, rfl, rfl⟩, ⟨rfl, rfl⟩, ⟨rfl, rfl, rfl⟩,
    ⟨rfl, rfl, rfl⟩, ⟨rfl, rfl, rfl, rfl, rfl, rfl⟩⟩
  rw [State.afterReset_bay]
  exact ⟨rfl, rfl, rfl, rfl, rfl, rfl, rfl, rfl, rfl, rfl, rfl, rfl, rfl, rfl, rfl, rfl, rfl, rfl, rfl, rfl, rfl, rfl,
    rfl⟩

/-- A reset keeps the image and the levels of PRK. -/
theorem State.afterReset_keeps (s : State) (now : Nat) :
    (s.afterReset now).store.image = s.store.image ∧ ∀ b, ((s.afterReset now).bay b).prk = (s.bay b).prk :=
  ⟨rfl, fun b => by rw [State.afterReset_bay]; rfl⟩

/-- Settles O6: both resets are `State.afterReset`, at their own times. -/
theorem resetsStartEveryBlock : Obligations.ResetsStartEveryBlock :=
  fun dt s => ⟨⟨_, exec_powerOn s, s.afterReset_freshAt 0, s.afterReset_keeps 0⟩,
    ⟨_, exec_resetN dt s, s.afterReset_freshAt _, s.afterReset_keeps _⟩⟩

end Sys2Proof.Machine
end

section
/-! PROOFS. What the operations of one event can do to the notices and to the commands that wait: entries are added and
nothing is taken away (R182). -/

namespace Sys2Proof.Machine

/-! ### Additions to the notice queue -/

/-- An addition to an entry: its source stands and no event and no fault leaves it; the result of a TEST_DONE stands
unless `results`. -/
def Notice.Addition (results : Prop) (f : Notice → Notice) : Prop :=
  ∀ n, (f n).source = n.source ∧ (f n).events &&& n.events = n.events ∧ (f n).faults &&& n.faults = n.faults ∧
    ((f n).testDone = n.testDone ∨ results)

/-- A notice queue after additions. The sources in `D` may have had a TEST_DONE. -/
inductive NotesGrow (D : Source → Prop) (ns : List Notice) : List Notice → Prop
  | refl : NotesGrow D ns ns
  | add {ms : List Notice} (src : Source) (st : Byte) (f : Notice → Notice) (grown : NotesGrow D ns ms)
      (adds : Notice.Addition (D src) f) : NotesGrow D ns (addToNotices src st f ms)

theorem NotesGrow.trans {D : Source → Prop} {ns ms ls : List Notice} (h : NotesGrow D ns ms) (g : NotesGrow D ms ls) :
    NotesGrow D ns ls := by
  induction g with
  | refl => exact h
  | add src st f _ adds ih => exact .add src st f ih adds

/-- The sources of the entries after an addition: those before, and the source added to if it had no entry. -/
theorem addToNotices_sources {D : Prop} {f : Notice → Notice} (adds : Notice.Addition D f) (src : Source) (st : Byte)
    (ns : List Notice) :
    (addToNotices src st f ns).map Notice.source =
      if src ∈ ns.map Notice.source then ns.map Notice.source else ns.map Notice.source ++ [src] := by
  have hasEntry : ns.any (fun n => n.source == src) = true ↔ src ∈ ns.map Notice.source := by simp
  unfold addToNotices
  by_cases h : src ∈ ns.map Notice.source
  · rw [if_pos (hasEntry.mpr h), if_pos h, List.map_map]
    refine List.map_congr_left fun n _ => ?_
    simp only [Function.comp]
    split
    · exact (adds _).1
    · rfl
  · rw [if_neg (mt hasEntry.mp h), if_neg h, List.map_append]
    simp [(adds _).1, Notice.fresh]

/-- Additions keep one entry for each source. -/
theorem NotesGrow.nodup {D : Source → Prop} {ns ms : List Notice} (h : NotesGrow D ns ms)
    (single : (ns.map Notice.source).Nodup) : (ms.map Notice.source).Nodup := by
  induction h with
  | refl => exact single
  | add src st f _ adds ih =>
    rw [addToNotices_sources adds]
    split
    · exact ih
    · rename_i absent
      refine List.nodup_append.mpr ⟨ih, List.pairwise_singleton _ src, fun a mem c here => ?_⟩
      rintro rfl
      exact absent (List.mem_singleton.mp here ▸ mem)

/-- An entry that has grown: its source, and every event and fault that it had. -/
structure Notice.Grown (n m : Notice) : Prop where
  source : m.source = n.source
  events : m.events &&& n.events = n.events
  faults : m.faults &&& n.faults = n.faults

/-- Bits that stand over two additions. -/
theorem and_trans_of_bits {w : Nat} {a b c : BitVec w} (h : b &&& a = a) (g : c &&& b = b) : c &&& a = a := by
  rw [← h, ← BitVec.and_assoc, g]

theorem Notice.Grown.trans {n m l : Notice} (h : n.Grown m) (g : m.Grown l) : n.Grown l where
  source := g.source.trans h.source
  events := and_trans_of_bits h.events g.events
  faults := and_trans_of_bits h.faults g.faults

theorem Notice.Grown.refl (n : Notice) : n.Grown n := ⟨rfl, BitVec.and_self, BitVec.and_self⟩

/-- An entry stands through an addition, grown at most. -/
theorem mem_addToNotices {D : Prop} {f : Notice → Notice} (adds : Notice.Addition D f) (src : Source) (st : Byte)
    {ns : List Notice} {n : Notice} (mem : n ∈ ns) :
    ∃ m ∈ addToNotices src st f ns, n.Grown m ∧ (m.testDone = n.testDone ∨ D ∧ n.source = src) := by
  unfold addToNotices
  split
  · refine ⟨_, List.mem_map_of_mem mem, ?_⟩
    split
    · rename_i here
      obtain ⟨source, events, faults, testDone⟩ := adds { n with state := st }
      exact ⟨⟨source, events, faults⟩, testDone.imp_right fun h => ⟨h, by simpa using here⟩⟩
    · exact ⟨.refl n, .inl rfl⟩
  · exact ⟨n, List.mem_append_left _ mem, .refl n, .inl rfl⟩

/-- An entry stands through additions, grown at most; the result of its TEST_DONE stands unless its source had one. -/
theorem NotesGrow.mem {D : Source → Prop} {ns ms : List Notice} (h : NotesGrow D ns ms) {n : Notice} (mem : n ∈ ns) :
    ∃ m ∈ ms, n.Grown m ∧ (m.testDone = n.testDone ∨ D n.source) := by
  induction h with
  | refl => exact ⟨n, mem, .refl n, .inl rfl⟩
  | add src st f _ adds ih =>
    obtain ⟨m, mem, grown, testDone⟩ := ih
    obtain ⟨l, memL, grownL, testDoneL⟩ := mem_addToNotices adds src st mem
    refine ⟨l, memL, grown.trans grownL, ?_⟩
    rcases testDoneL with same | ⟨raised, here⟩
    · exact testDone.imp_left same.trans
    · exact .inr (grown.source ▸ here ▸ raised)

/-- The entry that an addition makes or adds to. -/
theorem addToNotices_here (src : Source) (st : Byte) (f : Notice → Notice) (ns : List Notice) :
    ∃ n, n.source = src ∧ n.state = st ∧ f n ∈ addToNotices src st f ns := by
  unfold addToNotices
  split
  · rename_i has
    obtain ⟨n, mem, here⟩ := List.any_eq_true.mp has
    refine ⟨{ n with state := st }, by simpa using here, rfl, ?_⟩
    refine List.mem_map.mpr ⟨n, mem, ?_⟩
    rw [if_pos here]
  · exact ⟨Notice.fresh src st, rfl, rfl, by simp⟩

/-- Bits that are added to stand. -/
theorem or_and_self_left {w : Nat} (a b : BitVec w) : (a ||| b) &&& a = a := by
  ext i h
  simp +contextual

/-- An event added, under a change of the result, is an addition where the result may change. -/
theorem Notice.addition_event {D : Prop} (e : Word16) (result : Notice → WindingResult)
    (h : (∀ n : Notice, result n = n.testDone) ∨ D) :
    Notice.Addition D (fun n => { n with events := n.events ||| e, testDone := result n }) :=
  fun _ => ⟨rfl, or_and_self_left _ _, BitVec.and_self, h.imp_left fun h => h _⟩

/-- A fault added is an addition. -/
theorem Notice.addition_fault (D : Prop) (c : Byte) : Notice.Addition D (fun n => { n with faults := n.faults ||| c }) :=
  fun _ => ⟨rfl, BitVec.and_self, or_and_self_left _ _, .inl rfl⟩

/-! ### What one event leaves of the link and of the commands -/

/-- What the operations of one event leave: the commands that wait, and the link but for notices that are added. The
sources in `D` may have had a TEST_DONE. -/
structure State.Event (D : Source → Prop) (s t : State) : Prop where
  pending : t.pending = s.pending
  link : t.link = { s.link with notices := t.link.notices }
  notices : NotesGrow D s.link.notices t.link.notices

theorem State.Event.trans {D : Source → Prop} {s t u : State} (h : s.Event D t) (g : t.Event D u) : s.Event D u where
  pending := g.pending.trans h.pending
  link := by rw [g.link, h.link]
  notices := h.notices.trans g.notices

/-- An operation that touches neither. -/
theorem State.Event.of_eq {D : Source → Prop} {s t : State} (link : t.link = s.link)
    (pending : t.pending = s.pending) : s.Event D t where
  pending := pending
  link := by rw [link]
  notices := by rw [link]; exact .refl

theorem State.Event.refl {D : Source → Prop} (s : State) : s.Event D s := (.of_eq rfl rfl)

section

variable {D : Source → Prop}

/-- What follows a change that touches neither. -/
theorem State.Event.after {s t u : State} (g : t.Event D u) (link : t.link = s.link)
    (pending : t.pending = s.pending) : s.Event D u := (State.Event.of_eq link pending).trans g

theorem State.event_modBay (s : State) (b : BayNo) (f : BayRec → BayRec) : s.Event D (s.modBay b f) := .of_eq rfl rfl
theorem State.event_modBays (s : State) (f : BayRec → BayRec) : s.Event D (s.modBays f) := .of_eq rfl rfl
theorem State.event_modMotion (s : State) (f : Motion → Motion) : s.Event D (s.modMotion f) := .of_eq rfl rfl
theorem State.event_releaseGrant (s : State) (b : BayNo) : s.Event D (s.releaseGrant b) := .of_eq rfl rfl

theorem State.event_addNotice (s : State) {src : Source} {f : Notice → Notice} (adds : Notice.Addition (D src) f) :
    s.Event D (s.addNotice src f) := ⟨rfl, rfl, .add src _ f .refl adds⟩

/-- An event of a bay that is no TEST_DONE, or the TEST_DONE of a bay in `D`. -/
theorem State.event_addBayEvent (s : State) {b : BayNo} {e : BayEvent} (h : e ≠ .testDone ∨ D (.bay b)) :
    s.Event D (s.addBayEvent b e) :=
  s.event_addNotice (Notice.addition_event e.bit _ (h.imp_left fun h _ => if_neg h))

theorem State.event_addCaseEvent (s : State) (e : CaseEvent) : s.Event D (s.addCaseEvent e) :=
  s.event_addNotice (Notice.addition_event e.bit Notice.testDone (.inl fun _ => rfl))

/-- The entry into a state raises no TEST_DONE. -/
theorem entryEvent_ne_testDone (old st : BayState) : entryEvent old st ≠ some .testDone := by
  cases st <;> simp only [entryEvent, ne_eq, Option.some.injEq, reduceCtorEq, not_false_eq_true]
  split <;> simp

theorem State.event_addBayEvent? (s : State) {b : BayNo} {e : Option BayEvent} (h : e ≠ some .testDone) :
    s.Event D (s.addBayEvent? b e) := by
  cases e with
  | none => exact .refl s
  | some e => exact s.event_addBayEvent (.inl fun here => h (here ▸ rfl))

theorem State.event_enter (s : State) (b : BayNo) (st : BayState) : s.Event D (s.enter b st) :=
  (State.event_addBayEvent? _ (entryEvent_ne_testDone _ _)).after rfl rfl

theorem State.event_enterAfter (s : State) {e : BayEvent} {b : BayNo} (st : BayState)
    (h : e ≠ .testDone ∨ D (.bay b)) : s.Event D (s.enterAfter e b st) :=
  ((State.event_addBayEvent _ h).trans (State.event_addBayEvent? _ (entryEvent_ne_testDone _ _))).after rfl rfl

theorem State.event_spinDownWith (s : State) (b : BayNo) (i : Intent) : s.Event D (s.spinDownWith b i) :=
  (State.event_enter _ _ _).after rfl rfl

theorem State.event_holdWith (s : State) (b : BayNo) (on : Bool) : s.Event D (s.holdWith b on) :=
  (State.event_enter _ _ _).after rfl rfl

theorem State.event_reportBay (s : State) (c : BayFault) (b : BayNo) : s.Event D (s.reportBay c b) := by
  unfold State.reportBay
  split
  · exact (State.event_addNotice _ (Notice.addition_fault _ _)).after rfl rfl
  · exact (.of_eq rfl rfl)

theorem State.event_reportCase (s : State) (c : CaseFault) : s.Event D (s.reportCase c) := by
  unfold State.reportCase
  split
  · exact (.of_eq rfl rfl)
  · exact (State.event_addNotice _ (Notice.addition_fault _ _)).after rfl rfl

/-! ### Holders -/

theorem State.event_inTurn {holders : List (State → State)} (h : ∀ f ∈ holders, ∀ s : State, s.Event D (f s)) (s : State) :
    s.Event D (s.inTurn holders) :=
  State.inTurn_induct (P := fun t => s.Event D t) (fun f mem t ht => ht.trans (h f mem t)) (.refl s)

/-- The notices of an unordered event are those of some order of its holders, so they grow as those of each order. -/
theorem State.event_inFreeOrder {holders : List (State → State)} (h : ∀ f ∈ holders, ∀ s : State, s.Event D (f s))
    (s : State) : s.Event D (s.inFreeOrder holders) := by
  obtain ⟨order, perm, notices⟩ := s.inFreeOrder_notices holders
  refine ⟨(State.event_inTurn h s).pending, ?_, ?_⟩
  · have link := (State.event_inTurn h s).link
    simp only [State.inFreeOrder]
    rw [link]
  · rw [notices]
    exact (State.event_inTurn (fun f mem => h f (perm.subset mem)) s).notices

theorem State.event_forBays {f : BayNo → State → State} (h : ∀ (b : BayNo) (s : State), s.Event D (f b s)) (s : State) :
    s.Event D (s.forBays f) := by
  rw [State.forBays_eq_inTurn]
  refine State.event_inTurn (fun g mem => ?_) s
  obtain ⟨b, -, rfl⟩ := List.mem_map.mp mem
  exact h b

/-! ### The Admission Arbiter -/

theorem State.event_grant (s : State) (e : SpinEntry) : s.Event D (s.grant e) := by
  unfold State.grant
  split
  · exact (State.event_enter _ _ _).after rfl rfl
  · exact (State.event_enter _ _ _).after rfl rfl

theorem State.event_carryOut (s : State) (p : PassResult) : s.Event D (s.carryOut p) := by
  unfold State.carryOut
  split
  · exact (State.event_grant _ _).after rfl rfl
  · exact State.event_grant _ _

theorem State.event_evaluate (s : State) : s.Event D s.evaluate :=
  State.evaluate_induct (P := fun t => s.Event D t) (fun t p _ h => h.trans (t.event_carryOut p)) s (.refl s)

theorem State.event_joinQueue (s : State) (b : BayNo) (k : EntryKind) : s.Event D (s.joinQueue b k) :=
  (State.event_enter _ _ _).after rfl rfl

theorem State.event_abortSpinUp (s : State) (b : BayNo) (i : Intent) : s.Event D (s.abortSpinUp b i) :=
  ((State.event_spinDownWith _ b i).trans (State.event_evaluate _)).after rfl rfl

theorem State.event_loadSpun (s : State) (b : BayNo) : s.Event D (s.loadSpun b).2 := by
  unfold State.loadSpun
  split
  · exact (.of_eq rfl rfl)
  · split
    · exact .refl s
    · split
      · exact .refl s
      · exact State.event_enter s b .loading

theorem State.event_tryDeferredLoad (s : State) (b : BayNo) : s.Event D (s.tryDeferredLoad b) := by
  unfold State.tryDeferredLoad
  split
  · split
    · exact (State.event_addBayEvent _ (.inl (by decide))).after rfl rfl
    · split
      · exact State.event_enter _ _ _
      · exact .refl s
  · exact .refl s

theorem State.event_tryDeferredLoads (s : State) : s.Event D s.tryDeferredLoads := by
  refine State.event_inFreeOrder (fun f mem => ?_) s
  obtain ⟨b, -, rfl⟩ := List.mem_map.mp mem
  exact fun s => s.event_tryDeferredLoad b

/-! ### Jolt records and the Unload Scheduler -/

theorem State.event_closeJolt (s : State) : s.Event D s.closeJolt := by
  unfold State.closeJolt
  split
  · split
    · exact (State.event_addCaseEvent _ _).after rfl rfl
    · exact .refl s
  · exact .refl s

theorem State.event_markJolt (s : State) (k : JoltMark) (b : BayNo) : s.Event D (s.markJolt k b) := by
  unfold State.markJolt
  split
  · split
    · exact (State.event_closeJolt _).after rfl rfl
    · exact .refl s
  · exact .refl s

theorem State.event_leaveUnloading (s : State) (b : BayNo) : s.Event D (s.leaveUnloading b) := by
  unfold State.leaveUnloading
  split
  · exact State.event_enterAfter _ _ (.inl (by decide))
  · exact (State.event_enterAfter _ _ (.inl (by decide))).after rfl rfl
  · exact (State.event_enterAfter _ _ (.inl (by decide))).after rfl rfl

theorem State.event_parkCore (s : State) (b : BayNo) : s.Event D (s.parkCore b) :=
  ((State.event_leaveUnloading _ b).trans (State.event_markJolt _ .parked b)).after rfl rfl

theorem State.event_startUnload (s : State) (b : BayNo) : s.Event D (s.startUnload b) := by
  have entered : s.Event D ((s.modScheduler (fun q => { q with unloading := q.unloading + 1 })).enter b .unloading) :=
    (State.event_enter _ _ _).after rfl rfl
  unfold State.startUnload
  simp only
  split
  · exact entered.trans (State.event_parkCore _ b)
  · exact entered

theorem State.event_startPass (s : State) : s.Event D s.startPass :=
  State.startPass_induct (P := fun t => s.Event D t)
    (fun t b q _ h => h.trans ((State.event_startUnload { t with scheduler := q } b).after rfl rfl)) s (.refl s)

theorem State.event_parkBay (s : State) (b : BayNo) : s.Event D (s.parkBay b) :=
  (s.event_parkCore b).trans (State.event_startPass _)

theorem State.event_ordinaryUnload (s : State) (b : BayNo) : s.Event D (s.ordinaryUnload b) := by
  unfold State.ordinaryUnload
  split
  · exact s.event_startUnload b
  · exact ((State.event_enter _ _ _).trans (State.event_startPass _)).after rfl rfl

theorem State.event_emergencyPlacement (s : State) (b : BayNo) : s.Event D (s.emergencyPlacement b) := by
  unfold State.emergencyPlacement
  split
  iterate 2 exact (State.event_enter _ _ _).after rfl rfl
  · split <;> exact (.of_eq rfl rfl)
  all_goals exact .refl s

theorem State.event_sweepIntent (s : State) (k : SweepKind) (b : BayNo) : s.Event D (s.sweepIntent k b) := by
  unfold State.sweepIntent
  split <;> exact (.of_eq rfl rfl)

theorem State.event_sweepBay (s : State) (k : SweepKind) (b : BayNo) : s.Event D (s.sweepBay k b) := by
  unfold State.sweepBay
  split
  iterate 3 exact (s.event_emergencyPlacement b).trans (State.event_sweepIntent _ k b)
  · exact s.event_sweepIntent k b
  · split
    · exact s.event_spinDownWith b _
    · exact .refl s
  · split
    · exact s.event_abortSpinUp b _
    · exact .refl s
  all_goals exact .refl s

theorem State.event_sweep (s : State) (k : SweepKind) : s.Event D (s.sweep k) := by
  have walk : ∀ (l : List BayNo) (t : State), t.Event D (l.foldl (fun t b => t.sweepBay k b) t) := by
    intro l
    induction l with
    | nil => exact fun t => .refl t
    | cons b l ih => exact fun t => (t.event_sweepBay k b).trans (ih _)
  have walked : s.Event D ((walkFrom s.scheduler.origin).foldl (fun t b => t.sweepBay k b)
      (s.modScheduler (fun q => { q with pointer := q.origin }))) :=
    (walk _ _).after (State.modScheduler_link _ _) (State.modScheduler_pending _ _)
  unfold State.sweep
  simp only
  exact (walked.trans (.of_eq (State.modScheduler_link _ _) (State.modScheduler_pending _ _))).trans
    (State.event_startPass _)

theorem State.event_sweep? (s : State) (k : Option SweepKind) : s.Event D (s.sweep? k) := by
  unfold State.sweep?
  split
  · exact s.event_sweep _
  · exact .refl s

/-! ### Spindles, heads and winding tests -/

theorem State.event_abortTest (s : State) {b : BayNo} (st : BayState) (h : D (.bay b)) : s.Event D (s.abortTest b st) :=
  (State.event_enterAfter _ _ (.inr h)).after rfl rfl

theorem State.event_spinUpFailure (s : State) (c : BayFault) (b : BayNo) : s.Event D (s.spinUpFailure c b) := by
  have reported : s.Event D
      (((s.releaseGrant b).modBay b (fun r => { r with attempts := min 7 (r.attempts + 1) })).reportBay c b) :=
    (State.event_reportBay _ c b).after rfl rfl
  unfold State.spinUpFailure
  simp only
  refine State.Event.trans ?_ (State.event_evaluate _)
  split
  · exact reported.trans (State.event_enter _ _ _)
  · split
    · exact reported.trans (State.event_holdWith _ _ _)
    · exact reported.trans (State.event_spinDownWith _ _ _)

theorem State.event_reachStopped (s : State) (b : BayNo) : s.Event D (s.reachStopped b) := by
  have stopped : s.Event D ((s.modBay b (fun r => { r with speed := some 0 })).enter b .stopped) :=
    (State.event_enter _ _ _).after rfl rfl
  unfold State.reachStopped
  simp only
  split
  · exact (stopped.trans (State.event_joinQueue _ b _)).trans (State.event_evaluate _)
  · exact stopped

theorem State.event_speedLoss (s : State) (b : BayNo) : s.Event D (s.speedLoss b) := by
  have reported : s.Event D ((s.modBay b BayRec.disarm).reportBay .speedLoss b) := (State.event_reportBay _ _ _).after rfl rfl
  have placed : ∀ f, s.Event D ((((s.modBay b BayRec.disarm).reportBay .speedLoss b).modBay b f).emergencyPlacement b) :=
    fun f => reported.trans ((State.event_emergencyPlacement _ b).after rfl rfl)
  unfold State.speedLoss
  simp only
  split
  · split
    · exact reported.trans (State.event_holdWith _ _ _)
    · exact reported.trans (State.event_spinDownWith _ _ _)
  iterate 3
    exact (placed _).trans (State.event_startPass _)
  · exact reported.trans (.of_eq rfl rfl)
  all_goals exact reported

theorem State.event_reachSpeed (s : State) (b : BayNo) : s.Event D (s.reachSpeed b) :=
  (((State.event_enter _ _ _).trans (State.event_tryDeferredLoad _ b)).trans (State.event_evaluate _)).after rfl rfl

theorem State.event_countAtSpeed (s : State) (b : BayNo) (v : Nat) : s.Event D (s.countAtSpeed b v) := by
  unfold State.countAtSpeed
  split
  · simp only
    split
    · exact (State.event_reachSpeed _ b).after rfl rfl
    · exact (.of_eq rfl rfl)
  · exact (.of_eq rfl rfl)

theorem State.event_countSpeedLoss (s : State) (b : BayNo) (v : Nat) : s.Event D (s.countSpeedLoss b v) := by
  unfold State.countSpeedLoss
  split
  · exact (.of_eq rfl rfl)
  · simp only
    split
    · exact (State.event_speedLoss _ b).after rfl rfl
    · exact (.of_eq rfl rfl)

theorem State.event_onMeasurement (s : State) (m : Option Nat) {f : Nat → State → State}
    (h : ∀ v, s.Event D (f v s)) : s.Event D (s.onMeasurement m f) := by
  cases m with
  | none => exact .refl s
  | some v => exact h v

/-- A pulse raises TEST_DONE only for a bay in DIAG. -/
theorem State.event_pulse (s : State) {b : BayNo} (h : (s.bay b).state = .diag → D (.bay b)) : s.Event D (s.pulse b) := by
  unfold State.pulse
  split
  · exact (State.event_onMeasurement _ _ fun v => State.event_countAtSpeed _ b v).after rfl rfl
  · rename_i diag
    exact ((State.event_abortTest _ _ (h diag)).trans (State.event_evaluate _)).after rfl rfl
  · exact (.of_eq rfl rfl)
  iterate 5
    split
    · exact (State.event_onMeasurement _ _ fun v => State.event_countSpeedLoss _ b v).after rfl rfl
    · exact (.of_eq rfl rfl)
  iterate 4 exact (.of_eq rfl rfl)
  · exact .refl s

theorem State.event_clearPrk (s : State) (b : BayNo) : s.Event D (s.clearPrk b) := by
  unfold State.clearPrk
  simp only
  split <;> exact (.of_eq rfl rfl)

theorem State.event_assertPrk (s : State) (b : BayNo) : s.Event D (s.assertPrk b) := by
  unfold State.assertPrk
  simp only
  split
  · exact (State.event_parkBay _ b).after rfl rfl
  all_goals exact (.of_eq rfl rfl)

theorem State.event_loadLate (s : State) (b : BayNo) : s.Event D (s.loadLate b) :=
  (s.event_reportBay .loadLate b).trans ((State.event_ordinaryUnload _ b).after rfl rfl)

theorem State.event_unloadLate (s : State) (b : BayNo) : s.Event D (s.unloadLate b) := by
  have reported : s.Event D (((s.lowerUnloading).markJolt .late b).reportBay .unloadLate b) :=
    ((State.event_markJolt _ _ b).trans (State.event_reportBay _ _ b)).after rfl rfl
  unfold State.unloadLate
  simp only
  refine State.Event.trans ?_ (State.event_startPass _)
  split
  · exact reported.trans (State.event_holdWith _ _ _)
  · exact reported.trans (State.event_enter _ _ _)

theorem State.event_endPulse (s : State) {b : BayNo} (conversion : Nat) (h : D (.bay b)) :
    s.Event D (s.endPulse b conversion) := by
  have read : ∀ f, s.Event D ((s.releaseGrant b).modBay b f) :=
    fun f => (s.event_releaseGrant b).trans (State.event_modBay _ b f)
  unfold State.endPulse
  simp only
  refine State.Event.trans ?_ (State.event_evaluate _)
  split
  · exact (read _).trans (State.event_enterAfter _ _ (.inr h))
  · split
    · exact ((read _).trans ((State.event_reportBay _ .winding b).trans (State.event_modBay _ _ _))).trans
        (State.event_enterAfter _ _ (.inr h))
    · exact (read _).trans ((State.event_reportBay _ .winding b).trans (State.event_enterAfter _ _ (.inr h)))

/-! ### Presence -/

theorem State.event_vacate (s : State) {b : BayNo} (h : D (.bay b)) : s.Event D (s.vacate b) := by
  unfold State.vacate
  simp only
  split
  · exact (State.event_enterAfter _ _ (.inr h)).after rfl rfl
  · exact (State.event_enter _ _ _).after rfl rfl

theorem State.event_leaveBay (s : State) (st : BayState) {b : BayNo} (h : D (.bay b)) : s.Event D (s.leaveBay st b) := by
  unfold State.leaveBay
  split
  · exact (s.event_vacate h).trans (State.event_reportBay _ _ _)
  · exact s.event_vacate h

theorem State.event_passAfterRemoval (s : State) (st : BayState) : s.Event D (s.passAfterRemoval st) := by
  unfold State.passAfterRemoval
  split
  · exact s.event_startPass
  · exact .refl s

theorem State.event_evaluateAfterRemoval (s : State) (st : BayState) : s.Event D (s.evaluateAfterRemoval st) := by
  unfold State.evaluateAfterRemoval
  split
  iterate 3 exact s.event_evaluate
  all_goals exact .refl s

@[simp] theorem State.releaseClaim_link (s : State) (b : BayNo) : (s.releaseClaim b).link = s.link := by
  unfold State.releaseClaim; split <;> rfl
@[simp] theorem State.releaseClaim_pending (s : State) (b : BayNo) : (s.releaseClaim b).pending = s.pending := by
  unfold State.releaseClaim; split <;> rfl

theorem State.event_remove (s : State) {b : BayNo} (h : D (.bay b)) : s.Event D (s.remove b) := by
  unfold State.remove
  simp only
  refine State.Event.trans (.after (State.event_inFreeOrder ?_ _) (by simp) (by simp))
    (State.event_evaluateAfterRemoval _ _)
  intro f mem t
  simp only [List.mem_cons, List.not_mem_nil, or_false] at mem
  obtain rfl | rfl | rfl := mem
  · exact t.event_leaveBay _ h
  · exact t.event_markJolt _ _
  · exact t.event_passAfterRemoval _

theorem State.event_presDeasserted (s : State) {b : BayNo} (h : D (.bay b)) : s.Event D (s.presDeasserted b) := by
  unfold State.presDeasserted
  simp only
  split
  · exact (.of_eq rfl rfl)
  · exact (State.event_remove _ h).after rfl rfl

theorem State.event_insert (s : State) (b : BayNo) : s.Event D (s.insert b) := (State.event_enter _ _ _).after rfl rfl

/-! ### The monitors of the case -/

theorem State.event_changeClass (s : State) (new : MotionClass) : s.Event D (s.changeClass new) := by
  have evaluated : s.Event D ((s.modMotion (fun m => { m with
      cls := new, dwellStart := if new = .unsettled then s.now else m.dwellStart })).addCaseEvent .motionChanged).evaluate :=
    ((State.event_addCaseEvent _ _).trans (State.event_evaluate _)).after rfl rfl
  unfold State.changeClass
  simp only
  split
  · exact evaluated.trans (State.event_tryDeferredLoads _)
  · exact evaluated

theorem State.event_settleClass (s : State) (d : Nat) : s.Event D (s.settleClass d).1 := by
  unfold State.settleClass
  simp only
  split
  · exact .refl s
  · split
    · exact (s.event_changeClass _).trans (.of_eq rfl rfl)
    · exact s.event_changeClass _

theorem State.event_openJolt (s : State) (before : MotionClass) (d : Nat) : s.Event D (s.openJolt before d) := by
  unfold State.openJolt
  simp only
  refine State.Event.trans (State.Event.trans ?_ (State.event_addCaseEvent _ _)) (State.event_closeJolt _)
  split
  · exact (.of_eq rfl rfl)
  · exact (State.event_reportCase _ _).after rfl rfl

theorem State.event_testJolt (s : State) (before : MotionClass) (d : Nat) : s.Event D (s.testJolt before d).1 := by
  unfold State.testJolt
  split
  · simp only
    split
    · exact (.of_eq rfl rfl)
    · exact (s.event_openJolt before d).trans (.of_eq rfl rfl)
  · exact .refl s

theorem State.event_restartDwell (s : State) (d : Nat) : s.Event D (s.restartDwell d) := by
  unfold State.restartDwell
  split <;> exact (.of_eq rfl rfl)

theorem State.event_validSample (s : State) (a : Accel) : s.Event D (s.validSample a) := by
  unfold State.validSample State.recover State.enterRing
  split
  · exact ((s.event_modMotion _).trans (State.event_changeClass _ _)).trans (State.event_modMotion _ _)
  · simp only
    have ringed : s.Event D ((s.enterRing a (s.motion.deviation a)).restartDwell (s.motion.deviation a)) :=
      (State.event_restartDwell _ _).after rfl rfl
    exact (((ringed.trans (State.event_settleClass _ _)).trans (State.event_testJolt _ _ _)).trans
      (State.event_sweep? _ _)).trans (State.event_sweep? _ _)

theorem State.event_loseSensor (s : State) : s.Event D s.loseSensor := by
  unfold State.loseSensor
  simp only
  refine State.Event.trans (State.Event.trans ?_ (State.event_reportCase _ _)) (State.event_sweep _ _)
  split
  · exact (.of_eq rfl rfl)
  · exact ((s.event_modMotion _).trans (State.event_changeClass _ _)).trans (State.event_modBays _ _)

theorem State.event_missingSample (s : State) : s.Event D s.missingSample := by
  unfold State.missingSample
  simp only
  split
  · exact (State.event_loseSensor _).after rfl rfl
  · exact (.of_eq rfl rfl)

theorem State.event_missingSamples (n : Nat) (s : State) : s.Event D (State.missingSamples n s) := by
  induction n generalizing s with
  | zero => exact .refl s
  | succ n ih => exact ((State.event_missingSample _).trans (ih _)).after rfl rfl

/-- The cut raises TEST_DONE only for bays in DIAG. -/
theorem State.event_cutBay (s : State) {b : BayNo} (h : (s.bay b).state = .diag → D (.bay b)) : s.Event D (s.cutBay b) := by
  unfold State.cutBay
  split
  · exact s.event_abortSpinUp b _
  · rename_i diag
    exact ((State.event_enterAfter _ _ (.inr (h diag))).trans (State.event_evaluate _)).after rfl rfl
  all_goals exact .refl s

theorem State.event_cutActions (s : State) (h : ∀ b, D (.bay b)) : s.Event D s.cutActions := by
  refine State.event_inFreeOrder (fun f mem t => ?_) s
  simp only [List.mem_append, List.mem_map, List.mem_singleton] at mem
  obtain ⟨b, -, rfl⟩ | rfl := mem
  · exact t.event_cutBay fun _ => h b
  · exact t.event_sweep _

theorem State.event_enterClass (s : State) (new : SupplyClass) (h : ∀ b, D (.bay b)) : s.Event D (s.enterClass new) := by
  cases new with
  | normal => exact .refl s
  | low => exact s.event_reportCase _
  | cut => exact (s.event_reportCase _).trans (State.event_cutActions _ h)

theorem State.event_changeSupply (s : State) (new : SupplyClass) (h : ∀ b, D (.bay b)) :
    s.Event D (s.changeSupply new) := by
  have evaluated : s.Event D (((((s.modSupply (fun m => { m with cls := new })).deriveBudget).addCaseEvent
      .supplyChanged).enterClass new).evaluate) :=
    (((State.event_addCaseEvent _ _).trans (State.event_enterClass _ _ h)).trans (State.event_evaluate _)).after rfl rfl
  unfold State.changeSupply
  simp only
  split
  · exact evaluated.trans (State.event_tryDeferredLoads _)
  · exact evaluated

theorem State.event_takeReading (s : State) (mv : Nat) (h : ∀ b, D (.bay b)) : s.Event D (s.takeReading mv) := by
  unfold State.takeReading
  simp only
  split
  · exact (State.event_changeSupply _ _ h).after rfl rfl
  · split
    · exact (.of_eq rfl rfl)
    · exact (State.event_changeSupply _ _ h).after rfl rfl

/-! ### Transit safety -/

theorem State.event_transitBay (s : State) {b : BayNo} (h : D (.bay b)) : s.Event D (s.transitBay b) := by
  have stopped : s.Event D ((s.dropEntry b).enter b .stopped) := (State.event_enter _ _ _).after rfl rfl
  unfold State.transitBay
  simp only
  split
  · exact (stopped.trans (State.event_evaluate _)).trans (.of_eq rfl rfl)
  · exact (s.event_abortSpinUp b _).trans (.of_eq rfl rfl)
  · exact ((s.event_abortTest _ h).trans (State.event_evaluate _)).trans (.of_eq rfl rfl)
  · exact (s.event_spinDownWith b .stopAfter).trans (.of_eq rfl rfl)
  all_goals exact (.of_eq rfl rfl)

theorem State.event_enterSafe (s : State) (h : ∀ b, D (.bay b)) : s.Event D s.enterSafe := by
  unfold State.enterSafe
  split
  · exact .refl s
  · refine (State.event_inFreeOrder (fun f mem t => ?_) _).after rfl rfl
    simp only [List.mem_append, List.mem_cons, List.mem_map, List.not_mem_nil, or_false] at mem
    obtain (rfl | ⟨b, -, rfl⟩) | rfl := mem
    · exact t.event_addCaseEvent _
    · exact t.event_transitBay (h b)
    · exact t.event_sweep _

theorem State.event_startTransit (s : State) (h : ∀ b, D (.bay b)) : s.Event D s.startTransit := by
  unfold State.startTransit
  split
  · exact s.event_enterSafe h
  · exact (.of_eq rfl rfl)

theorem State.event_leaveSafe (s : State) : s.Event D s.leaveSafe := by
  unfold State.leaveSafe
  split
  · exact .refl s
  · exact (State.event_addCaseEvent _ _).after rfl rfl

end

end Sys2Proof.Machine
end

section
/-! PROOFS. What every command leaves of the commands that wait and of the single entry of each source (R182), and the
statement O3. -/

namespace Sys2Proof.Machine

/-! ### One entry for each source -/

/-- The seventeen sources of notices (R182). -/
def allSources : List Source := .theCase :: allBays.map .bay

theorem mem_allSources (src : Source) : src ∈ allSources := by
  cases src with
  | theCase => exact List.mem_cons_self
  | bay b => exact List.mem_cons_of_mem _ (List.mem_map_of_mem (mem_allBays b))

/-- One entry for each source makes at most seventeen entries. -/
theorem State.noticesSingle_of_nodup {s : State} (h : (s.link.notices.map Notice.source).Nodup) : s.noticesSingle := by
  refine ⟨h, ?_⟩
  have fits := h.length_le_of_subset (l₂ := allSources) fun src _ => mem_allSources src
  simpa [allSources, allBays] using fits

/-- The commands that wait stand, and each source keeps a single entry. -/
structure State.Follows (s t : State) : Prop where
  pending : t.pending = s.pending
  single : (s.link.notices.map Notice.source).Nodup → (t.link.notices.map Notice.source).Nodup

theorem State.Follows.trans {s t u : State} (h : s.Follows t) (g : t.Follows u) : s.Follows u where
  pending := g.pending.trans h.pending
  single := g.single ∘ h.single

theorem State.Follows.of_eq {s t : State} (notices : t.link.notices = s.link.notices) (pending : t.pending = s.pending) :
    s.Follows t where
  pending := pending
  single := by rw [notices]; exact id

theorem State.Follows.refl (s : State) : s.Follows s := .of_eq rfl rfl

theorem State.Event.follows {D : Source → Prop} {s t : State} (h : s.Event D t) : s.Follows t where
  pending := h.pending
  single := h.notices.nodup

/-! ### Requests -/

theorem State.follows_answer (s : State) (k : ReqKind) (r : Req) (st : Status) (body : List Byte) :
    s.Follows (s.answer k r st body) := .of_eq rfl rfl

theorem State.follows_frameArrived (s : State) : s.Follows s.frameArrived := by
  refine .of_eq (by simp) ?_
  unfold State.frameArrived State.restartQuiet
  split <;> rfl

section

variable {handle : Req → State → State} {go : State → State} {f : BayNo → State → Status × State}

theorem State.follows_checked (s : State) (k : ReqKind) (r : Req) (h : ∀ s : State, s.Follows (go s)) :
    s.Follows (s.checked k r go) := by
  unfold State.checked
  split
  · exact s.follows_answer _ _ _ _
  · exact h s

theorem State.follows_withEmptyBody (s : State) (k : ReqKind) (r : Req) (h : ∀ s : State, s.Follows (go s)) :
    s.Follows (withEmptyBody k r go s) := by
  unfold withEmptyBody
  split
  · exact h s
  · exact s.follows_answer _ _ _ _

theorem State.follows_handleBays (s : State) (set : BaySet) (h : ∀ b (s : State), s.Follows (f b s).2) :
    s.Follows (s.handleBays set f).2 := by
  have walk : ∀ (l : List BayNo) (acc : List (BayNo × Status) × State), acc.2.Follows
      (l.foldl (fun acc b => if inSet set b then
        let out := f b acc.2
        (acc.1 ++ [(b, out.1)], out.2) else acc) acc).2 := by
    intro l
    induction l with
    | nil => exact fun acc => .refl _
    | cons b l ih =>
      intro acc
      refine State.Follows.trans ?_ (ih _)
      simp only
      split
      · exact h b acc.2
      · exact .refl _
  exact walk allBays ([], s)

theorem State.follows_answerBays (s : State) (k : ReqKind) (r : Req) (set : BaySet)
    (h : ∀ b (s : State), s.Follows (f b s).2) : s.Follows (s.answerBays k r set f) :=
  (s.follows_handleBays set h).trans (State.follows_answer _ _ _ _ _)

theorem State.follows_checkedBays (s : State) (k : ReqKind) (r : Req) (set : BaySet)
    (h : ∀ b (s : State), s.Follows (f b s).2) : s.Follows (s.checkedBays k r set f) := by
  unfold State.checkedBays
  split
  · exact s.follows_answer _ _ _ _
  · refine s.follows_checked k r fun s => s.follows_answerBays k r set fun b s => ?_
    unfold checkedBay
    split
    · exact .refl s
    · exact h b s

theorem State.follows_safeBay (b : BayNo) (s : State) (h : s.Follows (f b s).2) : s.Follows (safeBay f b s).2 := by
  unfold safeBay
  split
  · exact .refl s
  · exact h

theorem State.follows_takeRequest (s : State) (k : ReqKind) (r : Req) (h : ∀ s : State, s.Follows (handle r s)) :
    s.Follows (takeRequest k handle r s) := by
  unfold takeRequest
  simp only
  refine s.follows_frameArrived.trans ?_
  split
  · exact .refl _
  · split
    · exact State.follows_answer _ _ _ _ _
    · split
      · exact State.follows_answer _ _ _ _ _
      · exact h _

end

theorem State.event_askLoad {D : Source → Prop} (s : State) (b : BayNo) (v : Bool) : s.Event D (s.askLoad b v) := by
  unfold State.askLoad
  split <;> exact .of_eq rfl rfl

theorem State.event_spinUpBay {D : Source → Prop} (v : Bool) (b : BayNo) (s : State) :
    s.Event D (s.spinUpBay v b).2 := by
  unfold State.spinUpBay
  split
  · exact ((s.event_askLoad b v).trans (State.event_joinQueue _ b _)).trans (State.event_evaluate _)
  · split
    · exact s.event_askLoad b v
    · exact .refl s
  · exact s.event_askLoad b v
  · split
    · exact s.event_loadSpun b
    · exact .refl s
  all_goals exact .refl s

theorem State.event_setLoadOnArrival {D : Source → Prop} (s : State) (b : BayNo) (v : Bool) :
    s.Event D (s.setLoadOnArrival b v) := s.event_modBay b _

theorem State.event_setIntent {D : Source → Prop} (s : State) (b : BayNo) (i : Intent) :
    s.Event D (s.setIntent b i) := s.event_modBay b _

theorem State.event_dropStopped {D : Source → Prop} (s : State) (b : BayNo) :
    s.Event D (((s.dropEntry b).enter b .stopped)) := (State.event_enter _ _ _).after rfl rfl

theorem State.event_spinDownBay {D : Source → Prop} (b : BayNo) (s : State) : s.Event D (s.spinDownBay b).2 := by
  unfold State.spinDownBay
  simp only
  split <;> dsimp only
  · exact ((s.event_dropStopped b).trans (State.event_setLoadOnArrival _ b _)).trans (State.event_evaluate _)
  · exact (s.event_abortSpinUp b _).trans (State.event_setLoadOnArrival _ b _)
  · exact (s.event_spinDownWith b _).trans (State.event_setLoadOnArrival _ b _)
  iterate 2
    exact ((s.event_setIntent b _).trans (State.event_ordinaryUnload _ b)).trans (State.event_setLoadOnArrival _ b _)
  iterate 2 exact (s.event_modBay b _).trans (State.event_setLoadOnArrival _ b _)
  · exact s.event_setLoadOnArrival b _
  · exact (s.event_modBay b _).trans (State.event_setLoadOnArrival _ b _)
  all_goals exact .refl s

theorem State.event_loadBay {D : Source → Prop} (b : BayNo) (s : State) : s.Event D (s.loadBay b).2 := by
  unfold State.loadBay
  split
  · exact s.event_loadSpun b
  · split
    · exact s.event_setLoadOnArrival b _
    · exact .refl s
  · exact s.event_setLoadOnArrival b _
  all_goals exact .refl s

theorem State.event_unloadBay {D : Source → Prop} (v : Bool) (b : BayNo) (s : State) :
    s.Event D (s.unloadBay v b).2 := by
  unfold State.unloadBay
  split <;> try dsimp only
  iterate 2
    exact ((s.event_setLoadOnArrival b _).trans (State.event_setIntent _ b _)).trans (State.event_ordinaryUnload _ b)
  iterate 2 exact (s.event_setLoadOnArrival b _).trans (State.event_modBay _ b _)
  · split
    · exact (s.event_setLoadOnArrival b _).trans (State.event_spinDownWith _ b _)
    · exact s.event_setLoadOnArrival b _
  all_goals exact .refl s

theorem State.event_testBay {D : Source → Prop} (b : BayNo) (s : State) : s.Event D (s.testBay b).2 := by
  unfold State.testBay
  split
  · exact (s.event_joinQueue b _).trans (State.event_evaluate _)
  · exact .refl s

theorem State.event_emptyPending {D : Source → Prop} (s : State) (b : BayNo) : s.Event D (s.emptyPending b) :=
  .of_eq rfl rfl

theorem State.event_releaseBay {D : Source → Prop} (b : BayNo) (s : State) : s.Event D (s.releaseBay b).2 := by
  unfold State.releaseBay
  simp only
  split
  · split <;> dsimp only
    · exact (s.event_emptyPending b).trans (State.event_enter _ b _)
    · exact (s.event_emptyPending b).trans (State.event_spinDownWith _ b _)
  · exact .refl s

theorem State.event_clearBay {D : Source → Prop} (b : BayNo) (s : State) : s.Event D (s.clearBay b).2 := by
  unfold State.clearBay
  dsimp only
  exact s.event_modBay b _

theorem State.event_reinitBay {D : Source → Prop} (b : BayNo) (s : State) : s.Event D (s.reinitBay b) := by
  have cleared : s.Event D (s.modBay b BayRec.reinit).recomputeAttn := .of_eq rfl rfl
  unfold State.reinitBay
  simp only
  split
  · exact cleared.trans (State.event_enter _ b _)
  · exact cleared

/-- RESTART at one bay touches neither the link nor the commands that wait. -/
theorem State.event_restartBay {D : Source → Prop} (b : BayNo) (s : State) : s.Event D (s.restartBay b) := by
  unfold State.restartBay
  simp only
  split <;> exact .of_eq rfl rfl

@[simp] theorem State.restartBlocks_pending (s : State) :
    s.restartBlocks.pending = (s.forBays State.restartBay).pending := by
  simp only [State.restartBlocks]
@[simp] theorem State.restartBlocks_notices (s : State) : s.restartBlocks.link.notices = [] := by
  simp only [State.restartBlocks]

/-- RESTART empties the notice queue before the transit unit and STARTED add to it (R174). -/
theorem State.follows_takeRestart (r : Req) (s : State) : s.Follows (s.takeRestart r) := by
  have blocks : s.Follows (s.answer .restart r .done []).restartBlocks := by
    refine ⟨?_, fun _ => by simp⟩
    rw [State.restartBlocks_pending, (State.event_forBays (D := fun _ => True) State.event_restartBay _).pending]
    simp
  exact (blocks.trans (State.event_startTransit (D := fun _ => True) _ fun _ => trivial).follows).trans
    (State.event_addCaseEvent (D := fun _ => True) _ _).follows

theorem State.event_settingTakesEffect {D : Source → Prop} (n : Nat) (s : State) : s.Event D (s.settingTakesEffect n) := by
  unfold State.settingTakesEffect
  split
  iterate 2 exact s.deriveBudget.event_evaluate.after rfl rfl
  iterate 6 exact s.event_evaluate
  · exact s.event_startPass
  · unfold State.quietCodeChanged
    split <;> exact .of_eq rfl rfl
  · exact .refl s

theorem State.event_recallImage {D : Source → Prop} (s : State) : s.Event D s.recallImage := by
  have recalled : s.Event D ((s.modWorking (fun _ => s.store.image.values)).deriveBudget).evaluate.startPass :=
    ((State.event_evaluate _).trans (State.event_startPass _)).after rfl rfl
  unfold State.recallImage
  simp only
  split
  · exact recalled
  · refine recalled.trans ?_
    unfold State.quietCodeChanged
    split <;> exact .of_eq rfl rfl

/-- What a handler leaves before its answer, it leaves with it. -/
theorem State.Follows.answer {s t : State} (h : s.Follows t) (k : ReqKind) (r : Req) (st : Status) (body : List Byte) :
    s.Follows (t.answer k r st body) := h.trans (t.follows_answer k r st body)

/-- A request that only reads. -/
theorem State.follows_checked_answer (s : State) (k j : ReqKind) (r : Req) (st : Status) (read : State → List Byte) :
    s.Follows (s.checked k r (fun s => s.answer j r st (read s))) :=
  s.follows_checked k r fun s => s.follows_answer j r st (read s)

theorem State.follows_setSettingTo (r : Req) (n : Byte) (v : Nat) (s : State) : s.Follows (s.setSettingTo r n v) := by
  unfold State.setSettingTo
  split
  · rename_i c _
    have written : s.Follows (s.modWorking (fun w => { w with case := c })) := .of_eq rfl rfl
    exact (written.trans (State.event_settingTakesEffect (D := fun _ => True) _ _).follows).answer _ _ _ _
  · exact s.follows_answer _ _ _ _

theorem State.follows_modWorking (s : State) (f : WorkingSettings → WorkingSettings) : s.Follows (s.modWorking f) :=
  .of_eq rfl rfl

theorem State.follows_setProfileTo (r : Req) (n : Fin 8) (p : Profile) (s : State) :
    s.Follows (s.setProfileTo r n p) := by
  unfold State.setProfileTo
  split
  · exact (s.follows_modWorking _).answer _ _ _ _
  · exact s.follows_answer _ _ _ _

theorem State.follows_setSelection (r : Req) (b : BayNo) (p : Byte) (s : State) : s.Follows (s.setSelection r b p) := by
  unfold State.setSelection
  split
  · exact (s.follows_modWorking _).answer _ _ _ _
  · exact s.follows_answer _ _ _ _

theorem State.follows_takeContextOf (r : Req) (b : BayNo) (s : State) : s.Follows (s.takeContextOf r b) := by
  unfold State.takeContextOf
  split
  · exact (State.event_reinitBay (D := fun _ => True) b s).follows.answer _ _ _ _
  · exact s.follows_answer _ _ _ _

theorem State.follows_clearBays (r : Req) (set : BaySet) (s : State) : s.Follows (s.clearBays r set) := by
  have cleared := s.follows_handleBays set fun b s => (State.event_clearBay (D := fun _ => True) b s).follows
  unfold State.clearBays
  simp only
  refine State.Follows.answer (cleared.trans ?_) _ _ _ _
  exact .of_eq rfl rfl

theorem follows_handleSpinUp (r : Req) (s : State) : s.Follows (handleSpinUp r s) := by
  unfold handleSpinUp
  split
  · split
    · exact s.follows_checkedBays _ _ _ fun b s =>
        State.follows_safeBay b s (State.event_spinUpBay (D := fun _ => True) _ b s).follows
    · exact s.follows_answer _ _ _ _
  · exact s.follows_answer _ _ _ _

theorem follows_handleUnload (r : Req) (s : State) : s.Follows (handleUnload r s) := by
  unfold handleUnload
  split
  · split
    · exact s.follows_checkedBays _ _ _ fun b s => (State.event_unloadBay (D := fun _ => True) _ b s).follows
    · exact s.follows_answer _ _ _ _
  · exact s.follows_answer _ _ _ _

theorem follows_handleClearFaults (r : Req) (s : State) : s.Follows (handleClearFaults r s) := by
  unfold handleClearFaults
  split
  · split
    · refine State.Follows.answer ?_ _ _ _ _
      exact .of_eq rfl rfl
    · split
      · exact s.follows_answer _ _ _ _
      · exact s.follows_clearBays r _
    · exact s.follows_answer _ _ _ _
  · exact s.follows_answer _ _ _ _

theorem follows_handleSetProfile (r : Req) (s : State) : s.Follows (handleSetProfile r s) := by
  unfold handleSetProfile
  split
  · split
    · split
      · exact s.follows_checked _ r fun s => s.follows_setProfileTo r _ _
      · exact s.follows_answer _ _ _ _
    · exact s.follows_answer _ _ _ _
  · exact s.follows_answer _ _ _ _

theorem follows_handleViewBay (r : Req) (s : State) : s.Follows (handleViewBay r s) := by
  unfold handleViewBay
  split
  · split
    · unfold State.viewNext
      split
      · refine State.Follows.answer ?_ _ _ _ _
        exact .of_eq rfl rfl
      · exact s.follows_answer _ _ _ _
    · split
      · unfold State.viewNamed
        split
        · exact s.follows_answer _ _ _ _
        · refine State.Follows.answer ?_ _ _ _ _
          exact .of_eq rfl rfl
      · exact s.follows_answer _ _ _ _
  · exact s.follows_answer _ _ _ _

theorem State.follows_commit (r : Req) (s : State) :
    s.Follows (if s.store.commit.isSome then s.answer .commit r .busy [] else s.startCommit.answer .commit r .accepted []) := by
  split
  · exact s.follows_answer _ _ _ _
  · refine State.Follows.answer ?_ _ _ _ _
    exact .of_eq rfl rfl

theorem follows_handleRecall (r : Req) (s : State) : s.Follows (handleRecall r s) := by
  refine s.follows_withEmptyBody _ r fun s => s.follows_checked _ r fun s => ?_
  split
  · exact s.follows_answer _ _ _ _
  · split
    · exact (State.event_recallImage (D := fun _ => True) s).follows.answer _ _ _ _
    · exact (State.event_reportCase (D := fun _ => True) s _).follows.answer _ _ _ _

theorem follows_handleRestart (r : Req) (s : State) : s.Follows (handleRestart r s) := by
  refine s.follows_withEmptyBody _ r fun s => s.follows_checked _ r fun s => ?_
  split
  · exact s.follows_answer _ _ _ _
  · split
    · exact s.follows_answer _ _ _ _
    · exact s.follows_takeRestart r

/-- What the handler of each kind leaves. -/
theorem follows_handler (k : ReqKind) (r : Req) (s : State) : s.Follows (handler k r s) := by
  cases k with
  | status => exact s.follows_withEmptyBody _ r fun s => s.follows_answer _ _ _ _
  | viewBay => exact follows_handleViewBay r s
  | viewPin | viewUnpin =>
    refine s.follows_withEmptyBody _ r fun s => State.Follows.answer ?_ _ _ _ _
    exact .of_eq rfl rfl
  | viewEnvironment => exact s.follows_withEmptyBody _ r fun s => (s.follows_modWorking _).answer _ _ _ _
  | readJolts =>
    simp only [handler, handleReadJolts]
    split
    · split
      · exact s.follows_answer _ _ _ _
      · exact s.follows_checked_answer _ _ r _ _
    · exact s.follows_answer _ _ _ _
  | spinUp => exact follows_handleSpinUp r s
  | spinDown =>
    simp only [handler, handleSpinDown]
    split
    · exact s.follows_checkedBays _ _ _ fun b s => (State.event_spinDownBay (D := fun _ => True) b s).follows
    · exact s.follows_answer _ _ _ _
  | load =>
    simp only [handler, handleLoad]
    split
    · exact s.follows_checkedBays _ _ _ fun b s =>
        State.follows_safeBay b s (State.event_loadBay (D := fun _ => True) b s).follows
    · exact s.follows_answer _ _ _ _
  | unload => exact follows_handleUnload r s
  | testWinding =>
    simp only [handler, handleTestWinding]
    split
    · exact s.follows_checkedBays _ _ _ fun b s =>
        State.follows_safeBay b s (State.event_testBay (D := fun _ => True) b s).follows
    · exact s.follows_answer _ _ _ _
  | release =>
    simp only [handler, handleRelease]
    split
    · split
      · exact s.follows_answer _ _ _ _
      · exact s.follows_answerBays _ _ _ fun b s => (State.event_releaseBay (D := fun _ => True) b s).follows
    · exact s.follows_answer _ _ _ _
  | clearFaults => exact follows_handleClearFaults r s
  | takeContext =>
    simp only [handler, handleTakeContext]
    split
    · split
      · exact s.follows_checked _ r fun s => s.follows_takeContextOf r _
      · exact s.follows_answer _ _ _ _
    · exact s.follows_answer _ _ _ _
  | setMasks =>
    simp only [handler, handleSetMasks]
    split
    · exact (s.follows_modWorking _).answer _ _ _ _
    · exact s.follows_answer _ _ _ _
  | forceSafe =>
    exact s.follows_withEmptyBody _ r fun s => s.follows_checked _ r fun s =>
      (s.event_enterSafe (D := fun _ => True) fun _ => trivial).follows.answer _ _ _ _
  | leaveSafe =>
    exact s.follows_withEmptyBody _ r fun s => s.follows_checked _ r fun s =>
      (s.event_leaveSafe (D := fun _ => True)).follows.answer _ _ _ _
  | setSetting =>
    simp only [handler, handleSetSetting]
    split
    · split
      · exact s.follows_answer _ _ _ _
      · exact s.follows_checked _ r fun s => s.follows_setSettingTo r _ _
    · exact s.follows_answer _ _ _ _
  | getSetting =>
    simp only [handler, handleGetSetting]
    split
    · split
      · exact s.follows_answer _ _ _ _
      · exact s.follows_checked_answer _ _ r _ _
    · exact s.follows_answer _ _ _ _
  | setProfile => exact follows_handleSetProfile r s
  | getProfile =>
    simp only [handler, handleGetProfile]
    split
    · split
      · exact s.follows_checked_answer _ _ r _ _
      · exact s.follows_answer _ _ _ _
    · exact s.follows_answer _ _ _ _
  | setBay =>
    simp only [handler, handleSetBay]
    split
    · split
      · exact s.follows_checked _ r fun s => s.follows_setSelection r _ _
      · exact s.follows_answer _ _ _ _
    · exact s.follows_answer _ _ _ _
  | commit => exact s.follows_withEmptyBody _ r fun s => s.follows_checked _ r fun s => s.follows_commit r
  | restart => exact follows_handleRestart r s
  -- RECALL, whose name is a keyword of Mathlib.
  | _ => exact follows_handleRecall r s

/-- A frame that passed its check. -/
theorem follows_takeFrame (kind : Byte) (r : Req) (s : State) : s.Follows (takeFrame kind r s) := by
  unfold takeFrame
  split
  · exact s.follows_takeRequest _ r fun s => follows_handler _ r s
  · unfold takeUnknown
    simp only
    refine s.follows_frameArrived.trans ?_
    split
    · exact .refl _
    · split <;> exact .of_eq rfl rfl

theorem State.follows_hunt (s : State) : s.Follows s.hunt := .of_eq rfl rfl

/-- A byte received. -/
theorem State.follows_receiveByte (b : Byte) (s : State) : s.Follows (s.receiveByte b) := by
  have completed : ∀ (l : List Byte) (s : State), s.Follows (s.completeFrame l) := by
    intro l s
    unfold State.completeFrame
    split
    · split
      · exact follows_takeFrame _ _ s
      · exact s.follows_hunt
    · exact s.follows_hunt
  have collected : ∀ (l : List Byte) (s : State), s.Follows (s.collectByte l b) := by
    intro l s
    unfold State.collectByte
    split
    · split
      · exact s.follows_hunt
      · exact .of_eq rfl rfl
    · simp only
      split
      · exact .of_eq rfl rfl
      · exact completed _ s
  have hunted : s.Follows (if s.gapPassed then s.hunt else s) := by
    split
    · exact s.follows_hunt
    · exact .refl s
  unfold State.receiveByte
  simp only
  refine hunted.trans ?_
  generalize (if s.gapPassed then s.hunt else s) = t
  split
  · split
    · exact .of_eq rfl rfl
    · exact .refl _
  · exact collected _ _

/-! ### Commands -/

/-- The bodies of the events that the commands are, the resets left out. -/
inductive EventBody : (State → State) → Prop
  | loadEnd : EventBody (fun s => if s.store.loading then s.endLoad else s)
  | debounce (b : BayNo) : EventBody (fun s =>
      (s.toMark readingPeriod 0).inState b .vacant (fun s => s.onDue (s.bay b).timers.debounce (State.insert b)))
  | presence (b : BayNo) : EventBody (State.presDeasserted b)
  | pulse (b : BayNo) : EventBody (State.pulse b)
  | gap (b : BayNo) : EventBody (fun s =>
      if (s.bay b).armed then s.onDue (s.bay b).timers.gap (State.speedLoss b) else s)
  | tachFirst (b : BayNo) : EventBody (fun s =>
      s.inState b .spinningUp (fun s => s.onDue (s.bay b).timers.tachFirst (State.spinUpFailure .spinStall b)))
  | hold (b : BayNo) : EventBody (fun s =>
      s.inState b .spinningUp (fun s => s.onDue (s.bay b).timers.hold (State.spinUpFailure .spinSlow b)))
  | stopGap (b : BayNo) : EventBody (fun s =>
      s.inState b .spinningDown (fun s => s.onDue (s.bay b).timers.stopGap (State.reachStopped b)))
  | stopTimeout (b : BayNo) : EventBody (fun s =>
      s.inState b .spinningDown (fun s => s.onDue (s.bay b).timers.stopTimeout (State.reachStopped b)))
  | clearPrk (b : BayNo) : EventBody (State.clearPrk b)
  | settle (b : BayNo) : EventBody (fun s =>
      s.inState b .loading (fun s => s.onDue (s.bay b).timers.settle (fun s => s.enter b .loaded)))
  | load (b : BayNo) : EventBody (fun s =>
      s.inState b .loading (fun s => s.onDue (s.bay b).timers.load (State.loadLate b)))
  | assertPrk (b : BayNo) : EventBody (State.assertPrk b)
  | unloadDeadline (b : BayNo) : EventBody (fun s =>
      s.inState b .unloading (fun s => s.onDue (s.bay b).timers.unloadDeadline (State.unloadLate b)))
  | offset (b : BayNo) (reading : Nat) : EventBody (fun s =>
      s.inState b .diag (fun s =>
        if s.arbiter.converter.holder = some b then
          s.onDue s.arbiter.converter.offsetDue (State.startPulse b reading)
        else s))
  | testPulse (b : BayNo) (conversion : Nat) : EventBody (fun s =>
      s.inState b .diag (fun s => s.onDue (s.bay b).timers.testPulse (State.endPulse b conversion)))
  | sample (a : Accel) : EventBody (fun s => s.toSample.validSample a)
  | missing : EventBody (fun s => s.toSample.missingSample)
  | sensorLost : EventBody (fun s =>
      if s.motion.lost then s else State.missingSamples (max 1 (20 - s.motion.missing)) s)
  | reading (mv : Nat) : EventBody (fun s =>
      match s.supply.nextReading with
      | some t => (s.toMark readingPeriod t).takeReading mv
      | none => s)
  | quiet : EventBody (fun s => s.onDue s.transit.quietDue (fun s => (s.reportCase .quiet).enterSafe))
  | commitEnd (v : Bool) : EventBody (fun s =>
      match s.store.commit with
      | some c => s.endCommit v c
      | none => s)
  | hunt : EventBody State.hunt
  | byteGap : EventBody (fun s => s.onDue s.link.gapDue State.hunt)
  | byte (b : Byte) : EventBody (State.receiveByte b)
  | frame (kind : Byte) (r : Req) : EventBody (takeFrame kind r)
  | sent : EventBody (fun s =>
      match s.link.tx with
      | some f => (s.advanceTo f.due).frameSent f
      | none => s)
  | request (k : ReqKind) (r : Req) : EventBody (takeRequest k (handler k) r)

/-- A request as a command. -/
theorem exec_commandOf (k : ReqKind) (dt : Nat) (r : Req) (s : State) :
    exec (commandOf k dt r) s = s.takeEvent dt (takeRequest k (handler k) r) := by
  cases k <;> rfl

/-- Every command is a reset or an event that is taken whole. -/
theorem exec_cases (c : Instr) (s : State) :
    (∃ now, exec c s = .next (s.afterReset now)) ∨
      ∃ body, EventBody body ∧ exec c s = s.takeEvent (elapsedOf c) body := by
  have request (k : ReqKind) (dt : Nat) (r : Req) :
      ∃ body, EventBody body ∧ exec (commandOf k dt r) s = s.takeEvent dt body :=
    ⟨_, .request k r, exec_commandOf k dt r s⟩
  cases c with
  | powerOn | resetN dt => exact .inl ⟨_, rfl⟩
  | startUpLoadEnd dt => exact .inr ⟨_, .loadEnd, rfl⟩
  | presenceDebounceDone dt b => exact .inr ⟨_, .debounce b, rfl⟩
  | removal dt b | presenceDebounceRestart dt b => exact .inr ⟨_, .presence b, rfl⟩
  | tachPulse dt b => exact .inr ⟨_, .pulse b, rfl⟩
  | speedLossGapExpiry dt b => exact .inr ⟨_, .gap b, rfl⟩
  | tachFirstExpiry dt b => exact .inr ⟨_, .tachFirst b, rfl⟩
  | holdTimerExpiry dt b => exact .inr ⟨_, .hold b, rfl⟩
  | stopGapExpiry dt b => exact .inr ⟨_, .stopGap b, rfl⟩
  | stopTimeoutExpiry dt b => exact .inr ⟨_, .stopTimeout b, rfl⟩
  | prkDeasserted dt b => exact .inr ⟨_, .clearPrk b, rfl⟩
  | settleComplete dt b => exact .inr ⟨_, .settle b, rfl⟩
  | loadTimerExpiry dt b => exact .inr ⟨_, .load b, rfl⟩
  | park dt b => exact .inr ⟨_, .assertPrk b, rfl⟩
  | unloadDeadlineExpiry dt b => exact .inr ⟨_, .unloadDeadline b, rfl⟩
  | offsetReadingComplete dt b reading => exact .inr ⟨_, .offset b reading, rfl⟩
  | testPulseEnd dt b conversion => exact .inr ⟨_, .testPulse b conversion, rfl⟩
  | motionSample dt ready x y z =>
    right
    by_cases valid : sampleValid ready { x := x, y := y, z := z } = true
    · exact ⟨_, .sample { x := x, y := y, z := z }, by simp [exec, execMotionSample, valid, elapsedOf]⟩
    · exact ⟨_, .missing, by simp [exec, execMotionSample, valid, elapsedOf]⟩
  | sensorLost dt => exact .inr ⟨_, .sensorLost, rfl⟩
  | supplyReading dt mv => exact .inr ⟨_, .reading mv, rfl⟩
  | quietTimerExpiry dt => exact .inr ⟨_, .quiet, rfl⟩
  | commitComplete dt v => exact .inr ⟨_, .commitEnd v, rfl⟩
  | frameDiscard dt c =>
    cases c with
    | badStop b => exact .inr ⟨_, .hunt, rfl⟩
    | badLength b => exact .inr ⟨_, .byte b, rfl⟩
  | byteGapTimeout dt => exact .inr ⟨_, .byteGap, rfl⟩
  | crcMismatch dt => exact .inr ⟨_, .hunt, rfl⟩
  | unknownKind dt kind r => exact .inr ⟨_, .frame kind r, rfl⟩
  | txFrameEnd dt => exact .inr ⟨_, .sent, rfl⟩
  | rxdByte dt b => exact .inr ⟨_, .byte b, rfl⟩
  | status dt r => exact .inr (request .status dt r)
  | viewBay dt r => exact .inr (request .viewBay dt r)
  | viewPin dt r => exact .inr (request .viewPin dt r)
  | viewUnpin dt r => exact .inr (request .viewUnpin dt r)
  | viewEnvironment dt r => exact .inr (request .viewEnvironment dt r)
  | readJolts dt r => exact .inr (request .readJolts dt r)
  | spinUp dt r => exact .inr (request .spinUp dt r)
  | spinDown dt r => exact .inr (request .spinDown dt r)
  | load dt r => exact .inr (request .load dt r)
  | unload dt r => exact .inr (request .unload dt r)
  | testWinding dt r => exact .inr (request .testWinding dt r)
  | release dt r => exact .inr (request .release dt r)
  | clearFaults dt r => exact .inr (request .clearFaults dt r)
  | takeContext dt r => exact .inr (request .takeContext dt r)
  | setMasks dt r => exact .inr (request .setMasks dt r)
  | forceSafe dt r => exact .inr (request .forceSafe dt r)
  | leaveSafe dt r => exact .inr (request .leaveSafe dt r)
  | setSetting dt r => exact .inr (request .setSetting dt r)
  | getSetting dt r => exact .inr (request .getSetting dt r)
  | setProfile dt r => exact .inr (request .setProfile dt r)
  | getProfile dt r => exact .inr (request .getProfile dt r)
  | setBay dt r => exact .inr (request .setBay dt r)
  | commit dt r => exact .inr (request .commit dt r)
  | restart dt r => exact .inr (request .restart dt r)
  -- RECALL, whose name is a keyword of Mathlib.
  | _ dt r => exact .inr (request .recall dt r)

/-- An idle line takes the oldest entry at most. -/
theorem State.follows_lineUp (s : State) : s.Follows s.lineUp where
  pending := s.lineUp_pending
  single h := by
    rcases s.lineUp_notices with same | taken
    · rwa [same]
    · rw [taken, List.map_tail]; exact h.tail

/-- The event of a timer's end. -/
theorem State.follows_onDue (s : State) (due : Option Nat) {f : State → State} (h : ∀ s : State, s.Follows (f s)) :
    s.Follows (s.onDue due f) := by
  cases due with
  | none => exact .refl s
  | some t =>
    have advanced : s.Follows (s.advanceTo t) := .of_eq rfl rfl
    exact advanced.trans (h (s.advanceTo t))

/-- The event of a timer's end in one state of the bay. -/
theorem State.follows_inState_onDue (s : State) (b : BayNo) (st : BayState) {due : State → Option Nat}
    {f : State → State} (h : ∀ s : State, s.Follows (f s)) :
    s.Follows (s.inState b st (fun s => s.onDue (due s) f)) := by
  unfold State.inState
  split
  · exact s.follows_onDue _ h
  · exact .refl s

theorem State.follows_endLoad (s : State) : s.Follows s.endLoad := by
  have loaded : s.Follows (s.modStore (fun t => { t with loading := false })) := .of_eq rfl rfl
  have installed : ∀ s : State, s.Follows s.installImage := by
    intro s
    unfold State.installImage
    split
    · exact .of_eq rfl rfl
    · exact (State.event_reportCase (D := fun _ => True) s _).follows
  have readings : ∀ s : State, s.Follows s.startReadings := fun s => .of_eq rfl rfl
  exact (((loaded.trans (installed _)).trans (readings _)).trans
    (State.event_startTransit (D := fun _ => True) _ fun _ => trivial).follows).trans
    (State.event_addCaseEvent (D := fun _ => True) _ _).follows

theorem State.follows_endCommit (v : Bool) (c : WorkingSettings) (s : State) : s.Follows (s.endCommit v c) := by
  have ended : ∀ f, s.Follows (s.modStore f) := fun f => .of_eq rfl rfl
  unfold State.endCommit
  simp only
  split
  · exact (ended _).trans (State.event_addCaseEvent (D := fun _ => True) _ _).follows
  · exact (ended _).trans ((State.event_addCaseEvent (D := fun _ => True) _ _).trans (State.event_reportCase _ _)).follows

/-- What the body of an event leaves. -/
theorem EventBody.follows {body : State → State} (h : EventBody body) (s : State) : s.Follows (body s) := by
  cases h with
  | loadEnd =>
    dsimp only
    split
    · exact s.follows_endLoad
    · exact .refl s
  | debounce b =>
    have marked : s.Follows (s.toMark readingPeriod 0) := .of_eq rfl rfl
    exact marked.trans (State.follows_inState_onDue _ b _ fun s => (s.event_insert (D := fun _ => True) b).follows)
  | presence b => exact (s.event_presDeasserted (D := fun _ => True) trivial).follows
  | pulse b => exact (s.event_pulse (D := fun _ => True) fun _ => trivial).follows
  | gap b =>
    dsimp only
    split
    · exact s.follows_onDue _ fun s => (s.event_speedLoss (D := fun _ => True) b).follows
    · exact .refl s
  | tachFirst b | hold b =>
    exact s.follows_inState_onDue b _ fun s => (s.event_spinUpFailure (D := fun _ => True) _ b).follows
  | stopGap b | stopTimeout b =>
    exact s.follows_inState_onDue b _ fun s => (s.event_reachStopped (D := fun _ => True) b).follows
  | clearPrk b => exact (s.event_clearPrk (D := fun _ => True) b).follows
  | settle b => exact s.follows_inState_onDue b _ fun s => (s.event_enter (D := fun _ => True) b _).follows
  | load b => exact s.follows_inState_onDue b _ fun s => (s.event_loadLate (D := fun _ => True) b).follows
  | assertPrk b => exact (s.event_assertPrk (D := fun _ => True) b).follows
  | unloadDeadline b => exact s.follows_inState_onDue b _ fun s => (s.event_unloadLate (D := fun _ => True) b).follows
  | offset b reading =>
    dsimp only [State.inState]
    split
    · split
      · exact s.follows_onDue _ fun s => .of_eq rfl rfl
      · exact .refl s
    · exact .refl s
  | testPulse b conversion =>
    exact s.follows_inState_onDue b _ fun s => (s.event_endPulse (D := fun _ => True) conversion trivial).follows
  | sample a =>
    have marked : s.Follows s.toSample := .of_eq rfl rfl
    exact marked.trans (State.event_validSample (D := fun _ => True) _ a).follows
  | missing =>
    have marked : s.Follows s.toSample := .of_eq rfl rfl
    exact marked.trans (State.event_missingSample (D := fun _ => True) _).follows
  | sensorLost =>
    dsimp only
    split
    · exact .refl s
    · exact (State.event_missingSamples (D := fun _ => True) _ s).follows
  | reading mv =>
    dsimp only
    split
    · rename_i t _
      have marked : s.Follows (s.toMark readingPeriod t) := .of_eq rfl rfl
      exact marked.trans (State.event_takeReading (D := fun _ => True) _ mv fun _ => trivial).follows
    · exact .refl s
  | quiet =>
    exact s.follows_onDue _ fun s => ((s.event_reportCase (D := fun _ => True) _).trans
      (State.event_enterSafe _ fun _ => trivial)).follows
  | commitEnd v =>
    dsimp only
    split
    · exact State.follows_endCommit v _ s
    · exact .refl s
  | hunt => exact s.follows_hunt
  | byteGap => exact s.follows_onDue _ State.follows_hunt
  | byte b => exact s.follows_receiveByte b
  | frame kind r => exact follows_takeFrame kind r s
  | sent =>
    dsimp only
    split <;> exact .of_eq rfl rfl
  | request k r => exact s.follows_takeRequest k r fun s => follows_handler k r s

/-- What every command leaves. -/
theorem exec_follows {c : Instr} {s t : State} (step : exec c s = .next t) : s.Follows t := by
  rcases exec_cases c s with ⟨now, reset⟩ | ⟨body, event, taken⟩
  · obtain rfl : s.afterReset now = t := by simpa [reset] using step
    exact ⟨rfl, fun _ => List.nodup_nil⟩
  · obtain rfl : (body (s.elapse (elapsedOf c))).lineUp = t := by simpa [taken, State.takeEvent_eq] using step
    have elapsed : s.Follows (s.elapse (elapsedOf c)) := .of_eq rfl rfl
    exact elapsed.trans ((event.follows _).trans (State.follows_lineUp _))

/-- Settles O3: no operation touches the commands that wait. -/
theorem everyCommandCompletesAndLeavesTheQueue : Obligations.EveryCommandCompletesAndLeavesTheQueue := by
  intro c s
  obtain ⟨t, step⟩ := exec_completes c s
  exact ⟨t, step, (exec_follows step).pending⟩

/-- Every step keeps one notice for each source (R182). -/
theorem step_noticesSingle {s t : State} (h : s.noticesSingle) (step : Machine.step s = .next t) : t.noticesSingle := by
  refine step_induct (P := State.noticesSingle) (fun _ _ h => h) (fun _ h => h) (fun c s t h step => ?_) h step
  exact State.noticesSingle_of_nodup ((exec_follows step).single h.1)

end Sys2Proof.Machine
end

section
/-! PROOFS. What it takes to keep the invariants: a relation between two states that is proved of each operation, with one
rule for the records that only change beside the invariants and one for a bay that changes its state, gives up the claim
of the state it leaves and takes the claim of the state it enters (R10, R28, R32, R62, R64, R153). -/

namespace Sys2Proof.Machine

/-! ### Sums and counts over the bays -/

theorem allBays_eq_finRange : allBays = List.finRange 16 := rfl

/-- A sum over the bays of which one changes its summand. -/
theorem sum_allBays_change {f g : BayNo → Nat} {b : BayNo} (h : ∀ x, x ≠ b → g x = f x) :
    (allBays.map g).sum = (allBays.map f).sum - f b + g b := by
  obtain ⟨first, last, split⟩ := List.append_of_mem (mem_allBays b)
  have nodup := nodup_allBays
  rw [split] at nodup ⊢
  obtain ⟨-, notLast, apart⟩ := List.nodup_append.mp nodup
  have before : first.map g = first.map f :=
    List.map_congr_left fun x mem => h x (apart x mem b List.mem_cons_self)
  have after : last.map g = last.map f :=
    List.map_congr_left fun x mem => h x (ne_of_mem_of_not_mem mem (List.nodup_cons.mp notLast).1)
  simp only [List.map_append, List.map_cons, List.sum_append, List.sum_cons, before, after]
  omega

theorem countP_eq_sum {α : Type} (p : α → Bool) (l : List α) : l.countP p = (l.map fun a => (p a).toNat).sum := by
  induction l with
  | nil => rfl
  | cons a l ih =>
    rw [List.countP_cons, List.map_cons, List.sum_cons, ih]
    cases p a <;> simp [Nat.add_comm]

/-- A count over the bays of which one changes. -/
theorem countP_allBays_change {p q : BayNo → Bool} {b : BayNo} (h : ∀ x, x ≠ b → q x = p x) :
    allBays.countP q = allBays.countP p - (p b).toNat + (q b).toNat := by
  rw [countP_eq_sum, countP_eq_sum]
  exact sum_allBays_change fun x hx => by rw [h x hx]

/-! ### The relation -/

/-- Every invariant but that of a safe case goes over from `s` to `t`. -/
structure State.KeepsClaims (s t : State) : Prop where
  nested : s.faultSetsNested → t.faultSetsNested
  attn : s.attnShowsPending → t.attnShowsPending
  outputs : s.outputsFollow → t.outputsFollow
  bounds : s.settingsAndSurgeBounded → t.settingsAndSurgeBounded
  motion : s.motionBounded → t.motionBounded
  queues : s.queuesMatch → t.queuesMatch
  counts : s.queuesMatch → s.countsMatch → t.countsMatch
  converter : s.queuesMatch → s.converterHeld → t.converterHeld

/-- Every invariant goes over from `s` to `t`. -/
structure State.Keeps (s t : State) : Prop extends s.KeepsClaims t where
  quiet : s.queuesMatch → s.safeIsQuiet → t.safeIsQuiet

theorem State.KeepsClaims.trans {s t u : State} (h : s.KeepsClaims t) (g : t.KeepsClaims u) : s.KeepsClaims u where
  nested := g.nested ∘ h.nested
  attn := g.attn ∘ h.attn
  outputs := g.outputs ∘ h.outputs
  bounds := g.bounds ∘ h.bounds
  motion := g.motion ∘ h.motion
  queues := g.queues ∘ h.queues
  counts q c := g.counts (h.queues q) (h.counts q c)
  converter q c := g.converter (h.queues q) (h.converter q c)

theorem State.Keeps.trans {s t u : State} (h : s.Keeps t) (g : t.Keeps u) : s.Keeps u where
  toKeepsClaims := h.toKeepsClaims.trans g.toKeepsClaims
  quiet q c := g.quiet (h.queues q) (h.quiet q c)

/-! ### Claims -/

/-- The bays of the spin-up queue. -/
def Arbiter.bays (a : Arbiter) : List BayNo := a.queue.map SpinEntry.bay

/-- The bays of the unload queue. -/
def Scheduler.waiting (q : Scheduler) : List BayNo := q.emergency ++ q.ordinary

theorem State.queuesMatch_iff (s : State) :
    s.queuesMatch ↔ s.arbiter.bays.Nodup ∧ (∀ b, b ∈ s.arbiter.bays ↔ (s.bay b).state = .queued) ∧
      s.scheduler.waiting.Nodup ∧ (∀ b, b ∈ s.scheduler.waiting ↔ (s.bay b).state = .parkQueued) := by
  simp only [State.queuesMatch, Arbiter.bays, Scheduler.waiting, List.mem_map]

/-! ### Changes that leave every bay in its state -/

/-- No bay changes its state or its latched copy, and the claims stand. -/
structure State.Stays (s t : State) : Prop where
  state : ∀ b, (t.bay b).state = (s.bay b).state
  latched : ∀ b, (t.bay b).latched = (s.bay b).latched
  queue : t.arbiter.bays = s.arbiter.bays
  held : t.arbiter.held = s.arbiter.held
  grants : t.arbiter.grants = s.arbiter.grants
  holder : t.arbiter.converter.holder = s.arbiter.converter.holder
  waiting : t.scheduler.waiting = s.scheduler.waiting
  unloading : t.scheduler.unloading = s.scheduler.unloading
  flags : t.transit.mode = .transitSafe → ∀ b, (t.bay b).loadOnArrival = true → (s.bay b).loadOnArrival = true
  mode : t.transit.mode = .transitSafe → s.transit.mode = .transitSafe

/-- A change that leaves every bay in its state keeps the invariants, if it keeps those of the faults, the outputs, the
settings and the Motion Monitor. -/
theorem State.Stays.keeps {s t : State} (h : s.Stays t) (nested : s.faultSetsNested → t.faultSetsNested)
    (attn : s.attnShowsPending → t.attnShowsPending) (outputs : s.outputsFollow → t.outputsFollow)
    (settings : s.settingsAndSurgeBounded → t.store.working.valid = true ∧ t.supply.budget ≤ 63)
    (motion : s.motionBounded → t.motionBounded) : s.Keeps t where
  nested := nested
  attn := attn
  outputs := outputs
  bounds bounds := by
    obtain ⟨valid, budget⟩ := settings bounds
    obtain ⟨-, -, held, grants⟩ := bounds
    exact ⟨valid, budget, by rw [h.held]; exact held, by rw [h.grants]; exact grants⟩
  motion := motion
  queues q := by
    rw [t.queuesMatch_iff, h.queue, h.waiting]
    simp only [h.state]
    exact s.queuesMatch_iff.mp q
  counts _ c := by
    have surge (b : BayNo) : (t.bay b).surge = (s.bay b).surge := by rw [BayRec.surge, h.state, h.latched, BayRec.surge]
    have grant (b : BayNo) : (t.bay b).holdsGrant = (s.bay b).holdsGrant := by
      rw [BayRec.holdsGrant, h.state, BayRec.holdsGrant]
    rw [State.countsMatch, h.held, h.grants, h.unloading]
    simp only [surge, grant, h.state, h.latched]
    exact c
  converter _ c b := by rw [h.holder, h.state]; exact c b
  quiet _ q safe b := by
    obtain ⟨queued, spinning, diag, loading, loaded, flag⟩ := q (h.mode safe) b
    rw [h.state]
    refine ⟨queued, spinning, diag, loading, loaded, Bool.eq_false_iff.mpr fun set => ?_⟩
    rw [h.flags safe b set] at flag
    exact Bool.noConfusion flag

/-- The record stands in what the invariants read, but for the load-on-arrival flag. -/
structure BayRec.Idle (r u : BayRec) : Prop where
  state : u.state = r.state
  latched : u.latched = r.latched
  sticky : u.sticky = r.sticky
  pending : u.pending = r.pending
  outputs : r.outputsFollow → u.outputsFollow

theorem BayRec.Idle.refl (r : BayRec) : r.Idle r := ⟨rfl, rfl, rfl, rfl, id⟩

/-- The outputs of a bay follow its state also after a change that leaves what they are read from. -/
theorem BayRec.outputsFollow_of_same {r u : BayRec} (state : u.state = r.state) (latched : u.latched = r.latched)
    (spen : u.spen = r.spen) (hld : u.hld = r.hld) (spindleOn : u.spindleOn = r.spindleOn)
    (testPulse : u.timers.testPulse = r.timers.testPulse) (h : r.outputsFollow) : u.outputsFollow := by
  rw [BayRec.outputsFollow, state, latched, spen, hld, spindleOn, testPulse]
  exact h

/-- The records change beside the invariants, and the blocks that the invariants read stand; the transit mode may go to
NORMAL. -/
structure State.Idle (s t : State) : Prop where
  bays : ∀ b, (s.bay b).Idle (t.bay b)
  flags : t.transit.mode = .transitSafe → ∀ b, (t.bay b).loadOnArrival = true → (s.bay b).loadOnArrival = true
  mode : t.transit.mode = .transitSafe → s.transit.mode = .transitSafe
  faults : t.faults = s.faults
  queue : t.arbiter.bays = s.arbiter.bays
  held : t.arbiter.held = s.arbiter.held
  grants : t.arbiter.grants = s.arbiter.grants
  holder : t.arbiter.converter.holder = s.arbiter.converter.holder
  waiting : t.scheduler.waiting = s.scheduler.waiting
  unloading : t.scheduler.unloading = s.scheduler.unloading

/-- A change beside the invariants keeps them, if it keeps the bounds of the settings and of the Motion Monitor. -/
theorem State.Idle.keeps {s t : State} (h : s.Idle t)
    (settings : s.settingsAndSurgeBounded → t.store.working.valid = true ∧ t.supply.budget ≤ 63)
    (motion : s.motionBounded → t.motionBounded) : s.Keeps t := by
  have stays : s.Stays t := { h with state := fun b => (h.bays b).state, latched := fun b => (h.bays b).latched }
  refine stays.keeps (fun ⟨bays, case⟩ => ⟨fun b => ?_, by rw [h.faults]; exact case⟩) (fun shows => ?_)
    (fun o b => (h.bays b).outputs (o b)) settings motion
  · rw [(h.bays b).pending, (h.bays b).sticky, (h.bays b).state]
    exact bays b
  · rw [State.attnShowsPending] at shows
    rw [State.attnShowsPending, h.faults, shows]
    simp only [fun b => (h.bays b).pending]

/-- A change of the blocks that leaves the records. -/
theorem State.idle_of_bays {s t : State} (bays : t.bays = s.bays) (mode : t.transit.mode = .transitSafe → s.transit.mode = .transitSafe)
    (faults : t.faults = s.faults) (arbiter : t.arbiter = s.arbiter) (waiting : t.scheduler.waiting = s.scheduler.waiting)
    (unloading : t.scheduler.unloading = s.scheduler.unloading) : s.Idle t := by
  have same (b : BayNo) : t.bay b = s.bay b := congrArg (fun v => v[b]) bays
  exact ⟨fun b => same b ▸ .refl _, fun _ b set => same b ▸ set, mode, faults, by rw [arbiter], by rw [arbiter],
    by rw [arbiter], by rw [arbiter], waiting, unloading⟩

/-- Only the record of a bay changes, beside the invariants. -/
theorem State.keeps_modBay (s : State) {b : BayNo} {f : BayRec → BayRec} (idle : (s.bay b).Idle (f (s.bay b)))
    (flag : s.transit.mode = .transitSafe → (f (s.bay b)).loadOnArrival = true → (s.bay b).loadOnArrival = true) :
    s.Keeps (s.modBay b f) := by
  refine State.Idle.keeps ⟨fun x => ?_, fun safe x set => ?_, id, rfl, rfl, rfl, rfl, rfl, rfl, rfl⟩
    (fun ⟨valid, budget, _, _⟩ => ⟨valid, budget⟩) id
  · by_cases here : x = b
    · subst here; rw [State.bay_modBay_self]; exact idle
    · rw [State.bay_modBay_ne s f here]; exact .refl _
  · by_cases here : x = b
    · subst here; rw [State.bay_modBay_self] at set; exact flag safe set
    · rwa [State.bay_modBay_ne s f here] at set

theorem State.Keeps.refl (s : State) : s.Keeps s :=
  (State.idle_of_bays rfl id rfl rfl rfl rfl).keeps (fun ⟨valid, budget, _, _⟩ => ⟨valid, budget⟩) id

/-! ### A bay that changes its state -/

/-- Bay `b` alone changes and its fault sets stay nested; the blocks beside the arbiter and the scheduler stand in what the
invariants read. -/
structure State.OnlyBay (b : BayNo) (s t : State) : Prop where
  others : s.othersKept t b
  within : (s.bay b).pending &&& (s.bay b).sticky = (s.bay b).pending →
    (t.bay b).pending &&& (t.bay b).sticky = (t.bay b).pending
  attn : s.attnShowsPending → t.attnShowsPending
  casePending : t.faults.casePending = s.faults.casePending
  caseSticky : t.faults.caseSticky = s.faults.caseSticky
  motion : s.motionBounded → t.motionBounded
  supply : t.supply = s.supply
  mode : t.transit.mode = s.transit.mode
  store : t.store = s.store

/-- Bay `b` alone changes and its fault sets stand. -/
theorem State.OnlyBay.of_same {b : BayNo} {s t : State} (others : s.othersKept t b)
    (sticky : (t.bay b).sticky = (s.bay b).sticky) (pending : (t.bay b).pending = (s.bay b).pending)
    (faults : t.faults = s.faults) (motion : t.motion = s.motion) (supply : t.supply = s.supply)
    (mode : t.transit.mode = s.transit.mode) (store : t.store = s.store) : s.OnlyBay b t where
  others := others
  within h := by rw [sticky, pending]; exact h
  attn shows := by
    have same (x : BayNo) : (t.bay x).pending = (s.bay x).pending := by
      by_cases here : x = b
      · subst here; exact pending
      · rw [others x here]
    rw [State.attnShowsPending] at shows
    rw [State.attnShowsPending, faults, shows]
    simp only [same]
  casePending := by rw [faults]
  caseSticky := by rw [faults]
  motion m := by rw [State.motionBounded, motion]; exact m
  supply := supply
  mode := mode
  store := store

theorem State.OnlyBay.refl (b : BayNo) (s : State) : s.OnlyBay b s :=
  .of_same (fun _ _ => rfl) rfl rfl rfl rfl rfl rfl rfl

theorem State.OnlyBay.trans {b : BayNo} {s t u : State} (h : s.OnlyBay b t) (g : t.OnlyBay b u) : s.OnlyBay b u where
  others x hx := (g.others x hx).trans (h.others x hx)
  within := g.within ∘ h.within
  attn := g.attn ∘ h.attn
  casePending := g.casePending.trans h.casePending
  caseSticky := g.caseSticky.trans h.caseSticky
  motion := g.motion ∘ h.motion
  supply := g.supply.trans h.supply
  mode := g.mode.trans h.mode
  store := g.store.trans h.store

theorem State.onlyBay_modBay (s : State) (b : BayNo) (f : BayRec → BayRec) (sticky : (f (s.bay b)).sticky = (s.bay b).sticky)
    (pending : (f (s.bay b)).pending = (s.bay b).pending) : s.OnlyBay b (s.modBay b f) :=
  .of_same (fun _ hx => State.bay_modBay_ne s f hx) (by rw [State.bay_modBay_self]; exact sticky)
    (by rw [State.bay_modBay_self]; exact pending) rfl rfl rfl rfl rfl

theorem State.onlyBay_modArbiter (s : State) (b : BayNo) (f : Arbiter → Arbiter) : s.OnlyBay b (s.modArbiter f) :=
  .of_same (fun _ _ => rfl) rfl rfl rfl rfl rfl rfl rfl

theorem State.onlyBay_modScheduler (s : State) (b : BayNo) (f : Scheduler → Scheduler) :
    s.OnlyBay b (s.modScheduler f) :=
  .of_same (fun _ _ => rfl) rfl rfl rfl rfl rfl rfl rfl

theorem State.onlyBay_enter (s : State) (b : BayNo) (st : BayState) : s.OnlyBay b (s.enter b st) :=
  .of_same (fun _ hx => State.enter_bay_ne s st hx) (by simp) (by simp) (by simp) (by simp) (by simp) (by simp) (by simp)

theorem State.onlyBay_enterAfter (s : State) (e : BayEvent) (b : BayNo) (st : BayState) :
    s.OnlyBay b (s.enterAfter e b st) :=
  .of_same (fun _ hx => State.enterAfter_bay_ne s e st hx) (by simp) (by simp) (by simp) (by simp) (by simp) (by simp) (by simp)

theorem State.onlyBay_releaseGrant (s : State) (b : BayNo) : s.OnlyBay b (s.releaseGrant b) :=
  .of_same (fun _ _ => rfl) rfl rfl rfl rfl rfl rfl rfl
theorem State.onlyBay_dropEntry (s : State) (b : BayNo) : s.OnlyBay b (s.dropEntry b) :=
  .of_same (fun _ _ => rfl) rfl rfl rfl rfl rfl rfl rfl
theorem State.onlyBay_lowerUnloading (s : State) (b : BayNo) : s.OnlyBay b s.lowerUnloading :=
  .of_same (fun _ _ => rfl) rfl rfl rfl rfl rfl rfl rfl
theorem State.onlyBay_setIntent (s : State) (b : BayNo) (i : Intent) : s.OnlyBay b (s.setIntent b i) :=
  s.onlyBay_modBay b _ rfl rfl

/-- The profile that governs a bay is its latched copy while that is present (R5). -/
theorem State.governing_of_latched {s : State} {b : BayNo} {p : Profile} (h : (s.bay b).latched = some p) :
    s.governing b = p := by
  rw [State.governing, h, Option.getD_some]

/-- An entry into a state sets both outputs by the state and the profile that governs the bay (R15, R16). -/
theorem BayRec.enter_outputsFollow {st : BayState} {p : Profile} {r : BayRec} (now : Nat)
    (governs : ∀ q, r.latched = some q → p = q) : (r.enter st p now).outputsFollow := by
  refine ⟨?_, ?_⟩
  · cases st <;> simp [BayRec.enter, BayState.hldOnEntry]
  · cases st with
    | vacant | stopped | queued | spinningDown | fenced => rfl
    | diag => rfl
    | held =>
      refine ⟨?_, fun q latched on => ?_⟩
      · cases on : r.spindleOn <;> simp [BayRec.enter, BayState.spenOnEntry, on]
      · have here : r.spindleOn = true := on
        simp [BayRec.enter, BayState.spenOnEntry, here, milliampPerSu, governs q latched]
    | spinningUp | spun | unloading | loading | loaded | parkQueued =>
      exact ⟨rfl, fun q latched => by simp [BayRec.enter, BayState.spenOnEntry, milliampPerSu, governs q latched]⟩

theorem State.enter_outputsFollow (s : State) (b : BayNo) (st : BayState) : ((s.enter b st).bay b).outputsFollow := by
  rw [State.enter_bay_self]
  exact BayRec.enter_outputsFollow _ fun _ => State.governing_of_latched

theorem State.enterAfter_outputsFollow (s : State) (e : BayEvent) (b : BayNo) (st : BayState) :
    ((s.enterAfter e b st).bay b).outputsFollow := by
  rw [State.enterAfter_bay_self]
  exact BayRec.enter_outputsFollow _ fun _ => State.governing_of_latched

/-! ### Released claims -/

/-- Without the entry of a bay the spin-up queue has the other bays. -/
theorem Arbiter.bays_filter (q : List SpinEntry) (b : BayNo) :
    (q.filter (fun e => e.bay != b)).map SpinEntry.bay = (q.map SpinEntry.bay).filter (· != b) := by
  rw [List.filter_map]
  rfl

/-- A released claim touches the arbiter and the scheduler alone. -/
theorem State.releaseClaim_eq (s : State) (b : BayNo) :
    s.releaseClaim b = { s with arbiter := (s.releaseClaim b).arbiter, scheduler := (s.releaseClaim b).scheduler } := by
  unfold State.releaseClaim
  split <;> rfl

@[simp] theorem State.releaseClaim_now (s : State) (b : BayNo) : (s.releaseClaim b).now = s.now := by
  rw [State.releaseClaim_eq]
@[simp] theorem State.releaseClaim_bays (s : State) (b : BayNo) : (s.releaseClaim b).bays = s.bays := by
  rw [State.releaseClaim_eq]
@[simp] theorem State.releaseClaim_motion (s : State) (b : BayNo) : (s.releaseClaim b).motion = s.motion := by
  rw [State.releaseClaim_eq]
@[simp] theorem State.releaseClaim_supply (s : State) (b : BayNo) : (s.releaseClaim b).supply = s.supply := by
  rw [State.releaseClaim_eq]
@[simp] theorem State.releaseClaim_transit (s : State) (b : BayNo) : (s.releaseClaim b).transit = s.transit := by
  rw [State.releaseClaim_eq]
@[simp] theorem State.releaseClaim_faults (s : State) (b : BayNo) : (s.releaseClaim b).faults = s.faults := by
  rw [State.releaseClaim_eq]
@[simp] theorem State.releaseClaim_store (s : State) (b : BayNo) : (s.releaseClaim b).store = s.store := by
  rw [State.releaseClaim_eq]
@[simp] theorem State.releaseClaim_bay (s : State) (b x : BayNo) : (s.releaseClaim b).bay x = s.bay x := by
  rw [State.releaseClaim_eq]; rfl

/-- A released claim leaves the spin-up queue without the bay. -/
theorem State.releaseClaim_queue {s : State} (q : s.queuesMatch) (b : BayNo) :
    (s.releaseClaim b).arbiter.bays = s.arbiter.bays.filter (· != b) := by
  obtain ⟨-, queued, -, -⟩ := s.queuesMatch_iff.mp q
  have absent (h : (s.bay b).state ≠ .queued) : s.arbiter.bays.filter (· != b) = s.arbiter.bays :=
    List.filter_eq_self.mpr fun x mem => by
      rw [bne_iff_ne]
      rintro rfl
      exact h ((queued x).mp mem)
  unfold State.releaseClaim
  cases state : (s.bay b).state with
  | queued => exact Arbiter.bays_filter _ _
  | vacant | stopped | spinningUp | spun | loading | loaded | parkQueued | unloading | spinningDown | diag | held
  | fenced => exact (absent (by simp [state])).symm

/-- A released claim leaves the unload queue without the bay. -/
theorem State.releaseClaim_waiting {s : State} (q : s.queuesMatch) (b : BayNo) :
    (s.releaseClaim b).scheduler.waiting = s.scheduler.waiting.filter (· != b) := by
  obtain ⟨-, -, -, parked⟩ := s.queuesMatch_iff.mp q
  have absent (h : (s.bay b).state ≠ .parkQueued) : s.scheduler.waiting.filter (· != b) = s.scheduler.waiting :=
    List.filter_eq_self.mpr fun x mem => by
      rw [bne_iff_ne]
      rintro rfl
      exact h ((parked x).mp mem)
  unfold State.releaseClaim
  cases state : (s.bay b).state with
  | parkQueued => exact (List.filter_append ..).symm
  | vacant | stopped | queued | spinningUp | spun | loading | loaded | unloading | spinningDown | diag | held
  | fenced => exact (absent (by simp [state])).symm

/-- A released claim gives its surge back. -/
theorem State.releaseClaim_held {s : State} (c : s.countsMatch) (b : BayNo) :
    (s.releaseClaim b).arbiter.held = s.arbiter.held - (s.bay b).surge := by
  obtain ⟨-, -, latched, -⟩ := c
  unfold State.releaseClaim
  cases state : (s.bay b).state with
  | spinningUp =>
    obtain ⟨p, latched⟩ := Option.isSome_iff_exists.mp (latched b state)
    simp [State.releaseGrant, State.grantCost, state, State.governing_of_latched latched, BayRec.surge, latched]
  | diag => simp [State.releaseGrant, State.grantCost, state, BayRec.surge]
  | vacant | stopped | queued | spun | loading | loaded | parkQueued | unloading | spinningDown | held | fenced =>
    simp [BayRec.surge, state, State.dropEntry]

/-- A released claim gives its grant back. -/
theorem State.releaseClaim_grants (s : State) (b : BayNo) :
    (s.releaseClaim b).arbiter.grants = s.arbiter.grants - (s.bay b).holdsGrant.toNat := by
  unfold State.releaseClaim
  cases state : (s.bay b).state <;> simp [State.releaseGrant, BayRec.holdsGrant, state, State.dropEntry] <;> rfl

/-- A released claim frees the converter of a bay in DIAG. -/
theorem State.releaseClaim_holder (s : State) (b : BayNo) :
    (s.releaseClaim b).arbiter.converter.holder =
      if (s.bay b).state = .diag then none else s.arbiter.converter.holder := by
  unfold State.releaseClaim
  cases state : (s.bay b).state <;> simp [State.releaseGrant, state, State.dropEntry, Converter.free]

/-- A released claim lowers the unloading count. -/
theorem State.releaseClaim_unloading (s : State) (b : BayNo) :
    (s.releaseClaim b).scheduler.unloading = s.scheduler.unloading - ((s.bay b).state == .unloading).toNat := by
  unfold State.releaseClaim
  cases state : (s.bay b).state <;> simp [State.lowerUnloading, State.dropUnload] <;> rfl

/-- A released claim raises neither the held total nor the grant count. -/
theorem State.releaseClaim_le (s : State) (b : BayNo) :
    (s.releaseClaim b).arbiter.held ≤ s.arbiter.held ∧ (s.releaseClaim b).arbiter.grants ≤ s.arbiter.grants := by
  unfold State.releaseClaim
  cases state : (s.bay b).state <;> simp [State.releaseGrant, State.dropEntry]

/-- Bay `b` changes its state and its claims: those of the state it left are released, and those of the state it enters
are taken. -/
structure State.Turns (b : BayNo) (s t : State) : Prop extends s.OnlyBay b t where
  outputs : (s.bay b).outputsFollow → (t.bay b).outputsFollow
  hold : ((s.bay b).state = .held → (s.bay b).pending ≠ 0) → (t.bay b).state = .held → (t.bay b).pending ≠ 0
  queue : s.queuesMatch →
    t.arbiter.bays = (s.releaseClaim b).arbiter.bays ++ (if (t.bay b).state = .queued then [b] else [])
  waiting : s.queuesMatch → t.scheduler.waiting.Perm
    ((s.releaseClaim b).scheduler.waiting ++ (if (t.bay b).state = .parkQueued then [b] else []))
  held : s.queuesMatch → t.arbiter.held = (s.releaseClaim b).arbiter.held + (t.bay b).surge
  grants : s.queuesMatch → t.arbiter.grants = (s.releaseClaim b).arbiter.grants + (t.bay b).holdsGrant.toNat
  holder : s.queuesMatch → t.arbiter.converter.holder =
    if (t.bay b).state = .diag then some b else (s.releaseClaim b).arbiter.converter.holder
  unloading : s.queuesMatch →
    t.scheduler.unloading = (s.releaseClaim b).scheduler.unloading + ((t.bay b).state == .unloading).toNat
  latched : (t.bay b).state = .spinningUp → (t.bay b).latched.isSome = true
  onlyDiag : (t.bay b).state = .diag → ∀ x, x ≠ b → (s.bay x).state ≠ .diag
  bounds : s.settingsAndSurgeBounded → t.arbiter.held ≤ 63 ∧ t.arbiter.grants ≤ 8
  quiet : s.transit.mode = .transitSafe → s.safeIsQuiet →
    (t.bay b).state ≠ .queued ∧ (t.bay b).state ≠ .spinningUp ∧ (t.bay b).state ≠ .diag ∧
      (t.bay b).state ≠ .loading ∧ (t.bay b).state ≠ .loaded ∧ (t.bay b).loadOnArrival = false

/-- Membership in a list from which a bay was taken and to which it may have been added. -/
theorem mem_filter_append_ite (l : List BayNo) (b x : BayNo) (p : Prop) [Decidable p] :
    x ∈ l.filter (· != b) ++ (if p then [b] else []) ↔ (if x = b then p else x ∈ l) := by
  by_cases here : x = b <;> by_cases h : p <;> simp [here, h]

/-- A list without a bay, to which the bay may have been added, has no bay twice. -/
theorem nodup_filter_append_ite {l : List BayNo} (h : l.Nodup) (b : BayNo) (p : Prop) [Decidable p] :
    (l.filter (· != b) ++ (if p then [b] else [])).Nodup := by
  refine List.nodup_append.mpr ⟨h.filter _, by split <;> simp, fun x mem y added => ?_⟩
  rintro rfl
  have absent : x ≠ b := by simpa using (List.mem_filter.mp mem).2
  split at added <;> simp_all

/-- A change of state keeps every invariant. -/
theorem State.Turns.keeps {b : BayNo} {s t : State} (h : s.Turns b t) : s.Keeps t where
  nested := fun ⟨bays, case⟩ => by
    refine ⟨fun x => ?_, by rw [h.casePending, h.caseSticky]; exact case⟩
    by_cases here : x = b
    · subst here
      obtain ⟨within, hold⟩ := bays x
      exact ⟨h.within within, h.hold hold⟩
    · rw [h.others x here]; exact bays x
  attn := h.attn
  outputs o x := by
    by_cases here : x = b
    · subst here; exact h.outputs (o x)
    · rw [h.others x here]; exact o x
  bounds bounds := by
    obtain ⟨held, grants⟩ := h.bounds bounds
    exact ⟨by rw [h.store]; exact bounds.1, by rw [h.supply]; exact bounds.2.1, held, grants⟩
  motion := h.motion
  queues q := by
    have ⟨nodup, queued, nodupWaiting, parked⟩ := s.queuesMatch_iff.mp q
    refine t.queuesMatch_iff.mpr ⟨?_, fun x => ?_, ?_, fun x => ?_⟩
    · rw [h.queue q, State.releaseClaim_queue q]
      exact nodup_filter_append_ite nodup b _
    · rw [h.queue q, State.releaseClaim_queue q, mem_filter_append_ite]
      split
      · rename_i here; rw [here]
      · rename_i other; rw [queued, h.others x other]
    · rw [(h.waiting q).nodup_iff, State.releaseClaim_waiting q]
      exact nodup_filter_append_ite nodupWaiting b _
    · rw [(h.waiting q).mem_iff, State.releaseClaim_waiting q, mem_filter_append_ite]
      split
      · rename_i here; rw [here]
      · rename_i other; rw [parked, h.others x other]
  counts q c := by
    have ⟨held, grants, latched, unloading⟩ := c
    refine ⟨?_, ?_, fun x spinning => ?_, ?_⟩
    · rw [h.held q, State.releaseClaim_held c, held]
      exact (sum_allBays_change (f := fun x => (s.bay x).surge) (g := fun x => (t.bay x).surge)
        fun x hx => by rw [h.others x hx]).symm
    · rw [h.grants q, State.releaseClaim_grants, grants]
      exact (countP_allBays_change (p := fun x => (s.bay x).holdsGrant) (q := fun x => (t.bay x).holdsGrant)
        fun x hx => by rw [h.others x hx]).symm
    · by_cases here : x = b
      · subst here; exact h.latched spinning
      · rw [h.others x here] at spinning ⊢; exact latched x spinning
    · rw [h.unloading q, State.releaseClaim_unloading, unloading]
      exact (countP_allBays_change (p := fun x => (s.bay x).state == .unloading)
        (q := fun x => (t.bay x).state == .unloading) fun x hx => by rw [h.others x hx]).symm
  converter q c x := by
    rw [h.holder q, State.releaseClaim_holder]
    by_cases here : x = b
    · subst here
      by_cases enters : (t.bay x).state = .diag
      · simp [enters]
      · have released : (if (s.bay x).state = .diag then none else s.arbiter.converter.holder) ≠ some x := by
          split
          · simp
          · rename_i notDiag; exact mt (c x).mp notDiag
        simp [enters, released]
    · rw [h.others x here]
      by_cases enters : (t.bay b).state = .diag
      · simp [enters, Ne.symm here, h.onlyDiag enters x here]
      · rw [if_neg enters, ← c x]
        split
        · rename_i wasDiag
          rw [(c b).mpr wasDiag]
          simpa using Ne.symm here
        · rfl
  quiet _ q safe x := by
    rw [h.mode] at safe
    by_cases here : x = b
    · subst here; exact h.quiet safe q
    · rw [h.others x here]; exact q safe x

/-- A state that takes no claim (R10). -/
def BayState.claimless : BayState → Bool
  | .vacant | .stopped | .spun | .loading | .loaded | .spinningDown | .held | .fenced => true
  | .queued | .spinningUp | .parkQueued | .unloading | .diag => false

/-- In a claimless state nothing is released. -/
theorem State.releaseClaim_of_claimless {s : State} {b : BayNo} (h : (s.bay b).state.claimless = true) :
    s.releaseClaim b = s := by
  unfold State.releaseClaim
  cases state : (s.bay b).state <;> simp_all [BayState.claimless]

/-- Bay `b` goes to a claimless state, and the claim of the state it left is released. -/
theorem State.OnlyBay.turns {b : BayNo} {s t : State} (h : s.OnlyBay b t)
    (outputs : (s.bay b).outputsFollow → (t.bay b).outputsFollow)
    (hold : ((s.bay b).state = .held → (s.bay b).pending ≠ 0) → (t.bay b).state = .held → (t.bay b).pending ≠ 0)
    (claimless : (t.bay b).state.claimless = true)
    (arbiter : t.arbiter = (s.releaseClaim b).arbiter) (scheduler : t.scheduler = (s.releaseClaim b).scheduler)
    (flag : (t.bay b).loadOnArrival = true → (s.bay b).loadOnArrival = true)
    (notLoad : s.transit.mode = .transitSafe → s.safeIsQuiet → (t.bay b).state ≠ .loading ∧ (t.bay b).state ≠ .loaded) :
    s.Turns b t := by
  have noClaim : (t.bay b).state ≠ .queued ∧ (t.bay b).state ≠ .spinningUp ∧ (t.bay b).state ≠ .diag ∧
      (t.bay b).state ≠ .parkQueued ∧ (t.bay b).state ≠ .unloading := by
    cases state : (t.bay b).state <;> simp_all [BayState.claimless]
  obtain ⟨notQueued, notSpinning, notDiag, notParked, notUnloading⟩ := noClaim
  have noSurge : (t.bay b).surge = 0 := by
    cases state : (t.bay b).state <;> simp_all [BayState.claimless, BayRec.surge]
  have noGrant : (t.bay b).holdsGrant = false := by simp [BayRec.holdsGrant, notSpinning, notDiag]
  obtain ⟨heldLe, grantsLe⟩ := s.releaseClaim_le b
  refine { h with
    outputs, hold
    queue := fun _ => by rw [arbiter, if_neg notQueued, List.append_nil]
    waiting := fun _ => by rw [scheduler, if_neg notParked, List.append_nil]
    held := fun _ => by rw [arbiter, noSurge, Nat.add_zero]
    grants := fun _ => by rw [arbiter, noGrant]; rfl
    holder := fun _ => by rw [arbiter, if_neg notDiag]
    unloading := fun _ => by simp [scheduler, notUnloading]
    latched := fun spinning => absurd spinning notSpinning
    onlyDiag := fun diag => absurd diag notDiag
    bounds := fun ⟨_, _, held, grants⟩ => by rw [arbiter]; exact ⟨Nat.le_trans heldLe held, Nat.le_trans grantsLe grants⟩
    quiet := fun safe quiet => ?_ }
  obtain ⟨notLoading, notLoaded⟩ := notLoad safe quiet
  obtain ⟨-, -, -, -, -, clear⟩ := quiet safe b
  refine ⟨notQueued, notSpinning, notDiag, notLoading, notLoaded, Bool.eq_false_iff.mpr fun set => ?_⟩
  rw [flag set] at clear
  exact Bool.noConfusion clear

end Sys2Proof.Machine
end

section
/-! PROOFS. Every operation of the arbiter, the scheduler and the sequencers keeps the invariants: each is a chain of turns
of one bay and of changes beside the invariants (2.1 to 2.8, chapter 3). -/

namespace Sys2Proof.Machine

/-! ### Released claims, by the state left -/

theorem State.releaseClaim_of_queued {s : State} {b : BayNo} (h : (s.bay b).state = .queued) :
    s.releaseClaim b = s.dropEntry b := by
  rw [State.releaseClaim, h]
theorem State.releaseClaim_of_spinningUp {s : State} {b : BayNo} (h : (s.bay b).state = .spinningUp) :
    s.releaseClaim b = s.releaseGrant b := by
  rw [State.releaseClaim, h]
theorem State.releaseClaim_of_diag {s : State} {b : BayNo} (h : (s.bay b).state = .diag) :
    s.releaseClaim b = s.releaseGrant b := by
  rw [State.releaseClaim, h]
theorem State.releaseClaim_of_parkQueued {s : State} {b : BayNo} (h : (s.bay b).state = .parkQueued) :
    s.releaseClaim b = s.dropUnload b := by
  rw [State.releaseClaim, h]
theorem State.releaseClaim_of_unloading {s : State} {b : BayNo} (h : (s.bay b).state = .unloading) :
    s.releaseClaim b = s.lowerUnloading := by
  rw [State.releaseClaim, h]

/-! ### Entries into claimless states -/

/-- An entry never sets the load-on-arrival flag. -/
theorem BayRec.loadOnArrival_of_enter {st : BayState} {p : Profile} {now : Nat} {r : BayRec}
    (h : (r.enter st p now).loadOnArrival = true) : r.loadOnArrival = true := by
  simp only [BayRec.enter] at h
  split at h
  · exact Bool.noConfusion h
  · exact h

section

variable {b : BayNo} {s x : State} {st : BayState}

/-- What an entry into a claimless state needs of the state just before it. -/
structure State.Leaves (b : BayNo) (s x : State) : Prop extends s.OnlyBay b x where
  arbiter : x.arbiter = (s.releaseClaim b).arbiter
  scheduler : x.scheduler = (s.releaseClaim b).scheduler
  flag : (x.bay b).loadOnArrival = true → (s.bay b).loadOnArrival = true

theorem State.Leaves.turns_enter (h : s.Leaves b x) (claimless : st.claimless = true)
    (hold : st = .held → (x.bay b).pending ≠ 0)
    (notLoad : s.transit.mode = .transitSafe → s.safeIsQuiet → st ≠ .loading ∧ st ≠ .loaded) :
    s.Turns b (x.enter b st) :=
  (h.toOnlyBay.trans (x.onlyBay_enter b st)).turns (fun _ => x.enter_outputsFollow b st) (by simpa using fun _ => hold)
    (by simpa using claimless) (by simpa using h.arbiter) (by simpa using h.scheduler)
    (fun set => h.flag (BayRec.loadOnArrival_of_enter (x.enter_bay_self b st ▸ set))) (by simpa using notLoad)

theorem State.Leaves.turns_enterAfter (h : s.Leaves b x) (e : BayEvent) (claimless : st.claimless = true)
    (hold : st = .held → (x.bay b).pending ≠ 0)
    (notLoad : s.transit.mode = .transitSafe → s.safeIsQuiet → st ≠ .loading ∧ st ≠ .loaded) :
    s.Turns b (x.enterAfter e b st) :=
  (h.toOnlyBay.trans (x.onlyBay_enterAfter e b st)).turns (fun _ => x.enterAfter_outputsFollow e b st)
    (by simpa using fun _ => hold)
    (by simpa using claimless) (by simpa using h.arbiter) (by simpa using h.scheduler)
    (fun set => h.flag (BayRec.loadOnArrival_of_enter (x.enterAfter_bay_self e b st ▸ set))) (by simpa using notLoad)

/-- A state that is no loading one, by its claims. -/
theorem not_loading_of {st : BayState} (h : st ≠ .loading) (g : st ≠ .loaded) {P Q : Prop} : P → Q → st ≠ .loading ∧ st ≠ .loaded :=
  fun _ _ => ⟨h, g⟩

/-- A bay leaves a claimless state. -/
theorem State.Leaves.refl (h : (s.bay b).state.claimless = true) : s.Leaves b s :=
  { State.OnlyBay.refl b s with
    arbiter := by rw [State.releaseClaim_of_claimless h]
    scheduler := by rw [State.releaseClaim_of_claimless h]
    flag := id }

/-- The claim of a bay is released. -/
theorem State.Leaves.of_releaseClaim (s : State) (b : BayNo) : s.Leaves b (s.releaseClaim b) :=
  { State.OnlyBay.of_same (b := b) (fun x _ => s.releaseClaim_bay b x) (by simp) (by simp) (by simp) (by simp) (by simp)
      (by simp) (by simp) with
    arbiter := rfl
    scheduler := rfl
    flag := by simp }

/-- A grant is given back. -/
theorem State.Leaves.of_releaseGrant (h : (s.bay b).state = .spinningUp ∨ (s.bay b).state = .diag) :
    s.Leaves b (s.releaseGrant b) := by
  have here : s.releaseGrant b = s.releaseClaim b := by
    rcases h with h | h
    · rw [State.releaseClaim_of_spinningUp h]
    · rw [State.releaseClaim_of_diag h]
  rw [here]
  exact .of_releaseClaim s b

/-- The record changes on the way out. -/
theorem State.Leaves.modBay (h : s.Leaves b x) (f : BayRec → BayRec) (sticky : (f (x.bay b)).sticky = (x.bay b).sticky)
    (pending : (f (x.bay b)).pending = (x.bay b).pending)
    (flag : (f (x.bay b)).loadOnArrival = true → (x.bay b).loadOnArrival = true) : s.Leaves b (x.modBay b f) :=
  { h.toOnlyBay.trans (x.onlyBay_modBay b f sticky pending) with
    arbiter := h.arbiter
    scheduler := h.scheduler
    flag := fun set => h.flag (flag (by rwa [State.bay_modBay_self] at set)) }

end

/-! ### Grants -/

theorem insertByKey_perm {α : Type} (key : α → Nat) (a : α) (l : List α) : (insertByKey key a l).Perm (a :: l) := by
  induction l with
  | nil => exact .refl _
  | cons x xs ih =>
    unfold insertByKey
    split
    · exact .refl _
    · exact (ih.cons x).trans (.swap a x xs)

theorem sortByKey_perm {α : Type} (key : α → Nat) (l : List α) : (sortByKey key l).Perm l := by
  induction l with
  | nil => exact .refl _
  | cons x xs ih => exact (insertByKey_perm key x _).trans (ih.cons x)

/-- The mode orders the eligible entries and loses none (R36). -/
theorem State.inModeOrder_perm (s : State) (es : List SpinEntry) : (s.inModeOrder es).Perm es := by
  unfold State.inModeOrder
  split
  · exact .refl _
  · exact sortByKey_perm _ _
  · exact sortByKey_perm _ _

/-- The bays of the spin-up queue with the kinds of their entries. -/
def Arbiter.entries (a : Arbiter) : List (BayNo × EntryKind) := a.queue.map fun e => (e.bay, e.kind)

theorem Arbiter.entries_bays (a : Arbiter) : a.bays = a.entries.map Prod.fst := by
  simp [Arbiter.bays, Arbiter.entries]

/-- What a pass that grants has checked (R34, R35, R37). -/
structure State.Grants (s : State) (e : SpinEntry) : Prop where
  entry : (e.bay, e.kind) ∈ s.arbiter.entries
  eligible : s.eligible e = true
  fits : s.fits e = true
  grants : s.arbiter.grants < s.settings.concurrencyLimit
  mode : s.transit.mode ≠ .transitSafe

theorem State.grants_of_pass {s : State} {p : PassResult} (h : s.pass = some p) : s.Grants p.granted := by
  unfold State.pass at h
  split at h
  · exact nomatch h
  · rename_i admitted
    have ⟨below, mode⟩ : s.arbiter.grants < s.settings.concurrencyLimit ∧ s.transit.mode ≠ .transitSafe := by
      simpa using admitted
    have found {e : SpinEntry} (mem : e ∈ s.inModeOrder (s.arbiter.queue.filter s.eligible)) (fits : s.fits e = true) :
        s.Grants e := by
      obtain ⟨queued, eligible⟩ := List.mem_filter.mp ((s.inModeOrder_perm _).mem_iff.mp mem)
      exact ⟨List.mem_map_of_mem queued, eligible, fits, below, mode⟩
    split at h
    · exact nomatch h
    · rename_i candidate rest order
      rw [order] at found
      split at h
      · rename_i fits
        rw [← Option.some.inj h]
        exact found List.mem_cons_self fits
      · split at h
        · obtain ⟨e, first, rfl⟩ := Option.map_eq_some_iff.mp h
          exact found (List.mem_cons_of_mem _ (List.mem_of_find?_eq_some first)) (List.find?_some first)
        · exact nomatch h

/-- What a grant does to the surge accounting stays within its bounds (R32, R34, R37). -/
theorem State.Grants.bounds {s : State} {e : SpinEntry} (h : s.Grants e) (b : s.settingsAndSurgeBounded) :
    s.arbiter.held + s.cost e ≤ 63 ∧ s.arbiter.grants + 1 ≤ 8 := by
  obtain ⟨valid, budget, -, -⟩ := b
  have fits : s.arbiter.held + s.cost e ≤ s.supply.budget := by simpa [State.fits] using h.fits
  have limit : s.settings.concurrencyLimit ≤ 8 := by
    simp only [WorkingSettings.valid, CaseSettings.valid, within, Bool.and_eq_true, decide_eq_true_eq] at valid
    rw [State.settings]
    omega
  exact ⟨Nat.le_trans fits budget, Nat.lt_of_lt_of_le h.grants limit⟩

/-- A granted bay is QUEUED. -/
theorem State.Grants.queued {s : State} {e : SpinEntry} (h : s.Grants e) (q : s.queuesMatch) :
    (s.bay e.bay).state = .queued := by
  obtain ⟨-, queued, -, -⟩ := s.queuesMatch_iff.mp q
  refine (queued _).mp ?_
  rw [Arbiter.entries_bays]
  exact List.mem_map_of_mem h.entry

/-- A granted bay is QUEUED, and its entry is the claim that it releases (R39). -/
theorem State.Grants.releaseClaim {s : State} {e : SpinEntry} (h : s.Grants e) (q : s.queuesMatch) :
    s.releaseClaim e.bay = s.dropEntry e.bay := by
  exact State.releaseClaim_of_queued (h.queued q)

theorem State.onlyBay_takeGrant (s : State) (e : SpinEntry) : s.OnlyBay e.bay (s.takeGrant e) :=
  .of_same (fun _ _ => rfl) rfl rfl rfl rfl rfl rfl rfl

/-- No bay is in DIAG where a TEST entry is eligible (R35). -/
theorem State.Grants.noDiag {s : State} {e : SpinEntry} (h : s.Grants e) (test : e.kind = .test) (x : BayNo) :
    (s.bay x).state ≠ .diag := by
  intro diag
  have eligible := h.eligible
  simp only [State.eligible, test, State.someDiag, Bool.not_eq_true'] at eligible
  have some : s.bays.any (fun r => r.state == .diag) = true :=
    (s.bays_any_iff _).mpr ⟨x, by simp [diag]⟩
  rw [some] at eligible
  exact Bool.noConfusion eligible

theorem State.Grants.turns_spin {s : State} {e : SpinEntry} (h : s.Grants e) (spin : e.kind = .spin) :
    s.Turns e.bay ((s.takeGrant e).grantSpin e.bay) := by
  have only : s.OnlyBay e.bay ((s.takeGrant e).grantSpin e.bay) :=
    ((s.onlyBay_takeGrant e).trans (State.onlyBay_modBay _ _ _ rfl rfl)).trans (State.onlyBay_enter _ _ _)
  have state : (((s.takeGrant e).grantSpin e.bay).bay e.bay).state = .spinningUp := by simp [State.grantSpin]
  have latched : (((s.takeGrant e).grantSpin e.bay).bay e.bay).latched = some (s.effective e.bay) := by
    simp [State.grantSpin, BayRec.enter, BayState.dropsLatched]
    rfl
  have surge : (((s.takeGrant e).grantSpin e.bay).bay e.bay).surge = s.cost e := by
    simp [BayRec.surge, state, latched, State.cost, spin]
  have arbiter : ((s.takeGrant e).grantSpin e.bay).arbiter = (s.takeGrant e).arbiter := by simp [State.grantSpin]
  have scheduler : ((s.takeGrant e).grantSpin e.bay).scheduler = s.scheduler := by simp [State.grantSpin, State.takeGrant]
  exact { only with
    outputs := fun _ => State.enter_outputsFollow _ _ _
    hold := by simp [state]
    queue := fun q => by rw [arbiter, h.releaseClaim q, state]; exact (List.append_nil _).symm
    waiting := fun q => by rw [scheduler, h.releaseClaim q, state]; exact .of_eq (List.append_nil _).symm
    held := fun q => by rw [arbiter, h.releaseClaim q, surge]; rfl
    grants := fun q => by rw [arbiter, h.releaseClaim q, BayRec.holdsGrant, state]; rfl
    holder := fun q => by rw [arbiter, h.releaseClaim q, state]; rfl
    unloading := fun q => by rw [scheduler, h.releaseClaim q, state]; rfl
    latched := fun _ => by rw [latched]; rfl
    onlyDiag := by simp [state]
    bounds := fun b => by rw [arbiter]; exact h.bounds b
    quiet := fun safe => absurd safe h.mode }

theorem State.Grants.turns_test {s : State} {e : SpinEntry} (h : s.Grants e) (test : e.kind = .test) :
    s.Turns e.bay ((s.takeGrant e).grantTest e.bay) := by
  have only : s.OnlyBay e.bay ((s.takeGrant e).grantTest e.bay) :=
    ((s.onlyBay_takeGrant e).trans (State.onlyBay_modArbiter _ _ _)).trans (State.onlyBay_enter _ _ _)
  have state : (((s.takeGrant e).grantTest e.bay).bay e.bay).state = .diag := by simp [State.grantTest]
  have cost : s.cost e = 1 := by simp [State.cost, test]
  have scheduler : ((s.takeGrant e).grantTest e.bay).scheduler = s.scheduler := by simp [State.grantTest, State.takeGrant]
  have queue : ((s.takeGrant e).grantTest e.bay).arbiter.queue = (s.dropEntry e.bay).arbiter.queue := by
    simp [State.grantTest, State.takeGrant]
  have held : ((s.takeGrant e).grantTest e.bay).arbiter.held = s.arbiter.held + 1 := by
    simp [State.grantTest, State.takeGrant, State.dropEntry, cost]
  have grants : ((s.takeGrant e).grantTest e.bay).arbiter.grants = s.arbiter.grants + 1 := by
    simp [State.grantTest, State.takeGrant, State.dropEntry]
  have holder : ((s.takeGrant e).grantTest e.bay).arbiter.converter.holder = some e.bay := by simp [State.grantTest]
  exact { only with
    outputs := fun _ => State.enter_outputsFollow _ _ _
    hold := by simp [state]
    queue := fun q => by
      rw [Arbiter.bays, queue, h.releaseClaim q, state]; exact (List.append_nil _).symm
    waiting := fun q => by rw [scheduler, h.releaseClaim q, state]; exact .of_eq (List.append_nil _).symm
    held := fun q => by rw [held, h.releaseClaim q, BayRec.surge, state]; rfl
    grants := fun q => by rw [grants, h.releaseClaim q, BayRec.holdsGrant, state]; rfl
    holder := fun q => by rw [holder, state]; rfl
    unloading := fun q => by rw [scheduler, h.releaseClaim q, state]; rfl
    latched := by simp [state]
    onlyDiag := fun _ x _ => h.noDiag test x
    bounds := fun b => by rw [held, grants]; exact cost ▸ h.bounds b
    quiet := fun safe => absurd safe h.mode }

theorem State.Grants.keeps {s : State} {e : SpinEntry} (h : s.Grants e) : s.Keeps (s.grant e) := by
  unfold State.grant
  split
  · rename_i spin; exact (h.turns_spin spin).keeps
  · rename_i test; exact (h.turns_test test).keeps

/-- A raised skip count leaves the bays of the queue and the kinds (R38). -/
theorem raiseSkip_entries (b : BayNo) (q : List SpinEntry) :
    (raiseSkip b q).map (fun e => (e.bay, e.kind)) = q.map (fun e => (e.bay, e.kind)) := by
  simp only [raiseSkip, List.map_map]
  refine List.map_congr_left fun e _ => ?_
  simp only [Function.comp]
  split <;> rfl

/-- The skip count of a candidate that a pass goes past is raised (R38). -/
def State.raised (p : PassResult) (s : State) : State :=
  match p.skipped with
  | some c => s.modArbiter (fun a => { a with queue := raiseSkip c a.queue })
  | none => s

theorem State.carryOut_eq (p : PassResult) (s : State) : s.carryOut p = (s.raised p).grant p.granted := by
  cases skipped : p.skipped <;> simp only [State.carryOut, State.raised, skipped]

/-- A raised skip count touches nothing else. -/
theorem State.raised_eq (p : PassResult) (s : State) :
    s.raised p = { s with arbiter := { s.arbiter with queue := (s.raised p).arbiter.queue } } := by
  unfold State.raised
  split <;> rfl

theorem State.raised_entries (p : PassResult) (s : State) : (s.raised p).arbiter.entries = s.arbiter.entries := by
  unfold State.raised
  split
  · exact raiseSkip_entries _ _
  · rfl

/-- A raised skip count leaves what a pass has checked. -/
theorem State.Grants.raised {s : State} {e : SpinEntry} (h : s.Grants e) (p : PassResult) : (s.raised p).Grants e := by
  have entries := s.raised_entries p
  obtain ⟨entry, eligible, fits, grants, mode⟩ := h
  rw [← entries] at entry
  rw [State.raised_eq] at entry ⊢
  exact ⟨entry, eligible, fits, grants, mode⟩

theorem State.keeps_raised (p : PassResult) (s : State) : s.Keeps (s.raised p) := by
  have bays : (s.raised p).arbiter.bays = s.arbiter.bays := by
    rw [Arbiter.entries_bays, Arbiter.entries_bays, State.raised_entries]
  rw [State.raised_eq] at bays ⊢
  have idle : s.Idle { s with arbiter := { s.arbiter with queue := (s.raised p).arbiter.queue } } :=
    ⟨fun b => .refl _, fun _ _ set => set, id, rfl, bays, rfl, rfl, rfl, rfl, rfl⟩
  exact idle.keeps (fun ⟨valid, budget, _, _⟩ => ⟨valid, budget⟩) id

theorem State.keeps_carryOut {s : State} {p : PassResult} (h : s.pass = some p) : s.Keeps (s.carryOut p) := by
  rw [State.carryOut_eq]
  exact (s.keeps_raised p).trans ((State.grants_of_pass h).raised p).keeps

theorem State.keeps_evaluate (s : State) : s.Keeps s.evaluate :=
  State.evaluate_induct (P := fun t => s.Keeps t) (fun _ _ pass h => h.trans (State.keeps_carryOut pass)) s (.refl s)

/-! ### Bays that join the spin-up queue -/

/-- Bay `b` goes to QUEUED with an entry at the tail (R28, R29). -/
theorem State.OnlyBay.turns_queued {b : BayNo} {s t : State} (h : s.OnlyBay b t) (state : (t.bay b).state = .queued)
    (outputs : (t.bay b).outputsFollow) (k : EntryKind)
    (arbiter : t.arbiter = { (s.releaseClaim b).arbiter with
      queue := (s.releaseClaim b).arbiter.queue ++ [{ bay := b, kind := k, skip := 0 }] })
    (scheduler : t.scheduler = (s.releaseClaim b).scheduler)
    (normal : s.transit.mode = .transitSafe → ¬ s.safeIsQuiet) : s.Turns b t := by
  obtain ⟨heldLe, grantsLe⟩ := s.releaseClaim_le b
  exact { h with
    outputs := fun _ => outputs
    hold := by simp [state]
    queue := fun _ => by rw [arbiter, state]; exact List.map_append
    waiting := fun _ => by rw [scheduler, state]; exact .of_eq (List.append_nil _).symm
    held := fun _ => by rw [arbiter, BayRec.surge, state]; rfl
    grants := fun _ => by rw [arbiter, BayRec.holdsGrant, state]; rfl
    holder := fun _ => by rw [arbiter, state]; rfl
    unloading := fun _ => by rw [scheduler, state]; rfl
    latched := by simp [state]
    onlyDiag := by simp [state]
    bounds := fun ⟨_, _, held, grants⟩ => by rw [arbiter]; exact ⟨Nat.le_trans heldLe held, Nat.le_trans grantsLe grants⟩
    quiet := fun safe quiet => absurd quiet (normal safe) }

/-- A bay in a claimless state joins the queue in a NORMAL case. -/
theorem State.keeps_joinQueue {s : State} {b : BayNo} (h : (s.bay b).state.claimless = true)
    (normal : s.transit.mode = .normal) (k : EntryKind) : s.Keeps (s.joinQueue b k) := by
  refine (State.OnlyBay.turns_queued ((s.onlyBay_modArbiter b _).trans (State.onlyBay_enter _ _ _)) ?_
    (State.enter_outputsFollow _ _ _) k ?_ ?_ ?_).keeps
  · simp
  · rw [State.releaseClaim_of_claimless h]; simp
  · rw [State.releaseClaim_of_claimless h]; simp
  · rw [normal]; simp

/-! ### Spindles -/

section

variable {b : BayNo} {s : State}

/-- A bay leaves a claimless state for SPINNING_DOWN. -/
theorem State.Leaves.keeps_spinDownWith {x : State} (h : s.Leaves b x) (i : Intent) : s.Keeps (x.spinDownWith b i) :=
  ((h.modBay (fun r => { r with intent := i }) rfl rfl id).turns_enter (st := .spinningDown) rfl
    (fun here => nomatch here) (not_loading_of (by decide) (by decide))).keeps

theorem State.keeps_spinDownWith (h : (s.bay b).state.claimless = true) (i : Intent) : s.Keeps (s.spinDownWith b i) :=
  (State.Leaves.refl h).keeps_spinDownWith i

theorem State.keeps_abortSpinUp (h : (s.bay b).state = .spinningUp) (i : Intent) : s.Keeps (s.abortSpinUp b i) :=
  ((State.Leaves.of_releaseGrant (.inl h)).keeps_spinDownWith i).trans (State.keeps_evaluate _)

/-- A bay goes to HELD with a fault pending. -/
theorem State.Leaves.keeps_holdWith {x : State} (h : s.Leaves b x) (on : Bool) (pending : (x.bay b).pending ≠ 0) :
    s.Keeps (x.holdWith b on) :=
  ((h.modBay _ rfl rfl id).turns_enter rfl (by simpa using pending) (not_loading_of (by decide) (by decide))).keeps

/-- A bay leaves a claimless state or gives its claim back, and goes to STOPPED or FENCED. -/
theorem State.Leaves.keeps_enter {x : State} (h : s.Leaves b x) {st : BayState} (claimless : st.claimless = true)
    (held : st ≠ .held) (loading : st ≠ .loading) (loaded : st ≠ .loaded) : s.Keeps (x.enter b st) :=
  (h.turns_enter claimless (fun here => absurd here held) (not_loading_of loading loaded)).keeps

theorem State.Leaves.keeps_enterAfter {x : State} (h : s.Leaves b x) (e : BayEvent) {st : BayState}
    (claimless : st.claimless = true) (held : st ≠ .held) (loading : st ≠ .loading) (loaded : st ≠ .loaded) :
    s.Keeps (x.enterAfter e b st) :=
  (h.turns_enterAfter e claimless (fun here => absurd here held) (not_loading_of loading loaded)).keeps

/-- The bits of a class are some bits. -/
theorem BayFault.bit_ne_zero (c : BayFault) : c.bit ≠ 0 := by cases c <;> decide

theorem CaseFault.bit_ne_zero (c : CaseFault) : c.bit ≠ 0 := by cases c <;> decide

/-- Bits added to some bits are some bits. -/
theorem or_ne_zero_of_right {w : Nat} {a c : BitVec w} (h : c ≠ 0) : a ||| c ≠ 0 := by
  intro zero
  exact h (BitVec.or_eq_zero_iff.mp zero).2

/-- An unmasked report leaves its class pending (R136). -/
theorem State.reportBay_pending_ne_zero (s : State) {c : BayFault} (b : BayNo) (h : s.answersHold c = true) :
    ((s.reportBay c b).bay b).pending ≠ 0 := by
  rw [State.reportBay_bay_self, if_pos h]
  exact or_ne_zero_of_right c.bit_ne_zero

theorem State.anyPending_iff (s : State) :
    s.anyPending = true ↔ s.faults.casePending ≠ 0 ∨ ∃ b, (s.bay b).pending ≠ 0 := by
  simp only [State.anyPending, Bool.or_eq_true, bne_iff_ne, s.bays_any_iff]

/-- ATTN shows what is pending where it has just been recomputed (R138). -/
theorem State.attnShowsPending_of_recomputed {s : State} (h : s.faults.attn = s.anyPending) : s.attnShowsPending := by
  rw [State.attnShowsPending, h, s.anyPending_iff]

/-- Bits that stand in a set also stand after the same bits are added to both. -/
theorem and_or_or_of_and {w : Nat} {p q : BitVec w} (c : BitVec w) (h : p &&& q = p) : (p ||| c) &&& (q ||| c) = p ||| c := by
  rw [← h]
  ext i
  simp
  grind

/-- Bits that stand in a set stand in a larger set. -/
theorem and_or_of_and {w : Nat} {p q : BitVec w} (c : BitVec w) (h : p &&& q = p) : p &&& (q ||| c) = p := by
  rw [← h]
  ext i
  simp
  grind

/-- A report of a bay touches that bay alone (R136). -/
theorem State.onlyBay_reportBay (s : State) (c : BayFault) (b : BayNo) : s.OnlyBay b (s.reportBay c b) where
  others _ hx := State.reportBay_bay_ne s c hx
  within h := by
    rw [State.reportBay_bay_self]
    dsimp only
    split
    · exact and_or_or_of_and _ h
    · exact and_or_of_and _ h
  attn shows := by
    by_cases hold : s.answersHold c = true
    · refine State.attnShowsPending_of_recomputed ?_
      simp only [State.reportBay, hold, if_pos]
      rfl
    · have same (x : BayNo) : ((s.reportBay c b).bay x).pending = (s.bay x).pending := by
        by_cases here : x = b
        · subst here; rw [State.reportBay_bay_self, if_neg hold]
        · rw [State.reportBay_bay_ne s c here]
      have faults : (s.reportBay c b).faults = s.faults := by
        rw [State.reportBay, if_neg hold]; rfl
      rw [State.attnShowsPending] at shows
      rw [State.attnShowsPending, faults, shows]
      simp only [same]
  casePending := by unfold State.reportBay; dsimp only; split <;> rfl
  caseSticky := by unfold State.reportBay; dsimp only; split <;> rfl
  motion m := by rw [State.motionBounded, State.reportBay_motion]; exact m
  supply := by simp
  mode := by simp
  store := by simp

/-- A report on the way out of a state. -/
theorem State.Leaves.reportBay {x : State} (h : s.Leaves b x) (c : BayFault) : s.Leaves b (x.reportBay c b) :=
  { h.toOnlyBay.trans (x.onlyBay_reportBay c b) with
    arbiter := by rw [State.reportBay_arbiter]; exact h.arbiter
    scheduler := by rw [State.reportBay_scheduler]; exact h.scheduler
    flag := fun set => h.flag (by rwa [State.reportBay_bay_self] at set) }

/-- A report of a bay keeps every invariant. -/
theorem State.keeps_reportBay (s : State) (c : BayFault) (b : BayNo) : s.Keeps (s.reportBay c b) := by
  have only := s.onlyBay_reportBay c b
  have same (x : BayNo) : ((s.reportBay c b).bay x).state = (s.bay x).state ∧
      ((s.reportBay c b).bay x).latched = (s.bay x).latched ∧
      ((s.reportBay c b).bay x).loadOnArrival = (s.bay x).loadOnArrival ∧
      ((s.bay x).outputsFollow → ((s.reportBay c b).bay x).outputsFollow) ∧
      ((s.bay x).pending ≠ 0 → ((s.reportBay c b).bay x).pending ≠ 0) := by
    by_cases here : x = b
    · subst here
      rw [State.reportBay_bay_self]
      refine ⟨rfl, rfl, rfl, id, fun some => ?_⟩
      dsimp only
      split
      · exact or_ne_zero_of_right c.bit_ne_zero
      · exact some
    · rw [State.reportBay_bay_ne s c here]
      exact ⟨rfl, rfl, rfl, id, id⟩
  have stays : s.Stays (s.reportBay c b) :=
    { state := fun x => (same x).1
      latched := fun x => (same x).2.1
      queue := by rw [State.reportBay_arbiter]
      held := by rw [State.reportBay_arbiter]
      grants := by rw [State.reportBay_arbiter]
      holder := by rw [State.reportBay_arbiter]
      waiting := by rw [State.reportBay_scheduler]
      unloading := by rw [State.reportBay_scheduler]
      flags := fun _ x set => by obtain ⟨-, -, flag, -, -⟩ := same x; rwa [flag] at set
      mode := by simp }
  refine stays.keeps (fun ⟨bays, case⟩ => ⟨fun x => ⟨?_, fun held => ?_⟩, ?_⟩) only.attn
    (fun o x => (same x).2.2.2.1 (o x)) (fun ⟨valid, budget, _, _⟩ => ?_) only.motion
  · by_cases here : x = b
    · subst here; exact only.within (bays x).1
    · rw [only.others x here]; exact (bays x).1
  · obtain ⟨state, -, -, -, pending⟩ := same x
    exact pending ((bays x).2 (state ▸ held))
  · rw [only.casePending, only.caseSticky]; exact case
  · rw [only.store, only.supply]; exact ⟨valid, budget⟩

/-- Time, the link, the free values and the commands stand beside the invariants. -/
theorem State.keeps_of_blocks {s t : State} (bays : t.bays = s.bays) (arbiter : t.arbiter = s.arbiter)
    (scheduler : t.scheduler = s.scheduler) (motion : t.motion = s.motion) (supply : t.supply = s.supply)
    (transit : t.transit = s.transit) (faults : t.faults = s.faults) (store : t.store = s.store) : s.Keeps t :=
  (State.idle_of_bays bays (by rw [transit]; exact id) faults arbiter (by rw [scheduler]) (by rw [scheduler])).keeps
    (fun ⟨valid, budget, _, _⟩ => by rw [store, supply]; exact ⟨valid, budget⟩)
    (fun m => by rw [State.motionBounded, motion]; exact m)

theorem State.keeps_addBayEvent (s : State) (b : BayNo) (e : BayEvent) : s.Keeps (s.addBayEvent b e) :=
  State.keeps_of_blocks rfl rfl rfl rfl rfl rfl rfl rfl

theorem State.keeps_addCaseEvent (s : State) (e : CaseEvent) : s.Keeps (s.addCaseEvent e) :=
  State.keeps_of_blocks rfl rfl rfl rfl rfl rfl rfl rfl

theorem State.keeps_advanceTo (s : State) (t : Nat) : s.Keeps (s.advanceTo t) :=
  State.keeps_of_blocks rfl rfl rfl rfl rfl rfl rfl rfl

/-- Holders that keep the invariants, one after the other. -/
theorem State.keeps_inTurn {holders : List (State → State)} (h : ∀ f ∈ holders, ∀ s : State, s.Keeps (f s)) (s : State) :
    s.Keeps (s.inTurn holders) :=
  State.inTurn_induct (P := fun t => s.Keeps t) (fun f mem t ht => ht.trans (h f mem t)) (.refl s)

/-- An unordered event differs from its holders in turn in the link alone. -/
theorem State.keeps_inFreeOrder_of_inTurn {holders : List (State → State)} {s : State} (h : s.Keeps (s.inTurn holders)) :
    s.Keeps (s.inFreeOrder holders) := by
  have link : (s.inTurn holders).Keeps (s.inFreeOrder holders) := by
    unfold State.inFreeOrder
    exact State.keeps_of_blocks rfl rfl rfl rfl rfl rfl rfl rfl
  exact h.trans link

theorem State.keeps_inFreeOrder {holders : List (State → State)} (h : ∀ f ∈ holders, ∀ s : State, s.Keeps (f s))
    (s : State) : s.Keeps (s.inFreeOrder holders) :=
  State.keeps_inFreeOrder_of_inTurn (State.keeps_inTurn h s)

/-! ### Loads -/

/-- A written load-on-arrival flag: it is set in a NORMAL case only. -/
theorem State.keeps_setLoadOnArrival (s : State) (b : BayNo) {v : Bool} (normal : v = true → s.transit.mode = .normal) :
    s.Keeps (s.setLoadOnArrival b v) :=
  s.keeps_modBay ⟨rfl, rfl, rfl, rfl, id⟩ fun safe set => by
    rw [normal set] at safe
    exact nomatch safe

theorem State.keeps_clearLoadOnArrival (s : State) (b : BayNo) : s.Keeps (s.setLoadOnArrival b false) :=
  s.keeps_setLoadOnArrival b (nomatch ·)

theorem State.keeps_setIntent (s : State) (b : BayNo) (i : Intent) : s.Keeps (s.setIntent b i) :=
  s.keeps_modBay ⟨rfl, rfl, rfl, rfl, id⟩ fun _ set => set

/-- A SPUN bay starts its load in a NORMAL case (R58). -/
theorem State.keeps_startLoad (h : (s.bay b).state = .spun) (normal : s.transit.mode = .normal) :
    s.Keeps (s.startLoad b) :=
  ((State.Leaves.refl (by rw [h]; rfl)).turns_enter (st := .loading) rfl (fun here => nomatch here)
    (fun safe _ => by rw [normal] at safe; exact nomatch safe)).keeps

theorem State.keeps_loadSpun (h : (s.bay b).state = .spun) (normal : s.transit.mode = .normal) :
    s.Keeps (s.loadSpun b).2 := by
  unfold State.loadSpun
  split
  · exact s.keeps_clearLoadOnArrival b
  · split
    · exact .refl s
    · split
      · exact .refl s
      · exact State.keeps_startLoad h normal

theorem State.keeps_tryDeferredLoad (s : State) (b : BayNo) : s.Keeps (s.tryDeferredLoad b) := by
  unfold State.tryDeferredLoad
  split
  · rename_i flagged
    have ⟨spun, _⟩ : (s.bay b).state = .spun ∧ (s.bay b).loadOnArrival = true := by simpa using flagged
    split
    · exact (s.keeps_clearLoadOnArrival b).trans (State.keeps_addBayEvent _ _ _)
    · split
      · rename_i admitted
        have ⟨⟨normal, _⟩, _⟩ : (s.transit.mode = .normal ∧ s.motion.cls = .still) ∧ s.supply.cls ≠ .cut := by
          simpa using admitted
        exact State.keeps_startLoad spun normal
      · exact .refl s
  · exact .refl s

theorem State.keeps_tryDeferredLoads (s : State) : s.Keeps s.tryDeferredLoads := by
  refine State.keeps_inFreeOrder (fun f mem => ?_) s
  obtain ⟨b, -, rfl⟩ := List.mem_map.mp mem
  exact fun s => s.keeps_tryDeferredLoad b

/-! ### Spin-ups, spin-downs and winding tests -/

/-- A DIAG bay on the way out, its test aborted (R156). -/
theorem State.Leaves.of_abortedTest (h : (s.bay b).state = .diag) : s.Leaves b
    ((s.releaseGrant b).modBay b (fun r => { r with winding := .aborted, windingCurrent := none })) :=
  (State.Leaves.of_releaseGrant (.inr h)).modBay _ rfl rfl id

theorem State.keeps_abortTest (h : (s.bay b).state = .diag) : s.Keeps (s.abortTest b .stopped) :=
  (State.Leaves.of_abortedTest h).keeps_enterAfter _ rfl (by decide) (by decide) (by decide)

theorem State.keeps_cutTest (h : (s.bay b).state = .diag) : s.Keeps (s.cutTest b) := by
  have released := State.releaseClaim_of_diag h
  have only : s.OnlyBay b ((((s.releaseGrant b).modArbiter (fun a => { a with
      queue := a.queue ++ [{ bay := b, kind := .test, skip := 0 }] })).modBay b
      (fun r => { r with winding := .aborted, windingCurrent := none })).enterAfter .testDone b .queued) :=
    (((s.onlyBay_releaseGrant b).trans (State.onlyBay_modArbiter _ b _)).trans (State.onlyBay_modBay _ b _ rfl rfl)).trans
      (State.onlyBay_enterAfter _ _ b _)
  have turns := only.turns_queued (by simp) (State.enterAfter_outputsFollow _ _ _ _) .test (by rw [released]; simp)
    (by rw [released]; simp) (fun safe quiet => (quiet safe b).2.2.1 h)
  exact turns.keeps.trans (State.keeps_evaluate _)

/-- A spin-up failure (R44, R45). -/
theorem State.keeps_spinUpFailure (h : (s.bay b).state = .spinningUp) (c : BayFault) : s.Keeps (s.spinUpFailure c b) := by
  have leaves : s.Leaves b
      (((s.releaseGrant b).modBay b (fun r => { r with attempts := min 7 (r.attempts + 1) })).reportBay c b) :=
    ((State.Leaves.of_releaseGrant (.inl h)).modBay _ rfl rfl id).reportBay c
  unfold State.spinUpFailure
  dsimp only
  refine State.Keeps.trans ?_ (State.keeps_evaluate _)
  split
  · exact leaves.keeps_enter rfl (by decide) (by decide) (by decide)
  · split
    · rename_i hold
      exact leaves.keeps_holdWith _ (State.reportBay_pending_ne_zero _ _ hold)
    · exact leaves.keeps_spinDownWith _

/-- A bay comes to rest (R50). -/
theorem State.keeps_reachStopped (h : (s.bay b).state = .spinningDown) : s.Keeps (s.reachStopped b) := by
  have stopped : s.Keeps ((s.modBay b (fun r => { r with speed := some 0 })).enter b .stopped) :=
    ((State.Leaves.refl (by rw [h]; rfl)).modBay _ rfl rfl id).keeps_enter rfl (by decide) (by decide) (by decide)
  unfold State.reachStopped
  dsimp only
  split
  · rename_i respin
    have ⟨_, normal⟩ : (s.bay b).intent = .respin ∧ s.transit.mode = .normal := by simpa using respin
    refine (stopped.trans (State.keeps_joinQueue ?_ ?_ _)).trans (State.keeps_evaluate _)
    · simp [BayState.claimless]
    · simpa using normal
  · exact stopped

/-- The at-speed event (R47). -/
theorem State.keeps_reachSpeed (h : (s.bay b).state = .spinningUp) : s.Keeps (s.reachSpeed b) := by
  have spun : s.Keeps (((s.releaseGrant b).modBay b (fun r => { r with
      lastSpinUp := some (s.clock - r.grantTime).toNat })).enter b .spun) :=
    ((State.Leaves.of_releaseGrant (.inl h)).modBay _ rfl rfl id).keeps_enter rfl (by decide) (by decide) (by decide)
  exact (spun.trans (State.keeps_tryDeferredLoad _ b)).trans (State.keeps_evaluate _)

theorem State.keeps_countAtSpeed (h : (s.bay b).state = .spinningUp) (v : Nat) : s.Keeps (s.countAtSpeed b v) := by
  unfold State.countAtSpeed
  split
  · have counted : s.Keeps (s.modBay b (fun r => { r with atSpeed := r.atSpeed + 1 })) :=
      s.keeps_modBay ⟨rfl, rfl, rfl, rfl, id⟩ fun _ set => set
    dsimp only
    split
    · exact counted.trans (State.keeps_reachSpeed (by rw [State.bay_modBay_self]; exact h))
    · exact counted
  · exact s.keeps_modBay ⟨rfl, rfl, rfl, rfl, id⟩ fun _ set => set

/-- The test pulse ends (R155 to R157). -/
theorem State.keeps_endPulse (h : (s.bay b).state = .diag) (conversion : Nat) : s.Keeps (s.endPulse b conversion) := by
  have read (w : WindingResult) (c : Option Nat) : s.Leaves b
      ((s.releaseGrant b).modBay b (fun r => { r with winding := w, windingCurrent := c })) :=
    (State.Leaves.of_releaseGrant (.inr h)).modBay _ rfl rfl id
  unfold State.endPulse
  dsimp only
  refine State.Keeps.trans ?_ (State.keeps_evaluate _)
  split
  · exact (read _ _).keeps_enterAfter _ rfl (by decide) (by decide) (by decide)
  · split
    · rename_i hold
      refine ((((read _ _).reportBay .winding).modBay (fun r => { r with spindleOn := false }) rfl rfl id).turns_enterAfter _
        rfl (fun _ => ?_) (not_loading_of (by decide) (by decide))).keeps
      rw [State.bay_modBay_self]
      exact State.reportBay_pending_ne_zero _ _ hold
    · exact ((read _ _).reportBay .winding).keeps_enterAfter _ rfl (by decide) (by decide) (by decide)

end

end Sys2Proof.Machine
end

section
/-! PROOFS. Jolt records: what a mark and a close make of the newest record, and that every operation of the Motion Monitor
keeps its lists within their bounds (4.5, 4.6). -/

namespace Sys2Proof.Machine

/-! ### Lists from their last entry -/

theorem eq_nil_or_append_singleton {α : Type} (l : List α) : l = [] ∨ ∃ m a, l = m ++ [a] :=
  l.eq_nil_or_concat.imp_right fun ⟨m, a, h⟩ => ⟨m, a, h.trans List.concat_eq_append⟩

/-! ### Bay sets -/

@[simp] theorem getLsbD_bitAt (w k i : Nat) : (bitAt w k).getLsbD i = (decide (i < w) && decide (i = k)) := by
  simp only [bitAt, BitVec.getLsbD_shiftLeft, BitVec.getLsbD_one]
  grind

@[simp] theorem inSet_addToSet (set : BaySet) (b x : BayNo) : inSet (addToSet set b) x = (inSet set x || decide (x = b)) := by
  rw [inSet, addToSet, BitVec.getLsbD_or, getLsbD_bitAt]
  simp only [x.isLt, decide_true, Bool.true_and, inSet, Fin.ext_iff]

@[simp] theorem inSet_or (s t : BaySet) (x : BayNo) : inSet (s ||| t) x = (inSet s x || inSet t x) := by
  simp [inSet]

@[simp] theorem inSet_and (s t : BaySet) (x : BayNo) : inSet (s &&& t) x = (inSet s x && inSet t x) := by
  simp [inSet]

theorem inSet_zero (x : BayNo) : inSet 0 x = false := by simp [inSet]

/-- Bay sets with the same bays are the same. -/
theorem baySet_ext_iff {s t : BaySet} : s = t ↔ ∀ x, inSet s x = inSet t x :=
  ⟨fun h _ => h ▸ rfl, fun h => BitVec.eq_of_getLsbD_eq fun i hi => h ⟨i, hi⟩⟩

/-! ### The newest record -/

/-- The list of records has no record, or a newest one. -/
theorem modNewest_append (f : JoltRec → JoltRec) (l : List JoltRec) (j : JoltRec) : modNewest f (l ++ [j]) = l ++ [f j] := by
  induction l with
  | nil => rfl
  | cons x l ih =>
    cases l with
    | nil => rfl
    | cons y l => simpa [modNewest] using ih

@[simp] theorem length_modNewest (f : JoltRec → JoltRec) (l : List JoltRec) : (modNewest f l).length = l.length := by
  rcases eq_nil_or_append_singleton l with rfl | ⟨l, j, rfl⟩
  · rfl
  · simp [modNewest_append]

theorem modNewest_id (l : List JoltRec) : modNewest (fun j => j) l = l := by
  rcases eq_nil_or_append_singleton l with rfl | ⟨l, j, rfl⟩
  · rfl
  · rw [modNewest_append]

theorem modNewest_modNewest (f g : JoltRec → JoltRec) (l : List JoltRec) :
    modNewest f (modNewest g l) = modNewest (fun j => f (g j)) l := by
  rcases eq_nil_or_append_singleton l with rfl | ⟨l, j, rfl⟩
  · rfl
  · rw [modNewest_append, modNewest_append, modNewest_append]

/-- A change of the newest record leaves the older ones. -/
@[simp] theorem dropLast_modNewest (f : JoltRec → JoltRec) (l : List JoltRec) : (modNewest f l).dropLast = l.dropLast := by
  rcases eq_nil_or_append_singleton l with rfl | ⟨l, j, rfl⟩
  · rfl
  · simp [modNewest_append]

theorem of_mem_modNewest {f : JoltRec → JoltRec} {l : List JoltRec} {i : JoltRec} (h : i ∈ modNewest f l) :
    i ∈ l ∨ ∃ j ∈ l, i = f j := by
  rcases eq_nil_or_append_singleton l with rfl | ⟨l, j, rfl⟩
  · exact .inl h
  · rw [modNewest_append, List.mem_append, List.mem_singleton] at h
    exact h.imp (List.mem_append_left _) fun new => ⟨j, by simp, new⟩

/-- The record as the close at its last mark leaves it (R94). -/
def JoltRec.settled (clock : Word32) (j : JoltRec) : JoltRec :=
  if j.isOpen && j.complete then j.close clock else j

/-- The record as a mark leaves it (R93, R94). -/
def JoltRec.marked (clock : Word32) (k : JoltMark) (b : BayNo) (j : JoltRec) : JoltRec :=
  if j.isOpen && j.awaits b then (j.mark k b).settled clock else j

/-- A close settles the newest record, and leaves the rest of the monitor (R94). -/
theorem State.closeJolt_motion (s : State) :
    s.closeJolt.motion = { s.motion with jolts := modNewest (JoltRec.settled s.clock) s.motion.jolts } := by
  rcases records : eq_nil_or_append_singleton s.motion.jolts with none | ⟨l, j, some⟩
  · simp [State.closeJolt, State.newestJolt, none, modNewest]
    rw [← none]
  · rw [some, modNewest_append]
    simp only [State.closeJolt, State.newestJolt, some, List.getLast?_concat, JoltRec.settled]
    split
    · simp [some, modNewest_append]
    · rw [← some]

/-- A mark is put on the newest record (R93, R94). -/
theorem State.markJolt_motion (s : State) (k : JoltMark) (b : BayNo) :
    (s.markJolt k b).motion = { s.motion with jolts := modNewest (JoltRec.marked s.clock k b) s.motion.jolts } := by
  rcases eq_nil_or_append_singleton s.motion.jolts with none | ⟨l, j, some⟩
  · simp [State.markJolt, State.newestJolt, none, modNewest]
    rw [← none]
  · rw [some, modNewest_append]
    simp only [State.markJolt, State.newestJolt, some, JoltRec.marked, List.getLast?_concat]
    split
    · rw [State.closeJolt_motion]
      simp [some, modNewest_append]
      rfl
    · rw [← some]

/-! ### The marks fit -/

theorem JoltRec.marksFit_iff (j : JoltRec) :
    j.marksFit ↔ (∀ x, inSet (j.parked ||| j.late ||| j.pulled) x = true → inSet j.loaded x = true) ∧
      (∀ x, ¬ (inSet j.parked x = true ∧ inSet j.late x = true) ∧ ¬ (inSet j.parked x = true ∧ inSet j.pulled x = true) ∧
        ¬ (inSet j.late x = true ∧ inSet j.pulled x = true)) ∧
      (j.isOpen = true ↔ (j.parked ||| j.late ||| j.pulled) ≠ j.loaded) ∧ (j.isOpen = true ↔ j.duration = none) := by
  simp only [JoltRec.marksFit, baySet_ext_iff, inSet_and, inSet_zero, inSet_or]
  constructor
  · rintro ⟨within, pl, pp, lp, shut⟩
    refine ⟨fun x => ?_, fun x => ?_, shut⟩
    · have := within x; grind
    · have := pl x; have := pp x; have := lp x; grind
  · rintro ⟨within, apart, shut⟩
    refine ⟨fun x => ?_, fun x => ?_, fun x => ?_, fun x => ?_, shut⟩
    · have := within x; grind
    all_goals have := apart x; grind

/-- What fits of a record before its close: the marks lie within the loaded set and apart, and no duration is written. -/
structure JoltRec.OpenFit (j : JoltRec) : Prop where
  within : ∀ x, inSet (j.parked ||| j.late ||| j.pulled) x = true → inSet j.loaded x = true
  apart : ∀ x, ¬ (inSet j.parked x = true ∧ inSet j.late x = true) ∧ ¬ (inSet j.parked x = true ∧ inSet j.pulled x = true) ∧
    ¬ (inSet j.late x = true ∧ inSet j.pulled x = true)
  isOpen : j.isOpen = true
  duration : j.duration = none

/-- A record is complete when its marks are its loaded set. -/
theorem JoltRec.OpenFit.complete_iff {j : JoltRec} (h : j.OpenFit) :
    j.complete = true ↔ (j.parked ||| j.late ||| j.pulled) = j.loaded := by
  have within := h.within
  simp only [JoltRec.complete, beq_iff_eq, baySet_ext_iff, inSet_and]
  refine forall_congr' fun x => ?_
  have := within x
  grind

/-- A record that waits for its close fits once it is settled. -/
theorem JoltRec.OpenFit.settled {j : JoltRec} (h : j.OpenFit) (clock : Word32) : (j.settled clock).marksFit := by
  have complete := h.complete_iff
  unfold JoltRec.settled
  rw [h.isOpen, Bool.true_and]
  refine (JoltRec.marksFit_iff _).mpr ?_
  split
  · rename_i whole
    refine ⟨h.within, h.apart, ?_, ?_⟩
    · simpa [JoltRec.close] using complete.mp whole
    · simp [JoltRec.close]
  · rename_i whole
    refine ⟨h.within, h.apart, ?_, ?_⟩
    · simpa [h.isOpen] using mt complete.mpr whole
    · simp [h.isOpen, h.duration]

theorem JoltRec.marksFit.openFit {j : JoltRec} (h : j.marksFit) (isOpen : j.isOpen = true) : j.OpenFit := by
  obtain ⟨within, apart, -, duration⟩ := j.marksFit_iff.mp h
  exact ⟨within, apart, isOpen, duration.mp isOpen⟩

/-- A mark of a bay that the record awaits lies within the loaded set and in no other mark. -/
theorem JoltRec.OpenFit.mark {j : JoltRec} (h : j.OpenFit) {b : BayNo} (awaits : j.awaits b = true) (k : JoltMark) :
    (j.mark k b).OpenFit := by
  obtain ⟨within, apart, isOpen, duration⟩ := h
  simp only [JoltRec.awaits, Bool.and_eq_true, Bool.not_eq_true', inSet_or, Bool.or_eq_false_iff] at awaits
  obtain ⟨loaded, ⟨parked, late⟩, pulled⟩ := awaits
  cases k
  all_goals
    refine ⟨fun x mark => ?_, fun x => ?_, isOpen, duration⟩
    · have := within x
      simp only [JoltRec.mark, inSet_or, inSet_addToSet] at mark this ⊢
      grind
    · have := apart x
      simp only [JoltRec.mark, inSet_addToSet]
      grind

theorem JoltRec.marksFit.marked {j : JoltRec} (h : j.marksFit) (clock : Word32) (k : JoltMark) (b : BayNo) :
    (j.marked clock k b).marksFit := by
  unfold JoltRec.marked
  split
  · rename_i awaited
    have ⟨isOpen, awaits⟩ : j.isOpen = true ∧ j.awaits b = true := by simpa using awaited
    exact ((h.openFit isOpen).mark awaits k).settled clock
  · exact h

theorem JoltRec.marksFit.settled {j : JoltRec} (h : j.marksFit) (clock : Word32) : (j.settled clock).marksFit := by
  unfold JoltRec.settled
  split
  · rename_i shut
    have ⟨isOpen, complete⟩ : j.isOpen = true ∧ j.complete = true := by simpa using shut
    have settled := (h.openFit isOpen).settled clock
    rwa [JoltRec.settled, isOpen, complete] at settled
  · exact h

theorem JoltRec.marksFit.merge {j : JoltRec} (h : j.marksFit) (d : Nat) : (j.merge d).marksFit := h

/-! ### The bounds of the monitor -/

/-- The lists of the Motion Monitor stay within their bounds. -/
def Motion.bounded (m : Motion) : Prop :=
  m.jolts.length ≤ 8 ∧ (∀ j ∈ m.jolts, j.marksFit) ∧ (∀ j ∈ m.jolts.dropLast, j.isOpen = false) ∧ m.ring.length ≤ 64 ∧
    m.lastSamples.length ≤ 8

theorem State.motionBounded_iff (s : State) : s.motionBounded ↔ s.motion.bounded := .rfl

/-- A change of the newest record that leaves it fitting keeps the bounds. -/
theorem Motion.bounded.modNewest {m : Motion} (h : m.bounded) {f : JoltRec → JoltRec} (fits : ∀ j ∈ m.jolts, j.marksFit → (f j).marksFit) :
    ({ m with jolts := modNewest f m.jolts } : Motion).bounded := by
  obtain ⟨length, marks, shut, ring, samples⟩ := h
  refine ⟨by simpa using length, fun i mem => ?_, by simpa using shut, ring, samples⟩
  rcases of_mem_modNewest mem with old | ⟨j, here, rfl⟩
  · exact marks i old
  · exact fits j here (marks j here)

/-- A list that keeps its last entries is no longer than they are. -/
theorem length_pushKeeping {α : Type} (n : Nat) (l : List α) (a : α) : (pushKeeping n l a).length ≤ n := by
  simp [pushKeeping]
  omega

theorem pushKeeping_eq {α : Type} {n : Nat} (h : 0 < n) (l : List α) (a : α) :
    pushKeeping n l a = l.drop (l.length + 1 - n) ++ [a] := by
  rw [pushKeeping, List.drop_append_of_le_length (by omega)]

/-- A record opened after closed ones, and closed with its last mark, keeps the bounds (R90, R94, R95). -/
theorem Motion.bounded.push {m : Motion} (h : m.bounded) (shut : ∀ j ∈ m.jolts, j.isOpen = false) {j : JoltRec}
    (fits : j.marksFit) : ({ m with jolts := pushKeeping 8 m.jolts j } : Motion).bounded := by
  obtain ⟨-, marks, -, ring, samples⟩ := h
  refine ⟨length_pushKeeping _ _ _, fun i mem => ?_, fun i mem => ?_, ring, samples⟩
  · rw [pushKeeping_eq (by decide)] at mem
    rcases List.mem_append.mp mem with old | new
    · exact marks i (List.mem_of_mem_drop old)
    · rw [List.mem_singleton.mp new]; exact fits
  · rw [pushKeeping_eq (by decide), List.dropLast_concat] at mem
    exact shut i (List.mem_of_mem_drop mem)

/-- No record is open where the newest is not. -/
theorem Motion.bounded.shut {m : Motion} (h : m.bounded) (newest : ∀ j, m.jolts.getLast? = some j → j.isOpen = false) :
    ∀ j ∈ m.jolts, j.isOpen = false := by
  obtain ⟨-, -, shut, -, -⟩ := h
  intro j mem
  rcases eq_nil_or_append_singleton m.jolts with none | ⟨l, k, some⟩
  · simp [none] at mem
  · rw [some] at mem shut newest
    rcases List.mem_append.mp mem with old | new
    · exact shut j (by simpa using old)
    · rw [List.mem_singleton.mp new]
      exact newest k (by simp)

/-- A new record, settled, fits. -/
theorem JoltRec.openFit_fresh {j : JoltRec} (isOpen : j.isOpen = true) (duration : j.duration = none) (parked : j.parked = 0)
    (late : j.late = 0) (pulled : j.pulled = 0) : j.OpenFit :=
  ⟨by simp [inSet, parked, late, pulled], by simp [inSet, parked, late, pulled], isOpen, duration⟩

/-! ### The operations -/

theorem State.keeps_of_motion {s t : State} (bays : t.bays = s.bays) (arbiter : t.arbiter = s.arbiter)
    (scheduler : t.scheduler = s.scheduler) (motion : s.motionBounded → t.motionBounded) (supply : t.supply = s.supply)
    (transit : t.transit = s.transit) (faults : t.faults = s.faults) (store : t.store = s.store) : s.Keeps t :=
  (State.idle_of_bays bays (by rw [transit]; exact id) faults arbiter (by rw [scheduler]) (by rw [scheduler])).keeps
    (fun ⟨valid, budget, _, _⟩ => by rw [store, supply]; exact ⟨valid, budget⟩) motion

/-- A change of the Motion Monitor that keeps its bounds. -/
theorem State.keeps_modMotion (s : State) {f : Motion → Motion} (h : s.motion.bounded → (f s.motion).bounded) :
    s.Keeps (s.modMotion f) :=
  State.keeps_of_motion rfl rfl rfl h rfl rfl rfl rfl

theorem State.motionBounded_markJolt {s : State} (k : JoltMark) (b : BayNo) (h : s.motionBounded) :
    (s.markJolt k b).motionBounded := by
  rw [State.motionBounded_iff, State.markJolt_motion]
  exact Motion.bounded.modNewest h fun j _ fits => fits.marked _ k b

theorem State.motionBounded_closeJolt {s : State} (h : s.motionBounded) : s.closeJolt.motionBounded := by
  rw [State.motionBounded_iff, State.closeJolt_motion]
  exact Motion.bounded.modNewest h fun j _ fits => fits.settled _

theorem State.keeps_markJolt (s : State) (k : JoltMark) (b : BayNo) : s.Keeps (s.markJolt k b) :=
  State.keeps_of_motion (by simp) (by simp) (by simp) (State.motionBounded_markJolt k b) (by simp) (by simp) (by simp)
    (by simp)

end Sys2Proof.Machine
end

section
/-! PROOFS. Every operation of the Unload Scheduler and every sweep keeps the invariants (3.4 to 3.6, chapter 5), and so do
the events of heads, spindles and presence that use them. -/

namespace Sys2Proof.Machine

section

variable {b : BayNo} {s : State}

/-! ### Parks -/

/-- A bay that is to hold after its park has a fault pending (R69, log 15). -/
theorem BayRec.pending_of_afterPark_hold {r : BayRec} {mode : TransitMode} {on : Bool} (h : r.afterPark mode = .hold on) :
    r.pending ≠ 0 := by
  unfold BayRec.afterPark at h
  split at h
  · split at h <;> exact nomatch h
  · exact nomatch h
  · exact nomatch h
  · split at h
    · exact nomatch h
    · assumption

/-- A bay on the way out of UNLOADING leaves it for what follows its park (R69, R70). -/
theorem State.Leaves.keeps_leaveUnloading {x : State} (h : s.Leaves b x) : s.Keeps (x.leaveUnloading b) := by
  unfold State.leaveUnloading
  split
  · exact h.keeps_enterAfter _ rfl (by decide) (by decide) (by decide)
  · rename_i i _
    exact (h.modBay (fun r => { r with intent := i }) rfl rfl id).keeps_enterAfter _ rfl (by decide) (by decide) (by decide)
  · rename_i on hold
    refine ((h.modBay (fun r => { r with spindleOn := on }) rfl rfl id).turns_enterAfter (st := .held) _ rfl (fun _ => ?_)
      (not_loading_of (by decide) (by decide))).keeps
    rw [State.bay_modBay_self]
    exact BayRec.pending_of_afterPark_hold hold

theorem State.keeps_parkCore (h : (s.bay b).state = .unloading) : s.Keeps (s.parkCore b) := by
  have leaves : s.Leaves b s.lowerUnloading := by
    rw [← State.releaseClaim_of_unloading h]
    exact .of_releaseClaim s b
  exact leaves.keeps_leaveUnloading.trans (State.keeps_markJolt _ _ _)

/-! ### Unloads that start -/

/-- Bay `b` goes to UNLOADING from a state just before it, `x`, in which the claim of its old state is released (R65). -/
theorem State.OnlyBay.turns_unloading {x : State} (h : s.OnlyBay b x) (arbiter : x.arbiter = s.arbiter)
    (claims : s.queuesMatch → (s.releaseClaim b).arbiter = s.arbiter ∧
      x.scheduler.waiting = (s.releaseClaim b).scheduler.waiting ∧
      x.scheduler.unloading = (s.releaseClaim b).scheduler.unloading)
    (flag : (x.bay b).loadOnArrival = true → (s.bay b).loadOnArrival = true) :
    s.Turns b ((x.modScheduler (fun q => { q with unloading := q.unloading + 1 })).enter b .unloading) := by
  have only := (h.trans (x.onlyBay_modScheduler b (fun q => { q with unloading := q.unloading + 1 }))).trans
    (State.onlyBay_enter _ b .unloading)
  exact { only with
    outputs := fun _ => State.enter_outputsFollow _ _ _
    hold := by simp
    queue := fun q => by simp [(claims q).1, arbiter]
    waiting := fun q => by simpa using .of_eq (claims q).2.1
    held := fun q => by simp [(claims q).1, arbiter, BayRec.surge]
    grants := fun q => by simp [(claims q).1, arbiter, BayRec.holdsGrant]
    holder := fun q => by simp [(claims q).1, arbiter]
    unloading := fun q => by simp [(claims q).2.2]
    latched := by simp
    onlyDiag := by simp
    bounds := fun ⟨_, _, held, grants⟩ => by simpa [arbiter] using ⟨held, grants⟩
    quiet := fun safe quiet => by
      obtain ⟨-, -, -, -, -, clear⟩ := quiet safe b
      refine ⟨by simp, by simp, by simp, by simp, by simp, Bool.eq_false_iff.mpr fun set => ?_⟩
      rw [State.enter_bay_self] at set
      rw [flag (BayRec.loadOnArrival_of_enter set)] at clear
      exact nomatch clear }

theorem State.OnlyBay.keeps_startUnload {x : State} (h : s.OnlyBay b x) (arbiter : x.arbiter = s.arbiter)
    (claims : s.queuesMatch → (s.releaseClaim b).arbiter = s.arbiter ∧
      x.scheduler.waiting = (s.releaseClaim b).scheduler.waiting ∧
      x.scheduler.unloading = (s.releaseClaim b).scheduler.unloading)
    (flag : (x.bay b).loadOnArrival = true → (s.bay b).loadOnArrival = true) : s.Keeps (x.startUnload b) := by
  have entered := (h.turns_unloading arbiter claims flag).keeps
  unfold State.startUnload
  dsimp only
  split
  · exact entered.trans (State.keeps_parkCore (by simp))
  · exact entered

/-- A bay in a claimless state starts unloading at once (R66). -/
theorem State.keeps_startUnload (h : (s.bay b).state.claimless = true) : s.Keeps (s.startUnload b) :=
  (State.OnlyBay.refl b s).keeps_startUnload rfl
    (fun _ => by rw [State.releaseClaim_of_claimless h]; exact ⟨rfl, rfl, rfl⟩) id

/-- The head of the unload queue, and what is left of it (R62). -/
theorem Scheduler.waiting_of_popHead {q q' : Scheduler} {b : BayNo} (h : q.popHead = some (b, q')) :
    q.waiting = b :: q'.waiting ∧ q'.unloading = q.unloading ∧ q'.origin = q.origin ∧ q'.pointer = q.pointer := by
  unfold Scheduler.popHead at h
  split at h
  · rename_i c rest emergency
    cases h
    exact ⟨by simp [Scheduler.waiting, emergency], rfl, rfl, rfl⟩
  · rename_i emergency
    split at h
    · rename_i c rest ordinary
      cases h
      exact ⟨by simp [Scheduler.waiting, emergency, ordinary], rfl, rfl, rfl⟩
    · exact nomatch h

/-- The head of the unload queue is PARK_QUEUED, and the rest of the queue is the queue without it. -/
theorem State.queuesMatch.popHead (q : s.queuesMatch) {q' : Scheduler} (h : s.scheduler.popHead = some (b, q')) :
    (s.bay b).state = .parkQueued ∧ q'.waiting = s.scheduler.waiting.filter (· != b) := by
  obtain ⟨-, -, nodup, parked⟩ := s.queuesMatch_iff.mp q
  obtain ⟨waiting, -⟩ := Scheduler.waiting_of_popHead h
  rw [waiting] at nodup parked ⊢
  refine ⟨(parked b).mp List.mem_cons_self, ?_⟩
  have absent := (List.nodup_cons.mp nodup).1
  rw [List.filter_cons_of_neg (by simp)]
  refine (List.filter_eq_self.mpr fun x mem => ?_).symm
  rw [bne_iff_ne]
  rintro rfl
  exact absent mem

/-- A start pass starts the head of the queue (R64). -/
theorem State.keeps_popped {q' : Scheduler} (h : s.scheduler.popHead = some (b, q')) :
    s.Keeps ({ s with scheduler := q' }.startUnload b) := by
  refine State.OnlyBay.keeps_startUnload (.of_same (fun _ _ => rfl) rfl rfl rfl rfl rfl rfl rfl) rfl (fun q => ?_) id
  obtain ⟨state, waiting⟩ := q.popHead h
  refine ⟨by rw [State.releaseClaim_of_parkQueued state]; rfl, by rw [State.releaseClaim_waiting q]; exact waiting, ?_⟩
  rw [State.releaseClaim_of_parkQueued state]
  exact (Scheduler.waiting_of_popHead h).2.1

theorem State.keeps_startPass (s : State) : s.Keeps s.startPass :=
  State.startPass_induct (P := fun t => s.Keeps t) (fun _ _ _ pop h => h.trans (State.keeps_popped pop)) s (.refl s)

/-! ### Bays that join the unload queue -/

/-- Bay `b` goes to PARK_QUEUED, or stays there, with its entry added (R62, R66, R67). -/
theorem State.OnlyBay.turns_parkQueued {t : State} (h : s.OnlyBay b t) (state : (t.bay b).state = .parkQueued)
    (outputs : (s.bay b).outputsFollow → (t.bay b).outputsFollow) (arbiter : t.arbiter = (s.releaseClaim b).arbiter)
    (waiting : t.scheduler.waiting.Perm ((s.releaseClaim b).scheduler.waiting ++ [b]))
    (unloading : t.scheduler.unloading = (s.releaseClaim b).scheduler.unloading)
    (flag : (t.bay b).loadOnArrival = true → (s.bay b).loadOnArrival = true) : s.Turns b t := by
  obtain ⟨heldLe, grantsLe⟩ := s.releaseClaim_le b
  exact { h with
    outputs := outputs
    hold := by simp [state]
    queue := fun _ => by simp [arbiter, state]
    waiting := fun _ => by simpa [state] using waiting
    held := fun _ => by simp [arbiter, BayRec.surge, state]
    grants := fun _ => by simp [arbiter, BayRec.holdsGrant, state]
    holder := fun _ => by simp [arbiter, state]
    unloading := fun _ => by simp [unloading, state]
    latched := by simp [state]
    onlyDiag := by simp [state]
    bounds := fun ⟨_, _, held, grants⟩ => by rw [arbiter]; exact ⟨Nat.le_trans heldLe held, Nat.le_trans grantsLe grants⟩
    quiet := fun safe quiet => by
      obtain ⟨-, -, -, -, -, clear⟩ := quiet safe b
      refine ⟨by simp [state], by simp [state], by simp [state], by simp [state], by simp [state],
        Bool.eq_false_iff.mpr fun set => ?_⟩
      rw [flag set] at clear
      exact nomatch clear }

/-- An entry at the end of the emergency section is an entry of the queue. -/
theorem perm_emergency_append (e o : List BayNo) (b : BayNo) : (e ++ [b] ++ o).Perm (e ++ o ++ [b]) := by
  rw [List.append_assoc, List.append_assoc]
  exact List.perm_append_comm.append_left e

theorem State.keeps_ordinaryUnload (h : (s.bay b).state.claimless = true) : s.Keeps (s.ordinaryUnload b) := by
  unfold State.ordinaryUnload
  split
  · exact State.keeps_startUnload h
  · refine (State.OnlyBay.turns_parkQueued ((s.onlyBay_modScheduler b _).trans (State.onlyBay_enter _ b _)) (by simp)
      (fun _ => State.enter_outputsFollow _ _ _) ?_ ?_ ?_ ?_).keeps.trans (State.keeps_startPass _)
    · rw [State.releaseClaim_of_claimless h]; simp
    · rw [State.releaseClaim_of_claimless h]
      simp [Scheduler.waiting]
    · rw [State.releaseClaim_of_claimless h]; simp
    · intro set
      rw [State.enter_bay_self] at set
      exact BayRec.loadOnArrival_of_enter set

/-- A LOADING or LOADED bay is placed at the end of the emergency section (R67). -/
theorem State.keeps_placed (h : (s.bay b).state.claimless = true) :
    s.Keeps ((s.modScheduler (fun q => { q with emergency := q.emergency ++ [b] })).enter b .parkQueued) := by
  refine (State.OnlyBay.turns_parkQueued ((s.onlyBay_modScheduler b _).trans (State.onlyBay_enter _ b _)) (by simp)
    (fun _ => State.enter_outputsFollow _ _ _) ?_ ?_ ?_ ?_).keeps
  · rw [State.releaseClaim_of_claimless h]; simp
  · rw [State.releaseClaim_of_claimless h]
    simpa [Scheduler.waiting] using perm_emergency_append s.scheduler.emergency s.scheduler.ordinary b
  · rw [State.releaseClaim_of_claimless h]; simp
  · intro set
    rw [State.enter_bay_self] at set
    exact BayRec.loadOnArrival_of_enter set

theorem State.keeps_emergencyPlacement (s : State) (b : BayNo) : s.Keeps (s.emergencyPlacement b) := by
  unfold State.emergencyPlacement
  split
  case _ loading => exact State.keeps_placed (by rw [loading]; rfl)
  case _ loaded => exact State.keeps_placed (by rw [loaded]; rfl)
  case _ parked =>
    split
    · exact .refl s
    · have dropped : s.OnlyBay b (s.dropUnload b) := .of_same (fun _ _ => rfl) rfl rfl rfl rfl rfl rfl rfl
      refine (State.OnlyBay.turns_parkQueued (dropped.trans (State.onlyBay_modScheduler _ b _)) parked id ?_ ?_ ?_ id).keeps
      · rw [State.releaseClaim_of_parkQueued parked]; rfl
      · rw [State.releaseClaim_of_parkQueued parked]
        exact perm_emergency_append _ _ b
      · rw [State.releaseClaim_of_parkQueued parked]; rfl
  all_goals exact .refl s

/-! ### Sweeps -/

theorem State.keeps_sweepIntent (s : State) (k : SweepKind) (b : BayNo) : s.Keeps (s.sweepIntent k b) := by
  unfold State.sweepIntent
  split
  · exact s.keeps_modBay ⟨rfl, rfl, rfl, rfl, id⟩ fun _ set => set
  · exact .refl s

theorem State.keeps_sweepBay (s : State) (k : SweepKind) (b : BayNo) : s.Keeps (s.sweepBay k b) := by
  unfold State.sweepBay
  split
  iterate 3 exact (s.keeps_emergencyPlacement b).trans (State.keeps_sweepIntent _ k b)
  · exact s.keeps_sweepIntent k b
  · rename_i spun
    split
    · exact State.keeps_spinDownWith (by rw [spun]; rfl) _
    · exact .refl s
  · rename_i spinning
    split
    · exact State.keeps_abortSpinUp spinning _
    · exact .refl s
  all_goals exact .refl s

/-- The pointer and the origin stand beside the invariants. -/
theorem State.keeps_turnPointer (s : State) (pointer : Scheduler → BayNo) (origin : Scheduler → BayNo) :
    s.Keeps (s.modScheduler (fun q => { q with pointer := pointer q, origin := origin q })) := by
  have idle : s.Idle (s.modScheduler (fun q => { q with pointer := pointer q, origin := origin q })) :=
    State.idle_of_bays rfl id rfl rfl rfl rfl
  exact idle.keeps (fun ⟨valid, budget, _, _⟩ => ⟨valid, budget⟩) id

theorem State.keeps_sweep (s : State) (k : SweepKind) : s.Keeps (s.sweep k) := by
  have walk : ∀ (l : List BayNo) (t : State), t.Keeps (l.foldl (fun t b => t.sweepBay k b) t) := by
    intro l
    induction l with
    | nil => exact fun t => .refl t
    | cons b l ih => exact fun t => (t.keeps_sweepBay k b).trans (ih _)
  unfold State.sweep
  dsimp only
  exact (((s.keeps_turnPointer _ Scheduler.origin).trans (walk _ _)).trans (State.keeps_turnPointer _ Scheduler.pointer _)).trans
    (State.keeps_startPass _)

theorem State.keeps_sweep? (s : State) (k : Option SweepKind) : s.Keeps (s.sweep? k) := by
  unfold State.sweep?
  split
  · exact s.keeps_sweep _
  · exact .refl s

end

end Sys2Proof.Machine
end

section
/-! PROOFS. The events of bays, of the monitors and of the store keep the invariants, and so does what the requests do at
their bays. -/

namespace Sys2Proof.Machine

section

variable {b : BayNo} {s : State}

/-! ### Spindles -/

/-- A change of the record beside the invariants that leaves the load-on-arrival flag. -/
theorem State.keeps_idleBay (s : State) {f : BayRec → BayRec} (idle : (s.bay b).Idle (f (s.bay b)))
    (flag : (f (s.bay b)).loadOnArrival = (s.bay b).loadOnArrival) : s.Keeps (s.modBay b f) :=
  s.keeps_modBay idle fun _ set => flag ▸ set

theorem State.keeps_disarm (s : State) (b : BayNo) : s.Keeps (s.modBay b BayRec.disarm) :=
  s.keeps_idleBay ⟨rfl, rfl, rfl, rfl, id⟩ rfl

theorem State.keeps_speedLoss (s : State) (b : BayNo) : s.Keeps (s.speedLoss b) := by
  have reported : s.Keeps ((s.modBay b BayRec.disarm).reportBay .speedLoss b) :=
    (s.keeps_disarm b).trans (State.keeps_reportBay _ _ b)
  have placed : ∀ i : BayRec → Intent, s.Keeps ((((s.modBay b BayRec.disarm).reportBay .speedLoss b).modBay b
      (fun r => { r with intent := i r })).emergencyPlacement b) := fun i =>
    (reported.trans (State.keeps_idleBay _ ⟨rfl, rfl, rfl, rfl, id⟩ rfl)).trans (State.keeps_emergencyPlacement _ b)
  unfold State.speedLoss
  dsimp only
  split
  · rename_i spun
    have leaves : s.Leaves b ((s.modBay b BayRec.disarm).reportBay .speedLoss b) :=
      ((State.Leaves.refl (by rw [spun]; rfl)).modBay BayRec.disarm rfl rfl id).reportBay .speedLoss
    split
    · rename_i hold
      exact leaves.keeps_holdWith false (State.reportBay_pending_ne_zero _ b hold)
    · exact leaves.keeps_spinDownWith _
  iterate 3
    exact (placed _).trans (State.keeps_startPass _)
  · exact reported.trans (State.keeps_idleBay _ ⟨rfl, rfl, rfl, rfl, id⟩ rfl)
  all_goals exact reported

theorem State.keeps_countSpeedLoss (s : State) (b : BayNo) (v : Nat) : s.Keeps (s.countSpeedLoss b v) := by
  unfold State.countSpeedLoss
  split
  · exact s.keeps_idleBay ⟨rfl, rfl, rfl, rfl, id⟩ rfl
  · have counted : s.Keeps (s.modBay b (fun r => { r with outside := r.outside + 1 })) :=
      s.keeps_idleBay ⟨rfl, rfl, rfl, rfl, id⟩ rfl
    dsimp only
    split
    · exact counted.trans (State.keeps_speedLoss _ b)
    · exact counted

theorem State.keeps_onMeasurement (s : State) (m : Option Nat) {f : Nat → State → State} (h : ∀ v, s.Keeps (f v s)) :
    s.Keeps (s.onMeasurement m f) := by
  cases m with
  | none => exact .refl s
  | some v => exact h v

theorem State.keeps_stampPulse (s : State) (b : BayNo) (m : Option Nat) : s.Keeps (s.stampPulse b m) :=
  s.keeps_idleBay ⟨rfl, rfl, rfl, rfl, id⟩ rfl

@[simp] theorem State.stampPulse_state (s : State) (b : BayNo) (m : Option Nat) :
    ((s.stampPulse b m).bay b).state = (s.bay b).state := by
  rw [State.stampPulse, State.bay_modBay_self]

/-- Timers written beside the test pulse stand beside the invariants. -/
theorem State.keeps_timers (s : State) (b : BayNo) {t : BayRec → Timers} (h : ∀ r : BayRec, (t r).testPulse = r.timers.testPulse) :
    s.Keeps (s.modBay b (fun r => { r with timers := t r })) :=
  s.keeps_idleBay ⟨rfl, rfl, rfl, rfl, BayRec.outputsFollow_of_same rfl rfl rfl rfl rfl (h _)⟩ rfl

theorem State.keeps_pulse (s : State) (b : BayNo) : s.Keeps (s.pulse b) := by
  have stamped := s.keeps_stampPulse b (s.measure b)
  unfold State.pulse
  dsimp only
  split
  · rename_i spinning
    have stopped (t : State) : t.Keeps (t.modBay b (fun r => { r with timers := { r.timers with tachFirst := none } })) :=
      t.keeps_timers b fun _ => rfl
    refine (stamped.trans (stopped _)).trans (State.keeps_onMeasurement _ _ fun v => ?_)
    exact State.keeps_countAtSpeed (by rw [State.bay_modBay_self]; simpa using spinning) v
  · rename_i diag
    exact (stamped.trans (State.keeps_abortTest (by simpa using diag))).trans (State.keeps_evaluate _)
  · exact stamped.trans (State.keeps_timers _ b fun _ => rfl)
  iterate 5
    split
    · have restarted (t : State) : t.Keeps (t.modBay b (fun r => { r with
          timers := { r.timers with gap := some (s.now + speedLossGapLength) } })) := t.keeps_timers b fun _ => rfl
      refine (stamped.trans (restarted _)).trans (State.keeps_onMeasurement _ _ fun v => ?_)
      exact State.keeps_countSpeedLoss _ b v
    · exact stamped
  iterate 4 exact stamped
  · exact .refl s

/-! ### Heads -/

theorem State.keeps_clearPrk (s : State) (b : BayNo) : s.Keeps (s.clearPrk b) := by
  unfold State.clearPrk
  dsimp only
  split
  · exact s.keeps_idleBay ⟨rfl, rfl, rfl, rfl, BayRec.outputsFollow_of_same rfl rfl rfl rfl rfl rfl⟩ rfl
  · exact s.keeps_idleBay ⟨rfl, rfl, rfl, rfl, id⟩ rfl

theorem State.keeps_parkBay (h : (s.bay b).state = .unloading) : s.Keeps (s.parkBay b) :=
  (State.keeps_parkCore h).trans (State.keeps_startPass _)

theorem State.keeps_assertPrk (s : State) (b : BayNo) : s.Keeps (s.assertPrk b) := by
  have asserted : s.Keeps (s.modBay b (fun r => { r with prk := true })) :=
    s.keeps_idleBay ⟨rfl, rfl, rfl, rfl, id⟩ rfl
  unfold State.assertPrk
  dsimp only
  split
  · rename_i unloading
    exact asserted.trans (State.keeps_parkBay (by rw [State.bay_modBay_self]; exact unloading))
  · exact asserted.trans (State.keeps_timers _ b fun _ => rfl)
  all_goals exact asserted

/-- The settle period ends: a LOADING bay is LOADED (R61). -/
theorem State.keeps_loaded (h : (s.bay b).state = .loading) : s.Keeps (s.enter b .loaded) :=
  ((State.Leaves.refl (by rw [h]; rfl)).turns_enter (st := .loaded) rfl (fun here => nomatch here)
    (fun safe quiet => absurd h (quiet safe b).2.2.2.1)).keeps

theorem State.keeps_loadLate (h : (s.bay b).state = .loading) : s.Keeps (s.loadLate b) := by
  refine ((s.keeps_reportBay .loadLate b).trans (State.keeps_setIntent _ b _)).trans (State.keeps_ordinaryUnload ?_)
  rw [State.setIntent, State.bay_modBay_self, State.reportBay_bay_self]
  dsimp only
  rw [h]
  rfl

/-- The unload deadline ends (R71). -/
theorem State.keeps_unloadLate (h : (s.bay b).state = .unloading) : s.Keeps (s.unloadLate b) := by
  have marked : s.Leaves b (s.lowerUnloading.markJolt .late b) := by
    have released := State.releaseClaim_of_unloading h
    have only := (State.Leaves.of_releaseClaim s b).toOnlyBay
    rw [released] at only
    refine { State.OnlyBay.trans only ?_ with arbiter := ?_, scheduler := ?_, flag := ?_ }
    · exact {
        others := fun x _ => State.markJolt_bay _ _ _ _
        within := by rw [State.markJolt_bay]; exact id
        attn := (State.keeps_markJolt _ _ _).attn
        casePending := by rw [State.markJolt_faults]
        caseSticky := by rw [State.markJolt_faults]
        motion := (State.keeps_markJolt _ _ _).motion
        supply := State.markJolt_supply _ _ _
        mode := by rw [State.markJolt_transit]
        store := State.markJolt_store _ _ _ }
    · rw [released, State.markJolt_arbiter]
    · rw [released, State.markJolt_scheduler]
    · rw [State.markJolt_bay]; exact id
  unfold State.unloadLate
  dsimp only
  refine State.Keeps.trans ?_ (State.keeps_startPass _)
  split
  · rename_i hold
    exact (marked.reportBay .unloadLate).keeps_holdWith false (State.reportBay_pending_ne_zero _ b (by
      simpa [State.answersHold] using hold))
  · exact (marked.reportBay .unloadLate).keeps_enter rfl (by decide) (by decide) (by decide)

/-! ### Presence -/

theorem State.keeps_insert (h : (s.bay b).state = .vacant) : s.Keeps (s.insert b) :=
  ((State.Leaves.refl (by rw [h]; rfl)).modBay (fun r => { r with presence := true, lastPulse := none }) rfl rfl id).keeps_enter
    rfl (by decide) (by decide) (by decide)

/-- The bay goes to VACANT after its claim was released (R9, R10). -/
theorem State.keeps_vacate (s : State) (b : BayNo) : s.Keeps ((s.releaseClaim b).vacate b) := by
  have gone : s.Leaves b ((s.releaseClaim b).modBay b (fun r => { r with presence := false, speed := none, lastPulse := none })) :=
    (State.Leaves.of_releaseClaim s b).modBay _ rfl rfl id
  unfold State.vacate
  dsimp only
  split
  · exact (gone.modBay (fun r => { r with winding := .aborted, windingCurrent := none }) rfl rfl id).keeps_enterAfter _ rfl
      (by decide) (by decide) (by decide)
  · exact gone.keeps_enter rfl (by decide) (by decide) (by decide)

theorem State.keeps_leaveBay (s : State) (st : BayState) (b : BayNo) : s.Keeps ((s.releaseClaim b).leaveBay st b) := by
  unfold State.leaveBay
  split
  · exact (s.keeps_vacate b).trans (State.keeps_reportBay _ _ b)
  · exact s.keeps_vacate b

theorem State.keeps_passAfterRemoval (s : State) (st : BayState) : s.Keeps (s.passAfterRemoval st) := by
  unfold State.passAfterRemoval
  split
  · exact s.keeps_startPass
  · exact .refl s

theorem State.keeps_evaluateAfterRemoval (s : State) (st : BayState) : s.Keeps (s.evaluateAfterRemoval st) := by
  unfold State.evaluateAfterRemoval
  split
  iterate 3 exact s.keeps_evaluate
  all_goals exact .refl s

theorem State.keeps_remove (s : State) (b : BayNo) : s.Keeps (s.remove b) := by
  have turned : s.Keeps ((s.releaseClaim b).inTurn
      [State.leaveBay (s.bay b).state b, State.markJolt .pulled b, State.passAfterRemoval (s.bay b).state]) :=
    ((s.keeps_leaveBay _ b).trans (State.keeps_markJolt _ _ _)).trans (State.keeps_passAfterRemoval _ _)
  have free : s.Keeps ((s.releaseClaim b).inFreeOrder
      [State.leaveBay (s.bay b).state b, State.markJolt .pulled b, State.passAfterRemoval (s.bay b).state]) := by
    refine turned.trans ?_
    unfold State.inFreeOrder
    exact State.keeps_of_blocks rfl rfl rfl rfl rfl rfl rfl rfl
  exact free.trans (State.keeps_evaluateAfterRemoval _ _)

theorem State.keeps_toMark (s : State) (period earliest : Nat) : s.Keeps (s.toMark period earliest) :=
  State.keeps_of_blocks rfl rfl rfl rfl rfl rfl rfl rfl

theorem State.keeps_presDeasserted (s : State) (b : BayNo) : s.Keeps (s.presDeasserted b) := by
  unfold State.presDeasserted
  dsimp only
  refine (s.keeps_toMark readingPeriod 0).trans ?_
  split
  · exact State.keeps_timers _ b fun _ => rfl
  · exact State.keeps_remove _ b

end

/-! ### Reports and the monitors of the case -/

theorem State.keeps_reportCase (s : State) (c : CaseFault) : s.Keeps (s.reportCase c) := by
  have bays (x : BayNo) : (s.reportCase c).bay x = s.bay x := by
    unfold State.reportCase; dsimp only; split <;> rfl
  have stays : s.Stays (s.reportCase c) :=
    ⟨fun x => by rw [bays], fun x => by rw [bays], by simp, by simp, by simp, by simp, by simp, by simp,
      fun _ x set => by rwa [bays] at set, by simp⟩
  refine stays.keeps (fun ⟨sets, case⟩ => ⟨fun x => by rw [bays]; exact sets x, ?_⟩) (fun shows => ?_)
    (fun o x => by rw [bays]; exact o x) (fun ⟨valid, budget, _, _⟩ => by simpa using ⟨valid, budget⟩)
    (fun m => by rw [State.motionBounded, State.reportCase_motion]; exact m)
  · unfold State.reportCase
    dsimp only
    split
    · exact and_or_of_and _ case
    · exact and_or_or_of_and _ case
  · unfold State.reportCase
    dsimp only
    split
    · exact shows
    · exact State.attnShowsPending_of_recomputed rfl

/-- The counters stand beside the invariants. -/
theorem State.keeps_modBays (s : State) {f : BayRec → BayRec} (idle : ∀ r : BayRec, r.Idle (f r))
    (flag : ∀ r : BayRec, (f r).loadOnArrival = r.loadOnArrival) : s.Keeps (s.modBays f) :=
  State.Idle.keeps ⟨fun x => by rw [State.bay_modBays]; exact idle _,
    fun _ x set => by rwa [State.bay_modBays, flag] at set, id, rfl, rfl, rfl, rfl, rfl, rfl, rfl⟩
    (fun ⟨valid, budget, _, _⟩ => ⟨valid, budget⟩) id

/-- The exposure of a jolt stands beside what the invariants read. -/
theorem BayRec.exposeToJolt_idle (r : BayRec) : r.Idle r.exposeToJolt ∧ r.exposeToJolt.loadOnArrival = r.loadOnArrival := by
  unfold BayRec.exposeToJolt
  split
  all_goals exact ⟨⟨rfl, rfl, rfl, rfl, id⟩, rfl⟩

theorem BayRec.exposeToRolling_idle (r : BayRec) :
    r.Idle r.exposeToRolling ∧ r.exposeToRolling.loadOnArrival = r.loadOnArrival := by
  unfold BayRec.exposeToRolling
  split
  all_goals exact ⟨⟨rfl, rfl, rfl, rfl, id⟩, rfl⟩

theorem State.keeps_exposeToRolling (s : State) : s.Keeps s.exposeToRolling :=
  s.keeps_modBays (fun r => r.exposeToRolling_idle.1) fun r => r.exposeToRolling_idle.2

theorem State.keeps_exposeToJolt (s : State) : s.Keeps (s.modBays BayRec.exposeToJolt) :=
  s.keeps_modBays (fun r => r.exposeToJolt_idle.1) fun r => r.exposeToJolt_idle.2

/-! ### The Motion Monitor -/

theorem State.keeps_changeClass (s : State) (new : MotionClass) : s.Keeps (s.changeClass new) := by
  have evaluated : s.Keeps ((s.modMotion (fun m => { m with
      cls := new, dwellStart := if new = .unsettled then s.now else m.dwellStart })).addCaseEvent .motionChanged).evaluate :=
    ((s.keeps_modMotion fun m => m).trans (State.keeps_addCaseEvent _ _)).trans (State.keeps_evaluate _)
  unfold State.changeClass
  dsimp only
  split
  · exact evaluated.trans (State.keeps_tryDeferredLoads _)
  · exact evaluated

theorem State.keeps_settleClass (s : State) (d : Nat) : s.Keeps (s.settleClass d).1 := by
  unfold State.settleClass
  dsimp only
  split
  · exact .refl s
  · split
    · exact (s.keeps_changeClass _).trans (State.keeps_exposeToRolling _)
    · exact s.keeps_changeClass _

/-- The record that a jolt opens (R90). -/
def State.freshJolt (s : State) (before : MotionClass) (d : Nat) : JoltRec where
  isOpen := true
  time := s.clock
  peak := d
  count := 1
  classBefore := before
  loaded := s.loadedSet
  parked := 0
  late := 0
  pulled := 0
  duration := none

/-- A change of the newest record reaches the record just pushed. -/
theorem modNewest_pushKeeping (f : JoltRec → JoltRec) {n : Nat} (h : 0 < n) (l : List JoltRec) (j : JoltRec) :
    modNewest f (pushKeeping n l j) = pushKeeping n l (f j) := by
  rw [pushKeeping_eq h, pushKeeping_eq h, modNewest_append]

/-- What a record that opens leaves of the monitor (R90, R94, R95). -/
theorem State.openJolt_motion (s : State) (before : MotionClass) (d : Nat) :
    (s.openJolt before d).motion = { s.motion with
      jolts := pushKeeping 8 s.motion.jolts ((s.freshJolt before d).settled s.clock)
      opened := s.motion.opened + 1 } := by
  unfold State.openJolt
  dsimp only
  rw [State.closeJolt_motion, ← modNewest_pushKeeping (JoltRec.settled s.clock) (by decide)]
  split
  · rfl
  · simp [State.clock]
    rfl

theorem State.keeps_openJolt {s : State} (newest : ∀ j, s.newestJolt = some j → j.isOpen = false) (before : MotionClass)
    (d : Nat) : s.Keeps (s.openJolt before d) := by
  have pushed : (s.modMotion (fun m => { m with
      jolts := pushKeeping 8 m.jolts (s.freshJolt before d), opened := m.opened + 1 })).Keeps (s.openJolt before d) := by
    unfold State.openJolt
    dsimp only
    refine ((State.Keeps.trans ?_ (State.keeps_addCaseEvent _ _))).trans
      (State.keeps_of_motion (by simp) (by simp) (by simp) State.motionBounded_closeJolt (by simp) (by simp) (by simp) (by simp))
    split
    · exact State.keeps_exposeToJolt _
    · exact (State.keeps_exposeToJolt _).trans (State.keeps_reportCase _ _)
  refine { pushed with motion := fun m => ?_ }
  rw [State.motionBounded_iff, State.openJolt_motion]
  have m : s.motion.bounded := m
  exact m.push (m.shut newest) ((JoltRec.openFit_fresh rfl rfl rfl rfl rfl).settled _)

theorem State.keeps_testJolt (s : State) (before : MotionClass) (d : Nat) : s.Keeps (s.testJolt before d).1 := by
  have stamped (t : State) : t.Keeps (t.modMotion (fun m => { m with lastJolt := some s.now })) :=
    t.keeps_modMotion fun m => m
  unfold State.testJolt
  split
  · dsimp only
    split
    · have merged : s.Keeps (s.modMotion (fun m => { m with jolts := modNewest (JoltRec.merge d) m.jolts })) :=
        s.keeps_modMotion fun m => m.modNewest fun j _ fits => fits.merge d
      exact merged.trans (stamped _)
    · rename_i apart
      refine (State.keeps_openJolt (fun j newest => ?_) before d).trans (stamped _)
      simp only [State.joltMerges, newest, Bool.or_eq_true, not_or, Bool.not_eq_true] at apart
      exact apart.1
  · exact .refl s

theorem State.keeps_enterRing (s : State) (a : Accel) (d : Nat) : s.Keeps (s.enterRing a d) :=
  s.keeps_modMotion fun ⟨length, marks, shut, _, _⟩ =>
    ⟨length, marks, shut, length_pushKeeping _ _ _, length_pushKeeping _ _ _⟩

theorem State.keeps_restartDwell (s : State) (d : Nat) : s.Keeps (s.restartDwell d) := by
  unfold State.restartDwell
  split
  · exact s.keeps_modMotion fun m => m
  · exact .refl s

theorem State.keeps_validSample (s : State) (a : Accel) : s.Keeps (s.validSample a) := by
  unfold State.validSample
  split
  · have emptied : s.Keeps (s.modMotion (fun m => { m with lost := false, missing := 0, ring := [], lastSamples := [] })) :=
      s.keeps_modMotion fun ⟨length, marks, shut, _, _⟩ => ⟨length, marks, shut, Nat.zero_le _, Nat.zero_le _⟩
    exact (emptied.trans (State.keeps_changeClass _ _)).trans (State.keeps_enterRing _ _ _)
  · dsimp only
    exact (((((s.keeps_enterRing _ _).trans (State.keeps_restartDwell _ _)).trans (State.keeps_settleClass _ _)).trans
      (State.keeps_testJolt _ _ _)).trans (State.keeps_sweep? _ _)).trans (State.keeps_sweep? _ _)

theorem State.keeps_loseSensor (s : State) : s.Keeps s.loseSensor := by
  have flagged : s.Keeps (s.modMotion (fun m => { m with lost := true })) := s.keeps_modMotion fun m => m
  unfold State.loseSensor
  dsimp only
  refine State.Keeps.trans (State.Keeps.trans ?_ (State.keeps_reportCase _ _)) (State.keeps_sweep _ _)
  split
  · exact flagged
  · exact (flagged.trans (State.keeps_changeClass _ _)).trans (State.keeps_exposeToRolling _)

theorem State.keeps_missingSample (s : State) : s.Keeps s.missingSample := by
  have counted : s.Keeps (s.modMotion (fun m => { m with missing := m.missing + 1 })) := s.keeps_modMotion fun m => m
  unfold State.missingSample
  dsimp only
  split
  · exact counted.trans (State.keeps_loseSensor _)
  · exact counted

theorem State.keeps_toSample (s : State) : s.Keeps s.toSample :=
  State.keeps_of_motion rfl rfl rfl (fun m => m) rfl rfl rfl rfl

theorem State.keeps_missingSamples (n : Nat) (s : State) : s.Keeps (State.missingSamples n s) := by
  induction n generalizing s with
  | zero => exact .refl s
  | succ n ih => exact (s.keeps_toSample.trans (State.keeps_missingSample _)).trans (ih _)

/-! ### The Supply Monitor -/

/-- The budget of a class is at most 63 su (R33). -/
theorem CaseSettings.budgetOf_le {c : CaseSettings} (h : c.valid = true) (cls : SupplyClass) : c.budgetOf cls ≤ 63 := by
  simp only [CaseSettings.valid, within, Bool.and_eq_true, decide_eq_true_eq] at h
  cases cls <;> simp only [CaseSettings.budgetOf] <;> omega

theorem WorkingSettings.case_valid {w : WorkingSettings} (h : w.valid = true) : w.case.valid = true := by
  rw [WorkingSettings.valid, Bool.and_eq_true] at h
  exact h.1

/-- A change of the Supply Monitor that leaves the budget. -/
theorem State.keeps_modSupply (s : State) {f : Supply → Supply} (h : (f s.supply).budget = s.supply.budget) :
    s.Keeps (s.modSupply f) := by
  have idle : s.Idle (s.modSupply f) := State.idle_of_bays rfl id rfl rfl rfl rfl
  exact idle.keeps (fun ⟨valid, budget, _, _⟩ => ⟨valid, h ▸ budget⟩) id

theorem State.keeps_deriveBudget (s : State) : s.Keeps s.deriveBudget := by
  have idle : s.Idle s.deriveBudget := State.idle_of_bays rfl id rfl rfl rfl rfl
  exact idle.keeps (fun ⟨valid, _, _, _⟩ => ⟨valid, CaseSettings.budgetOf_le (WorkingSettings.case_valid valid) _⟩) id

theorem State.keeps_cutBay (s : State) (b : BayNo) : s.Keeps (s.cutBay b) := by
  unfold State.cutBay
  split
  · rename_i spinning; exact State.keeps_abortSpinUp spinning _
  · rename_i diag; exact State.keeps_cutTest diag
  all_goals exact .refl s

theorem State.keeps_cutActions (s : State) : s.Keeps s.cutActions := by
  refine State.keeps_inFreeOrder (fun f mem t => ?_) s
  simp only [List.mem_append, List.mem_map, List.mem_singleton] at mem
  obtain ⟨b, -, rfl⟩ | rfl := mem
  · exact t.keeps_cutBay b
  · exact t.keeps_sweep _

theorem State.keeps_enterClass (s : State) (new : SupplyClass) : s.Keeps (s.enterClass new) := by
  cases new with
  | normal => exact .refl s
  | low => exact s.keeps_reportCase _
  | cut => exact (s.keeps_reportCase _).trans (State.keeps_cutActions _)

theorem State.keeps_changeSupply (s : State) (new : SupplyClass) : s.Keeps (s.changeSupply new) := by
  have evaluated : s.Keeps (((((s.modSupply (fun m => { m with cls := new })).deriveBudget).addCaseEvent
      .supplyChanged).enterClass new).evaluate) :=
    ((((s.keeps_modSupply rfl).trans (State.keeps_deriveBudget _)).trans (State.keeps_addCaseEvent _ _)).trans
      (State.keeps_enterClass _ _)).trans (State.keeps_evaluate _)
  unfold State.changeSupply
  dsimp only
  split
  · exact evaluated.trans (State.keeps_tryDeferredLoads _)
  · exact evaluated

theorem State.keeps_takeReading (s : State) (mv : Nat) : s.Keeps (s.takeReading mv) := by
  have read : s.Keeps (s.modSupply (fun m => { m with
      lastReading := some (min 15000 mv), nextReading := some (s.now + readingPeriod) })) := s.keeps_modSupply rfl
  unfold State.takeReading
  dsimp only
  split
  · exact read.trans (State.keeps_changeSupply _ _)
  · split
    · exact read
    · exact read.trans (State.keeps_changeSupply _ _)

end Sys2Proof.Machine
end

section
/-! PROOFS. What a grant evaluation and a start pass do at each bay: an evaluation changes QUEUED bays alone, each as its
grant would, and a start pass PARK_QUEUED bays alone, each as its start would (R34, R39, R40, R64, R65, R154). -/

namespace Sys2Proof.Machine

/-! ### Grants -/

/-- The record that a grant leaves, under the effective profile (R40, R154). -/
def BayRec.granted (k : EntryKind) (p : Profile) (now : Nat) (r : BayRec) : BayRec :=
  match k with
  | .spin => BayRec.enter .spinningUp p now { r with latched := some p, grantTime := caseClock now }
  | .test => r.enter .diag (r.latched.getD p) now

@[simp] theorem BayRec.granted_state (k : EntryKind) (p : Profile) (now : Nat) (r : BayRec) :
    (r.granted k p now).state = match k with | .spin => .spinningUp | .test => .diag := by
  cases k <;> rfl

theorem BayRec.granted_state_ne (k : EntryKind) (p : Profile) (now : Nat) (r : BayRec) {st : BayState}
    (spin : st ≠ .spinningUp) (test : st ≠ .diag) : (r.granted k p now).state ≠ st := by
  cases k
  · exact spin.symm
  · exact test.symm

theorem State.grant_bay_self (s : State) (e : SpinEntry) :
    (s.grant e).bay e.bay = (s.bay e.bay).granted e.kind (s.effective e.bay) s.now := by
  unfold State.grant
  split
  · rename_i spin
    simp only [State.grantSpin, spin, State.enter_bay_self, State.bay_modBay_self, BayRec.granted, State.governing]
    rfl
  · rename_i test
    simp only [State.grantTest, test, State.enter_bay_self, BayRec.granted, State.governing]
    rfl

theorem State.grant_bay_ne (s : State) (e : SpinEntry) {x : BayNo} (h : x ≠ e.bay) : (s.grant e).bay x = s.bay x := by
  unfold State.grant
  split
  · exact (State.enter_bay_ne _ _ h).trans (State.bay_modBay_ne _ _ h)
  · exact State.enter_bay_ne _ _ h

theorem State.grant_queue (s : State) (e : SpinEntry) :
    (s.grant e).arbiter.queue = s.arbiter.queue.filter (fun f => f.bay != e.bay) := by
  unfold State.grant
  split
  · simp [State.grantSpin, State.takeGrant, State.dropEntry]
  · simp [State.grantTest, State.takeGrant, State.dropEntry]

@[simp] theorem State.grant_held (s : State) (e : SpinEntry) : (s.grant e).arbiter.held = s.arbiter.held + s.cost e := by
  unfold State.grant
  split
  · simp [State.grantSpin, State.takeGrant, State.dropEntry]
  · simp [State.grantTest, State.takeGrant, State.dropEntry]

@[simp] theorem State.grant_grants (s : State) (e : SpinEntry) : (s.grant e).arbiter.grants = s.arbiter.grants + 1 := by
  unfold State.grant
  split
  · simp [State.grantSpin, State.takeGrant, State.dropEntry]
  · simp [State.grantTest, State.takeGrant, State.dropEntry]

@[simp] theorem State.grant_pointer (s : State) (e : SpinEntry) : (s.grant e).arbiter.pointer = e.bay := by
  unfold State.grant
  split
  · simp [State.grantSpin, State.takeGrant, State.dropEntry]
  · simp [State.grantTest, State.takeGrant, State.dropEntry]

theorem State.grant_converter (s : State) (e : SpinEntry) : (s.grant e).arbiter.converter =
    match e.kind with
    | .spin => s.arbiter.converter
    | .test => { holder := some e.bay, offsetDue := some (s.now + offsetLength), offset := none } := by
  unfold State.grant
  split
  · rename_i spin; simp [State.grantSpin, State.takeGrant, State.dropEntry, spin]
  · rename_i test; simp [State.grantTest, test]

/-- A grant raises no event (R2). -/
@[simp] theorem State.grant_link (s : State) (e : SpinEntry) : (s.grant e).link = s.link := by
  unfold State.grant
  split <;> rfl

/-! ### Entries -/

theorem State.entryKind_eq_some {s : State} (nodup : s.arbiter.bays.Nodup) {b : BayNo} {k : EntryKind} :
    s.entryKind b = some k ↔ (b, k) ∈ s.arbiter.entries := by
  simp only [State.entryKind, State.entryOf, Option.map_eq_some_iff, Arbiter.entries, List.mem_map, Prod.mk.injEq]
  constructor
  · rintro ⟨e, found, rfl⟩
    exact ⟨e, List.mem_of_find?_eq_some found, by simpa using List.find?_some found, rfl⟩
  · rintro ⟨e, mem, rfl, rfl⟩
    refine ⟨e, ?_, rfl⟩
    rw [List.find?_eq_some_iff_append]
    obtain ⟨before, after, queue⟩ := List.append_of_mem mem
    refine ⟨by simp, before, after, queue, fun x earlier => ?_⟩
    rw [Arbiter.bays, queue, List.map_append, List.map_cons] at nodup
    have apart := (List.nodup_append.mp nodup).2.2 x.bay (List.mem_map_of_mem earlier) e.bay List.mem_cons_self
    simpa using apart

theorem State.queuesMatch.nodup {s : State} (q : s.queuesMatch) : s.arbiter.bays.Nodup := (s.queuesMatch_iff.mp q).1

theorem State.queuesMatch.entry_iff {s : State} (q : s.queuesMatch) (b : BayNo) :
    (∃ k, s.entryKind b = some k) ↔ (s.bay b).state = .queued := by
  obtain ⟨nodup, queued, -, -⟩ := s.queuesMatch_iff.mp q
  rw [← queued b, Arbiter.entries_bays]
  simp only [State.entryKind_eq_some nodup, List.mem_map, Prod.exists, exists_and_right, exists_eq_right]

/-- A bay that is not QUEUED has no entry. -/
theorem State.queuesMatch.entryOf {s : State} (q : s.queuesMatch) {b : BayNo} (h : (s.bay b).state ≠ .queued) :
    s.entryOf b = none := by
  cases entry : s.entryOf b with
  | none => rfl
  | some e => exact absurd ((q.entry_iff b).mp ⟨e.kind, by rw [State.entryKind, entry]; rfl⟩) h

/-! ### Evaluations -/

/-- What an evaluation leaves: each bay stands, or it was QUEUED and is as its grant leaves it; no entry joins. -/
structure State.Admits (s t : State) : Prop where
  bays : ∀ x, t.bay x = s.bay x ∨
    ∃ k, (x, k) ∈ s.arbiter.entries ∧ t.bay x = (s.bay x).granted k (s.effective x) s.now
  entries : t.arbiter.entries.Sublist s.arbiter.entries

/-- The effective profile is read from the store (R5). -/
theorem State.effective_of_store {s t : State} (h : t.store = s.store) (b : BayNo) : t.effective b = s.effective b :=
  congrArg (fun u : Store => if u.working.case.commonProfile then u.working.profiles[0]
    else u.working.profiles[u.working.selections[b]]) h

theorem State.admits_carryOut {s t : State} (h : s.Admits t) (q : t.queuesMatch) (store : t.store = s.store)
    (now : t.now = s.now) {p : PassResult} (pass : t.pass = some p) : s.Admits (t.carryOut p) := by
  have grants := (State.grants_of_pass pass).raised p
  have bay (x : BayNo) : (t.raised p).bay x = t.bay x := by rw [State.raised_eq]; rfl
  have entries := t.raised_entries p
  have queued : (t.bay p.granted.bay).state = .queued := (State.grants_of_pass pass).queued q
  rw [State.carryOut_eq]
  refine ⟨fun x => ?_, ?_⟩
  · by_cases here : x = p.granted.bay
    · subst here
      have same : t.bay p.granted.bay = s.bay p.granted.bay := by
        rcases h.bays p.granted.bay with same | ⟨k, -, granted⟩
        · exact same
        · exact absurd (granted ▸ queued) (BayRec.granted_state_ne k _ _ _ (by decide) (by decide))
      refine .inr ⟨p.granted.kind, h.entries.subset (entries ▸ grants.entry), ?_⟩
      rw [State.grant_bay_self, bay, same, State.effective_of_store (s := s) (by rw [State.raised_eq]; exact store)]
      rw [State.raised_eq]
      dsimp only
      rw [now]
    · rw [State.grant_bay_ne _ _ here, bay]
      exact h.bays x
  · refine List.Sublist.trans ?_ (entries ▸ h.entries)
    rw [Arbiter.entries, State.grant_queue]
    exact List.filter_sublist.map _

/-- What an evaluation leaves of the bays and of the queue (R34, R39). -/
theorem State.admits_evaluate {s : State} (q : s.queuesMatch) : s.Admits s.evaluate := by
  have holds : s.evaluate.queuesMatch ∧ s.Admits s.evaluate ∧ s.evaluate.store = s.store ∧ s.evaluate.now = s.now :=
    State.evaluate_induct (P := fun t => t.queuesMatch ∧ s.Admits t ∧ t.store = s.store ∧ t.now = s.now)
      (fun t p pass ⟨q, admits, store, now⟩ => ⟨(State.keeps_carryOut pass).queues q,
        State.admits_carryOut admits q store now pass, by simpa using store, by simpa using now⟩)
      s ⟨q, ⟨fun _ => .inl rfl, List.Sublist.refl _⟩, rfl, rfl⟩
  exact holds.2.1

/-- An evaluation leaves every bay that is not QUEUED. -/
theorem State.evaluate_bay {s : State} (q : s.queuesMatch) {x : BayNo} (h : (s.bay x).state ≠ .queued) :
    s.evaluate.bay x = s.bay x := by
  rcases (State.admits_evaluate q).bays x with same | ⟨k, mem, -⟩
  · exact same
  · exact absurd ((q.entry_iff x).mp ⟨k, (State.entryKind_eq_some q.nodup).mpr mem⟩) h

/-- What an evaluation makes of a QUEUED bay: it waits on with its entry, or it has its grant. -/
theorem State.evaluate_queued {s : State} (q : s.queuesMatch) {x : BayNo} {k : EntryKind} (h : s.entryKind x = some k) :
    (s.evaluate.bay x = s.bay x ∧ s.evaluate.entryKind x = some k) ∨
      s.evaluate.bay x = (s.bay x).granted k (s.effective x) s.now := by
  have admits := State.admits_evaluate q
  have after : s.evaluate.queuesMatch := s.keeps_evaluate.queues q
  rcases admits.bays x with same | ⟨j, mem, granted⟩
  · refine .inl ⟨same, ?_⟩
    have queued : (s.evaluate.bay x).state = .queued := same ▸ (q.entry_iff x).mp ⟨k, h⟩
    obtain ⟨j, entry⟩ := (after.entry_iff x).mpr queued
    have before := admits.entries.subset ((State.entryKind_eq_some after.nodup).mp entry)
    rw [entry, ← h, (State.entryKind_eq_some q.nodup).mpr before]
  · rw [(State.entryKind_eq_some q.nodup).mpr mem] at h
    cases h
    exact .inr granted

/-! ### Evaluations end -/

theorem State.pass_of_empty {s : State} (h : s.arbiter.queue = []) : s.pass = none := by
  have none : s.inModeOrder (s.arbiter.queue.filter s.eligible) = [] := by
    rw [h]
    exact List.perm_nil.mp (s.inModeOrder_perm [])
  unfold State.pass
  split
  · rfl
  · rw [none]

theorem State.carryOut_length {s : State} {p : PassResult} (h : s.pass = some p) :
    (s.carryOut p).arbiter.queue.length < s.arbiter.queue.length := by
  have grants := (State.grants_of_pass h).raised p
  have length : (s.raised p).arbiter.queue.length = s.arbiter.queue.length := by
    have entries := congrArg List.length (s.raised_entries p)
    simpa [Arbiter.entries] using entries
  rw [State.carryOut_eq, State.grant_queue, ← length]
  obtain ⟨e, mem, entry⟩ := List.mem_map.mp grants.entry
  exact List.length_filter_lt_length_iff_exists.mpr ⟨e, mem, by simp [(Prod.mk.inj entry).1]⟩

theorem State.passes_pass {n : Nat} {s : State} (h : s.arbiter.queue.length ≤ n) : (State.passes n s).pass = none := by
  induction n generalizing s with
  | zero => exact State.pass_of_empty (List.length_eq_zero_iff.mp (Nat.le_zero.mp h))
  | succ n ih =>
    unfold State.passes
    split
    · assumption
    · rename_i p pass
      exact ih (by have := State.carryOut_length pass; omega)

/-- After an evaluation no pass grants (R34). -/
theorem State.evaluate_pass (s : State) : s.evaluate.pass = none := State.passes_pass (Nat.le_refl _)

theorem State.passes_of_pass_none {s : State} (h : s.pass = none) (n : Nat) : State.passes n s = s := by
  cases n with
  | zero => rfl
  | succ n => unfold State.passes; rw [h]

theorem State.evaluate_of_pass_none {s : State} (h : s.pass = none) : s.evaluate = s := State.passes_of_pass_none h _

theorem State.evaluate_of_empty {s : State} (h : s.arbiter.queue = []) : s.evaluate = s :=
  State.evaluate_of_pass_none (State.pass_of_empty h)

/-- More passes than the queue has entries are no more than that many. -/
theorem State.passes_of_length_le {n m : Nat} {s : State} (h : s.arbiter.queue.length ≤ n) (le : n ≤ m) :
    State.passes m s = State.passes n s := by
  induction n generalizing m s with
  | zero => exact State.passes_of_pass_none (State.pass_of_empty (List.length_eq_zero_iff.mp (Nat.le_zero.mp h))) m
  | succ n ih =>
    obtain ⟨m, rfl⟩ : ∃ k, m = k + 1 := ⟨m - 1, by omega⟩
    unfold State.passes
    split
    · rfl
    · rename_i p pass
      have := State.carryOut_length pass
      exact ih (by omega) (by omega)

/-- An evaluation goes on after a pass as an evaluation of what the pass leaves (R34). -/
theorem State.evaluate_of_pass {s : State} {p : PassResult} (h : s.pass = some p) :
    s.evaluate = (s.carryOut p).evaluate := by
  have shorter := State.carryOut_length h
  obtain ⟨n, length⟩ : ∃ n, s.arbiter.queue.length = n + 1 := ⟨s.arbiter.queue.length - 1, by omega⟩
  unfold State.evaluate
  rw [length]
  conv => lhs; unfold State.passes
  rw [h]
  exact State.passes_of_length_le (Nat.le_refl _) (by omega)

/-- What a pass reads. -/
theorem State.pass_congr {s t : State} (arbiter : t.arbiter = s.arbiter) (store : t.store = s.store)
    (budget : t.supply.budget = s.supply.budget) (cls : t.motion.cls = s.motion.cls) (mode : t.transit.mode = s.transit.mode)
    (diag : ∀ x, (t.bay x).state = .diag ↔ (s.bay x).state = .diag) : t.pass = s.pass := by
  have settings : t.settings = s.settings := by rw [State.settings, store, State.settings]
  have someDiag : t.someDiag = s.someDiag := by
    rw [Bool.eq_iff_iff, State.someDiag, State.someDiag, State.bays_any_iff, State.bays_any_iff]
    simp only [beq_iff_eq, diag]
  have eligible : t.eligible = s.eligible := by
    funext e
    simp only [State.eligible, State.motionAdmitsSpinUp, cls, settings, someDiag]
  have cost : t.cost = s.cost := by
    funext e
    simp only [State.cost, State.effective_of_store store]
  have fits : t.fits = s.fits := by
    funext e
    simp only [State.fits, cost, arbiter, budget]
  have order (es : List SpinEntry) : t.inModeOrder es = s.inModeOrder es := by
    simp only [State.inModeOrder, settings, arbiter, State.effective_of_store store]
  simp only [State.pass, arbiter, settings, mode, eligible, fits, order]

end Sys2Proof.Machine
end

section
/-! PROOFS. What a park, a start and a start pass leave: the bay that parks or starts, the marks of the jolt records, and
the queue (R62, R64, R65, R69, R93). -/

namespace Sys2Proof.Machine

/-! ### Marks -/

/-- A record as marks and its close leave it (R93, R94). -/
structure JoltRec.Marked (j k : JoltRec) : Prop where
  time : k.time = j.time
  peak : k.peak = j.peak
  count : k.count = j.count
  classBefore : k.classBefore = j.classBefore
  loaded : k.loaded = j.loaded
  isOpen : k.isOpen = true → j.isOpen = true
  parked : ∀ x, inSet j.parked x = true → inSet k.parked x = true
  late : ∀ x, inSet j.late x = true → inSet k.late x = true
  pulled : ∀ x, inSet j.pulled x = true → inSet k.pulled x = true

theorem JoltRec.Marked.refl (j : JoltRec) : j.Marked j :=
  ⟨rfl, rfl, rfl, rfl, rfl, id, fun _ => id, fun _ => id, fun _ => id⟩

theorem JoltRec.Marked.trans {j k l : JoltRec} (h : j.Marked k) (g : k.Marked l) : j.Marked l where
  time := g.time.trans h.time
  peak := g.peak.trans h.peak
  count := g.count.trans h.count
  classBefore := g.classBefore.trans h.classBefore
  loaded := g.loaded.trans h.loaded
  isOpen := h.isOpen ∘ g.isOpen
  parked x := g.parked x ∘ h.parked x
  late x := g.late x ∘ h.late x
  pulled x := g.pulled x ∘ h.pulled x

theorem JoltRec.marked_settled (j : JoltRec) (clock : Word32) : j.Marked (j.settled clock) := by
  unfold JoltRec.settled
  split
  · exact ⟨rfl, rfl, rfl, rfl, rfl, (nomatch ·), fun _ => id, fun _ => id, fun _ => id⟩
  · exact .refl j

theorem JoltRec.marked_mark (j : JoltRec) (k : JoltMark) (b : BayNo) : j.Marked (j.mark k b) := by
  have grows (set : BaySet) (x : BayNo) (h : inSet set x = true) : inSet (addToSet set b) x = true := by simp [h]
  cases k
  · exact ⟨rfl, rfl, rfl, rfl, rfl, id, grows _, fun _ => id, fun _ => id⟩
  · exact ⟨rfl, rfl, rfl, rfl, rfl, id, fun _ => id, grows _, fun _ => id⟩
  · exact ⟨rfl, rfl, rfl, rfl, rfl, id, fun _ => id, fun _ => id, grows _⟩

theorem JoltRec.marked_marked (j : JoltRec) (clock : Word32) (k : JoltMark) (b : BayNo) : j.Marked (j.marked clock k b) := by
  unfold JoltRec.marked
  split
  · exact (j.marked_mark k b).trans (JoltRec.marked_settled _ _)
  · exact .refl j

/-- The Motion Monitor stands but for marks on its newest record. -/
def State.Marks (s t : State) : Prop :=
  ∃ f : JoltRec → JoltRec, (∀ j : JoltRec, j.Marked (f j)) ∧ t.motion = { s.motion with jolts := modNewest f s.motion.jolts }

theorem State.Marks.of_eq {s t : State} (h : t.motion = s.motion) : s.Marks t :=
  ⟨fun j => j, .refl, by rw [modNewest_id]; exact h⟩

theorem State.Marks.trans {s t u : State} (h : s.Marks t) (g : t.Marks u) : s.Marks u := by
  obtain ⟨f, marked, motion⟩ := h
  obtain ⟨f', marked', motion'⟩ := g
  refine ⟨fun j => f' (f j), fun j => (marked j).trans (marked' _), ?_⟩
  rw [motion', motion, modNewest_modNewest]

theorem State.marks_markJolt (s : State) (k : JoltMark) (b : BayNo) : s.Marks (s.markJolt k b) :=
  ⟨_, fun j => j.marked_marked s.clock k b, s.markJolt_motion k b⟩

/-- Marks leave all but the records. -/
theorem State.Marks.cls {s t : State} (h : s.Marks t) : t.motion.cls = s.motion.cls := by
  obtain ⟨f, -, motion⟩ := h
  rw [motion]

theorem State.Marks.newest {s t : State} (h : s.Marks t) {j : JoltRec} (newest : s.newestJolt = some j) :
    ∃ k, t.newestJolt = some k ∧ j.Marked k := by
  obtain ⟨f, marked, motion⟩ := h
  obtain ⟨l, records⟩ := List.getLast?_eq_some_iff.mp newest
  refine ⟨f j, ?_, marked j⟩
  rw [State.newestJolt, motion]
  dsimp only
  rw [records, modNewest_append, List.getLast?_concat]

/-- A record that awaits a bay has its mark after it (R93). -/
theorem JoltRec.marked_of_awaits {j : JoltRec} (isOpen : j.isOpen = true) {b : BayNo} (awaits : j.awaits b = true)
    (clock : Word32) (k : JoltMark) : (j.mark k b).Marked (j.marked clock k b) := by
  rw [JoltRec.marked, isOpen, awaits]
  exact JoltRec.marked_settled _ _

theorem State.newest_markJolt {s : State} {j : JoltRec} (newest : s.newestJolt = some j) (isOpen : j.isOpen = true)
    {b : BayNo} (awaits : j.awaits b = true) (k : JoltMark) :
    ∃ j', (s.markJolt k b).newestJolt = some j' ∧ (j.mark k b).Marked j' := by
  obtain ⟨l, records⟩ := List.getLast?_eq_some_iff.mp newest
  refine ⟨_, ?_, JoltRec.marked_of_awaits isOpen awaits s.clock k⟩
  rw [State.newestJolt, State.markJolt_motion]
  dsimp only
  rw [records, modNewest_append, List.getLast?_concat]

/-! ### Parks and starts -/

/-- The record that a park leaves, under the profile that governs the bay (R69, R70). -/
def BayRec.parked (mode : TransitMode) (p : Profile) (now : Nat) (r : BayRec) : BayRec :=
  match r.afterPark mode with
  | .spun => r.enter .spun p now
  | .spinDown i => BayRec.enter .spinningDown p now { r with intent := i }
  | .hold on => BayRec.enter .held p now { r with spindleOn := on }

/-- The record that a start leaves: UNLOADING, or parked with PRK already asserted (R65). -/
def BayRec.unloadStarted (mode : TransitMode) (p : Profile) (now : Nat) (r : BayRec) : BayRec :=
  if r.prk then (r.enter .unloading p now).parked mode p now else r.enter .unloading p now

theorem State.governing_modBay (s : State) (b : BayNo) {f : BayRec → BayRec} (h : (f (s.bay b)).latched = (s.bay b).latched) :
    (s.modBay b f).governing b = s.governing b := by
  rw [State.governing, State.bay_modBay_self, h]
  rfl

theorem State.leaveUnloading_bay_self (s : State) (b : BayNo) :
    (s.leaveUnloading b).bay b = (s.bay b).parked s.transit.mode (s.governing b) s.now := by
  rw [State.leaveUnloading, BayRec.parked]
  cases after : (s.bay b).afterPark s.transit.mode with
  | spun => exact State.enterAfter_bay_self _ _ _ _
  | spinDown i =>
    dsimp only
    rw [State.enterAfter_bay_self, State.setIntent, State.bay_modBay_self, State.governing_modBay s b rfl]
    rfl
  | hold on =>
    dsimp only
    rw [State.enterAfter_bay_self, State.bay_modBay_self, State.governing_modBay s b rfl]
    rfl

theorem State.leaveUnloading_bay_ne (s : State) {b x : BayNo} (h : x ≠ b) : (s.leaveUnloading b).bay x = s.bay x := by
  unfold State.leaveUnloading
  split
  · exact State.enterAfter_bay_ne _ _ _ h
  · exact (State.enterAfter_bay_ne _ _ _ h).trans (State.bay_modBay_ne _ _ h)
  · exact (State.enterAfter_bay_ne _ _ _ h).trans (State.bay_modBay_ne _ _ h)

theorem State.parkCore_bay_self (s : State) (b : BayNo) :
    (s.parkCore b).bay b = (s.bay b).parked s.transit.mode (s.governing b) s.now := by
  rw [State.parkCore, State.markJolt_bay, State.leaveUnloading_bay_self]
  rfl

theorem State.parkCore_bay_ne (s : State) {b x : BayNo} (h : x ≠ b) : (s.parkCore b).bay x = s.bay x := by
  rw [State.parkCore, State.markJolt_bay, State.leaveUnloading_bay_ne _ h]
  rfl

@[simp] theorem State.parkCore_scheduler (s : State) (b : BayNo) :
    (s.parkCore b).scheduler = { s.scheduler with unloading := s.scheduler.unloading - 1 } := by
  rw [State.parkCore, State.markJolt_scheduler, State.leaveUnloading_scheduler]
  rfl

theorem State.marks_parkCore (s : State) (b : BayNo) : s.Marks (s.parkCore b) :=
  State.Marks.trans (.of_eq (by rw [State.leaveUnloading_motion]; rfl)) (State.marks_markJolt _ _ b)

/-- The state in which a start finds the bay UNLOADING. -/
theorem State.startUnload_eq (s : State) (b : BayNo) :
    s.startUnload b =
      let entered := (s.modScheduler (fun q => { q with unloading := q.unloading + 1 })).enter b .unloading
      if (s.bay b).prk then entered.parkCore b else entered := by
  unfold State.startUnload
  simp

theorem State.startUnload_bay_self (s : State) (b : BayNo) :
    (s.startUnload b).bay b = (s.bay b).unloadStarted s.transit.mode (s.governing b) s.now := by
  rw [State.startUnload_eq, BayRec.unloadStarted]
  dsimp only
  split
  · rw [State.parkCore_bay_self, State.enter_bay_self, State.enter_transit, State.enter_now]
    congr 1
    rw [State.governing, State.enter_bay_self]
    rfl
  · rw [State.enter_bay_self]
    rfl

theorem State.startUnload_bay_ne (s : State) {b x : BayNo} (h : x ≠ b) : (s.startUnload b).bay x = s.bay x := by
  rw [State.startUnload_eq]
  dsimp only
  split
  · exact (State.parkCore_bay_ne _ h).trans (State.enter_bay_ne _ _ h)
  · exact State.enter_bay_ne _ _ h

theorem State.startUnload_scheduler (s : State) (b : BayNo) :
    (s.startUnload b).scheduler =
      if (s.bay b).prk then s.scheduler else { s.scheduler with unloading := s.scheduler.unloading + 1 } := by
  rw [State.startUnload_eq]
  dsimp only
  split
  · rw [State.parkCore_scheduler, State.enter_scheduler]
    simp
  · rw [State.enter_scheduler]
    rfl

theorem State.marks_startUnload (s : State) (b : BayNo) : s.Marks (s.startUnload b) := by
  rw [State.startUnload_eq]
  dsimp only
  split
  · exact State.Marks.trans (.of_eq (by simp)) (State.marks_parkCore _ b)
  · exact .of_eq (by simp)

theorem BayRec.parked_state (mode : TransitMode) (p : Profile) (now : Nat) (r : BayRec) :
    (r.parked mode p now).state = match r.afterPark mode with
      | .spun => .spun
      | .spinDown _ => .spinningDown
      | .hold _ => .held := by
  unfold BayRec.parked
  split <;> simp

/-- A start leaves the bay UNLOADING, or out of the loaded condition. -/
theorem BayRec.unloadStarted_state (mode : TransitMode) (p : Profile) (now : Nat) (r : BayRec) :
    (r.unloadStarted mode p now).state = .unloading ∨ (r.unloadStarted mode p now).state = .spun ∨
      (r.unloadStarted mode p now).state = .spinningDown ∨ (r.unloadStarted mode p now).state = .held := by
  unfold BayRec.unloadStarted
  split
  · rw [BayRec.parked_state]
    split <;> simp
  · exact .inl rfl

/-! ### Start passes -/

/-- What a start pass leaves: each bay stands, or it waited and is as its start leaves it; the queue is a rest of what it
was. -/
structure State.Starts (s t : State) : Prop where
  bays : ∀ x, t.bay x = s.bay x ∨
    x ∈ s.scheduler.waiting ∧ t.bay x = (s.bay x).unloadStarted s.transit.mode (s.governing x) s.now
  waiting : t.scheduler.waiting <:+ s.scheduler.waiting
  origin : t.scheduler.origin = s.scheduler.origin
  pointer : t.scheduler.pointer = s.scheduler.pointer

theorem State.governing_congr {s t : State} (store : t.store = s.store) {b : BayNo} (bay : t.bay b = s.bay b) :
    t.governing b = s.governing b := by
  rw [State.governing, State.governing, bay, State.effective_of_store store]

theorem State.starts_popped {s t : State} (h : s.Starts t) (q : t.queuesMatch) (store : t.store = s.store) (now : t.now = s.now)
    (transit : t.transit = s.transit) {b : BayNo} {rest : Scheduler} (pop : t.scheduler.popHead = some (b, rest)) :
    s.Starts ({ t with scheduler := rest }.startUnload b) := by
  obtain ⟨waiting, -, origin, pointer⟩ := Scheduler.waiting_of_popHead pop
  obtain ⟨parked, -⟩ := q.popHead pop
  have scheduler : ({ t with scheduler := rest }.startUnload b).scheduler.waiting = rest.waiting ∧
      ({ t with scheduler := rest }.startUnload b).scheduler.origin = rest.origin ∧
      ({ t with scheduler := rest }.startUnload b).scheduler.pointer = rest.pointer := by
    rw [State.startUnload_scheduler]
    split <;> exact ⟨rfl, rfl, rfl⟩
  have member : b ∈ t.scheduler.waiting := waiting ▸ List.mem_cons_self
  refine ⟨fun x => ?_, ?_, ?_, ?_⟩
  · by_cases here : x = b
    · subst here
      have same : t.bay x = s.bay x := by
        rcases h.bays x with same | ⟨-, started⟩
        · exact same
        · rw [started] at parked
          rcases BayRec.unloadStarted_state s.transit.mode (s.governing x) s.now (s.bay x) with h | h | h | h <;>
            exact absurd (h.symm.trans parked) (by decide)
      refine .inr ⟨h.waiting.subset member, ?_⟩
      rw [State.startUnload_bay_self]
      have governing : ({ t with scheduler := rest } : State).governing x = s.governing x :=
        State.governing_congr (s := s) store same
      rw [governing, ← same, ← transit, ← now]
      rfl
    · rw [State.startUnload_bay_ne _ here]
      exact h.bays x
  · rw [scheduler.1]
    exact (List.suffix_cons b rest.waiting).trans (waiting ▸ h.waiting)
  · rw [scheduler.2.1, origin, h.origin]
  · rw [scheduler.2.2, pointer, h.pointer]

theorem State.starts_startPass {s : State} (q : s.queuesMatch) : s.Starts s.startPass := by
  have holds : s.startPass.queuesMatch ∧ s.Starts s.startPass ∧ s.startPass.store = s.store ∧ s.startPass.now = s.now ∧
      s.startPass.transit = s.transit :=
    State.startPass_induct
      (P := fun t => t.queuesMatch ∧ s.Starts t ∧ t.store = s.store ∧ t.now = s.now ∧ t.transit = s.transit)
      (fun t b rest pop ⟨q, starts, store, now, transit⟩ => ⟨(State.keeps_popped pop).queues q,
        State.starts_popped starts q store now transit pop, by simpa using store, by simpa using now, by simpa using transit⟩)
      s ⟨q, ⟨fun _ => .inl rfl, List.suffix_refl _, rfl, rfl⟩, rfl, rfl, rfl⟩
  exact holds.2.1

/-- A start pass leaves every bay that is not PARK_QUEUED. -/
theorem State.startPass_bay {s : State} (q : s.queuesMatch) {x : BayNo} (h : (s.bay x).state ≠ .parkQueued) :
    s.startPass.bay x = s.bay x := by
  obtain ⟨-, -, -, parked⟩ := s.queuesMatch_iff.mp q
  rcases (State.starts_startPass q).bays x with same | ⟨waits, -⟩
  · exact same
  · exact absurd ((parked x).mp waits) h

theorem State.marks_startPass (s : State) : s.Marks s.startPass :=
  State.startPass_induct (P := fun t => s.Marks t)
    (fun t b rest _ h => h.trans ((State.marks_startUnload { t with scheduler := rest } b))) s (.of_eq rfl)

/-! ### Start passes end -/

theorem Scheduler.popHead_eq_none {q : Scheduler} : q.popHead = none ↔ q.emergency = [] ∧ q.ordinary = [] := by
  unfold Scheduler.popHead
  cases q.emergency with
  | cons b rest => simp
  | nil => cases q.ordinary <;> simp

theorem State.unloadQueueLength_eq (s : State) : s.unloadQueueLength = s.scheduler.waiting.length := by
  simp [State.unloadQueueLength, Scheduler.waiting]

theorem State.starts_of_full {s : State} (h : s.settings.unloadWidth ≤ s.scheduler.unloading) (n : Nat) :
    State.starts n s = s := by
  cases n with
  | zero => rfl
  | succ n => rw [State.starts, if_pos h]

theorem State.starts_of_none {s : State} (h : s.scheduler.popHead = none) (n : Nat) : State.starts n s = s := by
  cases n with
  | zero => rfl
  | succ n =>
    rw [State.starts]
    split
    · rfl
    · rw [h]

theorem State.popped_length {s : State} {b : BayNo} {rest : Scheduler} (pop : s.scheduler.popHead = some (b, rest)) :
    ({ s with scheduler := rest }.startUnload b).unloadQueueLength + 1 = s.unloadQueueLength := by
  rw [State.unloadQueueLength_eq, State.unloadQueueLength_eq, (Scheduler.waiting_of_popHead pop).1, State.startUnload_scheduler]
  split <;> rfl

theorem State.popHead_of_noLength {s : State} (h : s.unloadQueueLength = 0) : s.scheduler.popHead = none := by
  rw [Scheduler.popHead_eq_none]
  simpa [State.unloadQueueLength] using h

theorem State.starts_ends {n : Nat} {s : State} (h : s.unloadQueueLength ≤ n) :
    (State.starts n s).scheduler.popHead = none ∨
      s.settings.unloadWidth ≤ (State.starts n s).scheduler.unloading := by
  induction n generalizing s with
  | zero => exact .inl (State.popHead_of_noLength (Nat.le_zero.mp h))
  | succ n ih =>
    rw [State.starts]
    split
    · rename_i full; exact .inr full
    · split
      · rename_i none; exact .inl none
      · rename_i b rest pop
        have shorter := State.popped_length pop
        have ends := ih (s := { s with scheduler := rest }.startUnload b) (by omega)
        simpa [State.settings] using ends

/-- After a start pass the queue is empty or the count is at least W (R64). -/
theorem State.startPass_ends (s : State) :
    s.startPass.scheduler.emergency = [] ∧ s.startPass.scheduler.ordinary = [] ∨
      s.settings.unloadWidth ≤ s.startPass.scheduler.unloading := by
  rw [← Scheduler.popHead_eq_none]
  exact State.starts_ends (Nat.le_refl _)

theorem State.startPass_of_full {s : State} (h : s.settings.unloadWidth ≤ s.scheduler.unloading) : s.startPass = s :=
  State.starts_of_full h _

/-- A start pass takes the head of the queue, and goes on as a start pass of what the start leaves (R64). -/
theorem State.startPass_of_pop {s : State} (h : s.scheduler.unloading < s.settings.unloadWidth) {b : BayNo} {rest : Scheduler}
    (pop : s.scheduler.popHead = some (b, rest)) :
    s.startPass = ({ s with scheduler := rest }.startUnload b).startPass := by
  have length := State.popped_length pop
  unfold State.startPass
  rw [← length, State.starts, if_neg (Nat.not_le.mpr h), pop]

end Sys2Proof.Machine
end

section
/-! PROOFS. What a sweep leaves: the walk takes up each bay in the loaded condition once, in the order from the origin
upward, and leaves every other bay or stops its spindle by the kind of the sweep (R102 to R109). -/

namespace Sys2Proof.Machine

/-! ### The blocks beside the bays -/

/-- Time and the blocks of the case stand. -/
structure State.SameCase (s t : State) : Prop where
  now : t.now = s.now
  motion : t.motion = s.motion
  supply : t.supply = s.supply
  transit : t.transit = s.transit
  faults : t.faults = s.faults
  store : t.store = s.store

theorem State.SameCase.refl (s : State) : s.SameCase s := ⟨rfl, rfl, rfl, rfl, rfl, rfl⟩

theorem State.SameCase.trans {s t u : State} (h : s.SameCase t) (g : t.SameCase u) : s.SameCase u where
  now := g.now.trans h.now
  motion := g.motion.trans h.motion
  supply := g.supply.trans h.supply
  transit := g.transit.trans h.transit
  faults := g.faults.trans h.faults
  store := g.store.trans h.store

theorem State.sameCase_modBay (s : State) (b : BayNo) (f : BayRec → BayRec) : s.SameCase (s.modBay b f) :=
  ⟨rfl, rfl, rfl, rfl, rfl, rfl⟩
theorem State.sameCase_modScheduler (s : State) (f : Scheduler → Scheduler) : s.SameCase (s.modScheduler f) :=
  ⟨rfl, rfl, rfl, rfl, rfl, rfl⟩
theorem State.sameCase_modArbiter (s : State) (f : Arbiter → Arbiter) : s.SameCase (s.modArbiter f) :=
  ⟨rfl, rfl, rfl, rfl, rfl, rfl⟩
theorem State.sameCase_releaseGrant (s : State) (b : BayNo) : s.SameCase (s.releaseGrant b) :=
  ⟨rfl, rfl, rfl, rfl, rfl, rfl⟩
theorem State.sameCase_dropUnload (s : State) (b : BayNo) : s.SameCase (s.dropUnload b) :=
  ⟨rfl, rfl, rfl, rfl, rfl, rfl⟩
theorem State.sameCase_enter (s : State) (b : BayNo) (st : BayState) : s.SameCase (s.enter b st) :=
  ⟨s.enter_now b st, s.enter_motion b st, s.enter_supply b st, s.enter_transit b st, s.enter_faults b st,
    s.enter_store b st⟩
theorem State.sameCase_enterAfter (s : State) (e : BayEvent) (b : BayNo) (st : BayState) :
    s.SameCase (s.enterAfter e b st) :=
  ⟨s.enterAfter_now e b st, s.enterAfter_motion e b st, s.enterAfter_supply e b st, s.enterAfter_transit e b st,
    s.enterAfter_faults e b st, s.enterAfter_store e b st⟩
theorem State.sameCase_evaluate (s : State) : s.SameCase s.evaluate :=
  ⟨s.evaluate_now, s.evaluate_motion, s.evaluate_supply, s.evaluate_transit, s.evaluate_faults, s.evaluate_store⟩
theorem State.sameCase_spinDownWith (s : State) (b : BayNo) (i : Intent) : s.SameCase (s.spinDownWith b i) :=
  State.SameCase.trans (s.sameCase_modBay b _) (State.sameCase_enter _ b .spinningDown)
theorem State.sameCase_abortSpinUp (s : State) (b : BayNo) (i : Intent) : s.SameCase (s.abortSpinUp b i) :=
  ((s.sameCase_releaseGrant b).trans (State.sameCase_spinDownWith _ b i)).trans (State.sameCase_evaluate _)

theorem State.sameCase_emergencyPlacement (s : State) (b : BayNo) : s.SameCase (s.emergencyPlacement b) := by
  unfold State.emergencyPlacement
  split
  iterate 2 exact (s.sameCase_modScheduler _).trans (State.sameCase_enter _ b _)
  · split
    · exact .refl s
    · exact (s.sameCase_dropUnload b).trans (State.sameCase_modScheduler _ _)
  all_goals exact .refl s

theorem State.sameCase_sweepIntent (s : State) (k : SweepKind) (b : BayNo) : s.SameCase (s.sweepIntent k b) := by
  unfold State.sweepIntent
  split
  · exact s.sameCase_modBay b _
  · exact .refl s

theorem State.sameCase_sweepBay (s : State) (k : SweepKind) (b : BayNo) : s.SameCase (s.sweepBay k b) := by
  unfold State.sweepBay
  split
  iterate 3 exact (s.sameCase_emergencyPlacement b).trans (State.sameCase_sweepIntent _ k b)
  · exact s.sameCase_sweepIntent k b
  · split
    · exact s.sameCase_spinDownWith b _
    · exact .refl s
  · split
    · exact s.sameCase_abortSpinUp b _
    · exact .refl s
  all_goals exact .refl s

/-! ### Bays taken one after the other -/

/-- Bays taken in turn: what holds before the turn of `b` brings what holds after it. -/
theorem State.foldl_brings {f : BayNo → State → State} {b : BayNo} {P Q : State → Prop} {l : List BayNo} (nodup : l.Nodup)
    (mem : b ∈ l) (before : ∀ x s, x ≠ b → P s → P (f x s)) (own : ∀ s, P s → Q (f b s))
    (after : ∀ x s, x ≠ b → Q s → Q (f x s)) {s : State} (h : P s) : Q (l.foldl (fun s x => f x s) s) := by
  have rest {R : State → Prop} (keeps : ∀ x s, x ≠ b → R s → R (f x s)) {m : List BayNo} (absent : b ∉ m) {s : State}
      (h : R s) : R (m.foldl (fun s x => f x s) s) := by
    induction m generalizing s with
    | nil => exact h
    | cons x m ih =>
      obtain ⟨here, absent⟩ : b ≠ x ∧ b ∉ m := by simpa using absent
      exact ih absent (keeps x s (Ne.symm here) h)
  obtain ⟨first, last, split⟩ := List.append_of_mem mem
  rw [split] at nodup ⊢
  have notFirst : b ∉ first := fun h => (List.nodup_append.mp nodup).2.2 b h b List.mem_cons_self rfl
  have notLast : b ∉ last := (List.nodup_cons.mp (List.nodup_append.mp nodup).2.1).1
  rw [List.foldl_append, List.foldl_cons]
  exact rest after notLast (own _ (rest before notFirst h))

theorem walkFrom_eq (origin : BayNo) : walkFrom origin = allBays.map (fun k => origin + k) := rfl

theorem mem_walkFrom (origin b : BayNo) : b ∈ walkFrom origin :=
  List.mem_map.mpr ⟨b - origin, mem_allBays _, Fin.ext (by rw [Fin.val_add, Fin.val_sub]; omega)⟩

theorem nodup_map_of_injective {α β : Type} {f : α → β} (injective : ∀ a c, f a = f c → a = c) {l : List α}
    (nodup : l.Nodup) : (l.map f).Nodup :=
  List.Pairwise.map f (fun a c apart same => apart (injective a c same)) nodup

theorem nodup_walkFrom (origin : BayNo) : (walkFrom origin).Nodup :=
  nodup_map_of_injective (fun a c same => Fin.ext (by
    have values := congrArg Fin.val same
    rw [Fin.val_add, Fin.val_add] at values
    omega)) nodup_allBays

/-! ### The turn of a bay -/

/-- The intent that a sweep leaves (R105, R106). -/
def BayRec.sweptIntent (k : SweepKind) (r : BayRec) : BayRec := if k.stops then { r with intent := r.intent.toStop } else r

/-- The record of a spindle that stops with an intent (R49). -/
def BayRec.spunDown (i : Intent) (p : Profile) (now : Nat) (r : BayRec) : BayRec :=
  BayRec.enter .spinningDown p now { r with intent := i }

/-- The record that the turn of a bay in the walk leaves (R106 to R109). -/
def BayRec.swept (k : SweepKind) (p : Profile) (now : Nat) (r : BayRec) : BayRec :=
  match r.state with
  | .loading | .loaded => (r.enter .parkQueued p now).sweptIntent k
  | .parkQueued | .unloading => r.sweptIntent k
  | .spun | .spinningUp => if k = .parkAndStop then r.spunDown .stopAfter p now else r
  | .vacant | .stopped | .queued | .spinningDown | .diag | .held | .fenced => r

@[simp] theorem BayRec.sweptIntent_state (k : SweepKind) (r : BayRec) : (r.sweptIntent k).state = r.state := by
  unfold BayRec.sweptIntent; split <;> rfl

/-- The state that the turn of a bay in the walk leaves. -/
theorem BayRec.swept_state (k : SweepKind) (p : Profile) (now : Nat) (r : BayRec) :
    (r.swept k p now).state = match r.state with
      | .loading | .loaded | .parkQueued => .parkQueued
      | .spun => if k = .parkAndStop then .spinningDown else .spun
      | .spinningUp => if k = .parkAndStop then .spinningDown else .spinningUp
      | st => st := by
  unfold BayRec.swept
  cases state : r.state <;> simp [state, BayRec.spunDown]
  all_goals split <;> simp [state]

theorem State.spinDownWith_bay_self (s : State) (b : BayNo) (i : Intent) :
    (s.spinDownWith b i).bay b = (s.bay b).spunDown i (s.governing b) s.now := by
  rw [State.spinDownWith, State.enter_bay_self, State.setIntent, State.bay_modBay_self, State.governing_modBay s b rfl]
  rfl

theorem State.spinDownWith_bay_ne (s : State) {b x : BayNo} (i : Intent) (h : x ≠ b) :
    (s.spinDownWith b i).bay x = s.bay x :=
  (State.enter_bay_ne _ _ h).trans (State.bay_modBay_ne _ _ h)

/-- The bay just before the evaluation of an aborted spin-up. -/
theorem State.queuesMatch.aborted {s : State} (q : s.queuesMatch) {b : BayNo} (h : (s.bay b).state = .spinningUp) (i : Intent) :
    ((s.releaseGrant b).spinDownWith b i).queuesMatch :=
  ((State.Leaves.of_releaseGrant (.inl h)).keeps_spinDownWith i).queues q

theorem State.abortSpinUp_bay_self {s : State} (q : s.queuesMatch) {b : BayNo} (h : (s.bay b).state = .spinningUp) (i : Intent) :
    (s.abortSpinUp b i).bay b = (s.bay b).spunDown i (s.governing b) s.now := by
  rw [State.abortSpinUp, State.evaluate_bay (q.aborted h i), State.spinDownWith_bay_self]
  · rfl
  · rw [State.spinDownWith_bay_self]; simp [BayRec.spunDown]

/-- An aborted spin-up changes other bays by its evaluation alone. -/
theorem State.abortSpinUp_bay_ne {s : State} (q : s.queuesMatch) {b x : BayNo} (h : (s.bay b).state = .spinningUp) (i : Intent)
    (other : x ≠ b) (queued : (s.bay x).state ≠ .queued) : (s.abortSpinUp b i).bay x = s.bay x := by
  have before : ((s.releaseGrant b).spinDownWith b i).bay x = s.bay x := State.spinDownWith_bay_ne _ i other
  rw [State.abortSpinUp, State.evaluate_bay (q.aborted h i) (by rw [before]; exact queued), before]

theorem State.emergencyPlacement_bay_self (s : State) (b : BayNo) :
    (s.emergencyPlacement b).bay b =
      if (s.bay b).state = .loading ∨ (s.bay b).state = .loaded then (s.bay b).enter .parkQueued (s.governing b) s.now
      else s.bay b := by
  unfold State.emergencyPlacement
  cases state : (s.bay b).state with
  | loading | loaded => simp; rfl
  | parkQueued => simp; split <;> rfl
  | vacant | stopped | queued | spinningUp | spun | unloading | spinningDown | diag | held | fenced => simp

theorem State.emergencyPlacement_bay_ne (s : State) {b x : BayNo} (h : x ≠ b) : (s.emergencyPlacement b).bay x = s.bay x := by
  unfold State.emergencyPlacement
  split
  iterate 2 exact State.enter_bay_ne _ _ h
  · split <;> rfl
  all_goals rfl

theorem State.sweepIntent_bay_self (s : State) (k : SweepKind) (b : BayNo) :
    (s.sweepIntent k b).bay b = (s.bay b).sweptIntent k := by
  unfold State.sweepIntent BayRec.sweptIntent
  split
  · exact State.bay_modBay_self _ _ _
  · rfl

theorem State.sweepIntent_bay_ne (s : State) (k : SweepKind) {b x : BayNo} (h : x ≠ b) : (s.sweepIntent k b).bay x = s.bay x := by
  unfold State.sweepIntent
  split
  · exact State.bay_modBay_ne _ _ h
  · rfl

theorem State.sweepBay_bay_self {s : State} (q : s.queuesMatch) (k : SweepKind) (b : BayNo) :
    (s.sweepBay k b).bay b = (s.bay b).swept k (s.governing b) s.now := by
  unfold State.sweepBay BayRec.swept
  cases state : (s.bay b).state with
  | loading | loaded | parkQueued =>
    dsimp only
    rw [State.sweepIntent_bay_self, State.emergencyPlacement_bay_self]
    simp [state]
  | unloading => exact State.sweepIntent_bay_self _ _ _
  | spun =>
    dsimp only
    split
    · exact State.spinDownWith_bay_self _ _ _
    · rfl
  | spinningUp =>
    dsimp only
    split
    · exact State.abortSpinUp_bay_self q state _
    · rfl
  | vacant | stopped | queued | spinningDown | diag | held | fenced => rfl

/-- The turn of another bay leaves every bay that is not QUEUED. -/
theorem State.sweepBay_bay_ne {s : State} (q : s.queuesMatch) (k : SweepKind) {b x : BayNo} (other : x ≠ b)
    (queued : (s.bay x).state ≠ .queued) : (s.sweepBay k b).bay x = s.bay x := by
  unfold State.sweepBay
  split
  iterate 3 exact (State.sweepIntent_bay_ne _ k other).trans (State.emergencyPlacement_bay_ne _ other)
  · exact State.sweepIntent_bay_ne _ k other
  · split
    · exact State.spinDownWith_bay_ne _ _ other
    · rfl
  · rename_i spinning
    split
    · exact State.abortSpinUp_bay_ne q spinning _ other queued
    · rfl
  all_goals rfl

/-! ### The walk -/

/-- The turns of some bays in the walk of a sweep. -/
def State.turns (k : SweepKind) (l : List BayNo) (s : State) : State := l.foldl (fun s b => s.sweepBay k b) s

/-- The state that the walk of a sweep leaves, ahead of its start pass (R102 to R104). -/
def State.walked (k : SweepKind) (s : State) : State :=
  ((s.modScheduler (fun q => { q with pointer := q.origin })).turns k (walkFrom s.scheduler.origin)).modScheduler
    (fun q => { q with origin := if s.settings.originRotation then q.origin + 1 else q.origin })

theorem State.sweep_eq (k : SweepKind) (s : State) : s.sweep k = (s.walked k).startPass := rfl

/-- What holds through every turn of the walk holds of the state ahead of the start pass. -/
theorem State.walked_induct {k : SweepKind} {P : State → Prop} (turn : ∀ s b, P s → P (s.sweepBay k b))
    (pointers : ∀ (s : State) (pointer origin : Scheduler → BayNo), P s →
      P (s.modScheduler (fun q => { q with pointer := pointer q, origin := origin q }))) {s : State} (h : P s) : P (s.walked k) := by
  have walk : ∀ (l : List BayNo) (t : State), P t → P (t.turns k l) := by
    intro l
    induction l with
    | nil => exact fun t h => h
    | cons b l ih => exact fun t h => ih _ (turn t b h)
  exact pointers _ Scheduler.pointer _ (walk _ _ (pointers s _ Scheduler.origin h))

theorem State.keeps_walked (s : State) (k : SweepKind) : s.Keeps (s.walked k) :=
  State.walked_induct (P := fun t => s.Keeps t) (fun t b h => h.trans (t.keeps_sweepBay k b))
    (fun t pointer origin h => h.trans (t.keeps_turnPointer pointer origin)) (.refl s)

theorem State.sameCase_walked (s : State) (k : SweepKind) : s.SameCase (s.walked k) :=
  State.walked_induct (P := fun t => s.SameCase t) (fun t b h => h.trans (t.sameCase_sweepBay k b))
    (fun t _ _ h => h.trans (t.sameCase_modScheduler _)) (.refl s)

/-- The walk takes up every bay that is not QUEUED once (R102, R106 to R109). -/
theorem State.walked_bay {s : State} (q : s.queuesMatch) (k : SweepKind) {x : BayNo} (queued : (s.bay x).state ≠ .queued) :
    (s.walked k).bay x = (s.bay x).swept k (s.governing x) s.now := by
  have after : ((s.bay x).swept k (s.governing x) s.now).state ≠ .queued := by
    rw [BayRec.swept_state]
    cases state : (s.bay x).state <;> simp [state] at queued ⊢
    all_goals split <;> simp
  have walk := State.foldl_brings (f := fun b s => s.sweepBay k b) (b := x)
    (P := fun t => t.queuesMatch ∧ s.SameCase t ∧ t.bay x = s.bay x)
    (Q := fun t => t.queuesMatch ∧ t.bay x = (s.bay x).swept k (s.governing x) s.now)
    (nodup_walkFrom s.scheduler.origin) (mem_walkFrom _ x)
    (fun y t other ⟨q, same, bay⟩ => ⟨(t.keeps_sweepBay k y).queues q, same.trans (t.sameCase_sweepBay k y),
      (State.sweepBay_bay_ne q k (Ne.symm other) (by rw [bay]; exact queued)).trans bay⟩)
    (fun t ⟨q, same, bay⟩ => ⟨(t.keeps_sweepBay k x).queues q, by
      rw [State.sweepBay_bay_self q, bay, State.governing_congr same.store bay, same.now]⟩)
    (fun y t other ⟨q, bay⟩ => ⟨(t.keeps_sweepBay k y).queues q,
      (State.sweepBay_bay_ne q k (Ne.symm other) (by rw [bay]; exact after)).trans bay⟩)
    (s := s.modScheduler (fun q => { q with pointer := q.origin }))
    ⟨(s.keeps_turnPointer _ Scheduler.origin).queues q, s.sameCase_modScheduler _, rfl⟩
  rw [State.walked, State.modScheduler_bay]
  exact walk.2

/-- A QUEUED bay stands through the walk of a sweep that stops no spindle. -/
theorem State.walked_queued {s : State} {k : SweepKind} (h : k ≠ .parkAndStop) {x : BayNo} (queued : (s.bay x).state = .queued) :
    (s.walked k).bay x = s.bay x := by
  refine State.walked_induct (P := fun t => t.bay x = s.bay x) (fun t b same => ?_) (fun _ _ _ same => same) rfl
  by_cases here : x = b
  · subst here
    unfold State.sweepBay
    rw [same, queued]
    exact same
  · unfold State.sweepBay
    split
    iterate 3 exact ((State.sweepIntent_bay_ne _ k here).trans (State.emergencyPlacement_bay_ne _ here)).trans same
    · exact (State.sweepIntent_bay_ne _ k here).trans same
    iterate 2
      rw [if_neg h]
      exact same
    all_goals exact same

/-- A sweep leaves each bay as its turn in the walk leaves it, or as its start after the walk leaves it. -/
theorem State.sweep_bay {s : State} (q : s.queuesMatch) (k : SweepKind) (x : BayNo) :
    (s.sweep k).bay x = (s.walked k).bay x ∨ ((s.walked k).bay x).state = .parkQueued ∧
      (s.sweep k).bay x = ((s.walked k).bay x).unloadStarted s.transit.mode ((s.walked k).governing x) s.now := by
  have walked := (s.keeps_walked k).queues q
  have same := s.sameCase_walked k
  obtain ⟨-, -, -, parked⟩ := (s.walked k).queuesMatch_iff.mp walked
  rw [State.sweep_eq]
  rcases (State.starts_startPass walked).bays x with stands | ⟨waits, started⟩
  · exact .inl stands
  · refine .inr ⟨(parked x).mp waits, ?_⟩
    rw [started, same.transit, same.now]

end Sys2Proof.Machine
end

section
/-! PROOFS. The entry into TRANSIT_SAFE: what it leaves at each bay, and that it leaves a quiet case (R127, R129, R130). -/

namespace Sys2Proof.Machine

section

variable {s : State} {b : BayNo}

/-- No pass grants in TRANSIT_SAFE (R34). -/
theorem State.pass_of_safe (h : s.transit.mode = .transitSafe) : s.pass = none := by
  unfold State.pass
  rw [if_pos (by simp [h])]

theorem State.evaluate_of_safe (h : s.transit.mode = .transitSafe) : s.evaluate = s :=
  State.evaluate_of_pass_none (State.pass_of_safe h)

/-! ### The bays outside the sweep -/

/-- The record that the entry into TRANSIT_SAFE leaves outside the sweep (R130). -/
def BayRec.transited (p : Profile) (now : Nat) (r : BayRec) : BayRec :=
  let handled : BayRec :=
    match r.state with
    | .queued => r.enter .stopped p now
    | .spinningUp | .spun => r.spunDown .stopAfter p now
    | .diag => BayRec.enter .stopped p now { r with winding := .aborted, windingCurrent := none }
    | .held => { r with spindleOn := false, spen := none }
    | .loading | .loaded | .parkQueued | .unloading | .spinningDown | .stopped | .fenced | .vacant => r
  { handled with loadOnArrival := false }

theorem State.transitBay_eq (h : s.transit.mode = .transitSafe) (b : BayNo) :
    s.transitBay b =
      (match (s.bay b).state with
        | .queued => (s.dropEntry b).enter b .stopped
        | .spinningUp => (s.releaseGrant b).spinDownWith b .stopAfter
        | .diag => s.abortTest b .stopped
        | .spun => s.spinDownWith b .stopAfter
        | .held => s.modBay b (fun r => { r with spindleOn := false, spen := none })
        | .loading | .loaded | .parkQueued | .unloading | .spinningDown | .stopped | .fenced | .vacant => s).setLoadOnArrival
          b false := by
  unfold State.transitBay
  cases state : (s.bay b).state with
  | queued =>
    dsimp only
    rw [State.evaluate_of_safe]
    rw [State.enter_transit]; exact h
  | spinningUp =>
    dsimp only
    rw [State.abortSpinUp, State.evaluate_of_safe]
    rw [(State.sameCase_spinDownWith _ b _).transit]; exact h
  | diag =>
    dsimp only
    rw [State.evaluate_of_safe]
    rw [State.abortTest, State.enterAfter_transit]; exact h
  | vacant | stopped | spun | loading | loaded | parkQueued | unloading | spinningDown | held | fenced => rfl

theorem State.transitBay_bay_self (h : s.transit.mode = .transitSafe) (b : BayNo) :
    (s.transitBay b).bay b = (s.bay b).transited (s.governing b) s.now := by
  rw [State.transitBay_eq h, State.setLoadOnArrival, State.bay_modBay_self, BayRec.transited]
  cases state : (s.bay b).state with
  | queued => dsimp only; rw [State.enter_bay_self]; rfl
  | spinningUp => dsimp only; rw [State.spinDownWith_bay_self]; rfl
  | diag =>
    dsimp only
    rw [State.abortTest, State.enterAfter_bay_self, State.bay_modBay_self, State.governing_modBay _ _ rfl]
    rfl
  | spun => dsimp only; rw [State.spinDownWith_bay_self]
  | held => dsimp only; rw [State.bay_modBay_self]; simp only [state]
  | vacant | stopped | loading | loaded | parkQueued | unloading | spinningDown | fenced => rfl

theorem State.transitBay_bay_ne (h : s.transit.mode = .transitSafe) {x : BayNo} (other : x ≠ b) :
    (s.transitBay b).bay x = s.bay x := by
  rw [State.transitBay_eq h, State.setLoadOnArrival, State.bay_modBay_ne _ _ other]
  split
  · exact State.enter_bay_ne _ _ other
  · exact State.spinDownWith_bay_ne _ _ other
  · exact (State.enterAfter_bay_ne _ _ _ other).trans (State.bay_modBay_ne _ _ other)
  · exact State.spinDownWith_bay_ne _ _ other
  · exact State.bay_modBay_ne _ _ other
  all_goals rfl

theorem State.sameCase_transitBay (s : State) (b : BayNo) : s.SameCase (s.transitBay b) := by
  unfold State.transitBay
  refine State.SameCase.trans ?_ (State.sameCase_modBay _ b _)
  split
  · exact State.SameCase.trans (State.SameCase.trans (s.sameCase_modArbiter _) (State.sameCase_enter _ b .stopped))
      (State.sameCase_evaluate _)
  · exact s.sameCase_abortSpinUp b _
  · exact (((s.sameCase_releaseGrant b).trans (State.sameCase_modBay _ b _)).trans (State.sameCase_enterAfter _ _ b _)).trans
      (State.sameCase_evaluate _)
  · exact s.sameCase_spinDownWith b _
  · exact s.sameCase_modBay b _
  all_goals exact .refl s

/-- The switch of a HELD bay opens with its spindle condition (R17, R130). -/
theorem BayRec.idle_spindleOff {r : BayRec} (h : r.state = .held) : r.Idle { r with spindleOn := false, spen := none } := by
  refine ⟨rfl, rfl, rfl, rfl, fun ⟨hld, _⟩ => ⟨hld, ?_⟩⟩
  rw [show ({ r with spindleOn := false, spen := none } : BayRec).state = .held from h]
  simp

theorem State.keeps_transitBay (s : State) (b : BayNo) : s.Keeps (s.transitBay b) := by
  unfold State.transitBay
  refine State.Keeps.trans ?_ (State.keeps_clearLoadOnArrival _ b)
  split
  · rename_i queued
    have leaves : s.Leaves b (s.dropEntry b) := by
      rw [← State.releaseClaim_of_queued queued]
      exact .of_releaseClaim s b
    exact (leaves.keeps_enter rfl (by decide) (by decide) (by decide)).trans (State.keeps_evaluate _)
  · rename_i spinning; exact State.keeps_abortSpinUp spinning _
  · rename_i diag; exact (State.keeps_abortTest diag).trans (State.keeps_evaluate _)
  · rename_i spun; exact State.keeps_spinDownWith (by rw [spun]; rfl) _
  · rename_i held; exact s.keeps_idleBay (BayRec.idle_spindleOff held) rfl
  all_goals exact .refl s

/-! ### The entry -/

/-- The mode changes, and the quiet timer stops (R130). -/
def State.madeTransit (s : State) : State := s.modTransit (fun _ => { mode := .transitSafe, quietDue := none })

/-- The bays outside the sweep have taken the entry. -/
def State.transited (s : State) : State := (s.madeTransit.addCaseEvent .safeEntered).forBays State.transitBay

theorem State.inTurn_cons (s : State) (f : State → State) (fs : List (State → State)) :
    s.inTurn (f :: fs) = (f s).inTurn fs := rfl

theorem State.inTurn_append (s : State) (fs gs : List (State → State)) :
    s.inTurn (fs ++ gs) = (s.inTurn fs).inTurn gs := List.foldl_append

theorem State.inTurn_singleton (s : State) (f : State → State) : s.inTurn [f] = f s := rfl

theorem State.bay_of_bays {s t : State} (h : t.bays = s.bays) (x : BayNo) : t.bay x = s.bay x :=
  congrArg (fun v => v[x]) h

/-- The entry in the listed order of its holders. -/
theorem State.enterSafe_inTurn (s : State) :
    s.madeTransit.inTurn (State.addCaseEvent .safeEntered :: allBays.map State.transitBay ++ [State.sweep .transit]) =
      s.transited.sweep .transit := by
  rw [State.inTurn_append, State.inTurn_singleton, State.inTurn_cons, State.transited, State.forBays_eq_inTurn]

theorem State.enterSafe_of_normal (h : s.transit.mode = .normal) :
    s.enterSafe = s.madeTransit.inFreeOrder
      (State.addCaseEvent .safeEntered :: allBays.map State.transitBay ++ [State.sweep .transit]) := by
  rw [State.enterSafe, h, State.madeTransit]

theorem State.enterSafe_of_safe (h : s.transit.mode = .transitSafe) : s.enterSafe = s := by
  rw [State.enterSafe, h]

/-- The order of the holders is free in the notice queue alone. -/
theorem State.inFreeOrder_eq (s : State) (holders : List (State → State)) :
    s.inFreeOrder holders = { s.inTurn holders with
      freeTick := (s.inTurn holders).freeTick + 1, link := (s.inFreeOrder holders).link } := rfl

/-- The entry but for the link. -/
theorem State.enterSafe_eq (h : s.transit.mode = .normal) :
    s.enterSafe = { s.transited.sweep .transit with
      freeTick := (s.transited.sweep .transit).freeTick + 1, link := s.enterSafe.link } := by
  conv => lhs; rw [State.enterSafe_of_normal h, State.inFreeOrder_eq, State.enterSafe_inTurn]
  rw [State.enterSafe_of_normal h]

theorem State.keepsClaims_madeTransit (s : State) : s.KeepsClaims s.madeTransit :=
  ⟨id, id, id, id, id, id, fun _ => id, fun _ => id⟩

theorem State.keeps_transited (s : State) : s.madeTransit.Keeps s.transited := by
  rw [State.transited, State.forBays_eq_inTurn]
  refine (State.keeps_addCaseEvent _ _).trans (State.keeps_inTurn (fun f mem => ?_) _)
  obtain ⟨b, -, rfl⟩ := List.mem_map.mp mem
  exact fun t => t.keeps_transitBay b

theorem State.sameCase_transited (s : State) : s.madeTransit.SameCase s.transited := by
  rw [State.transited, State.forBays_eq_inTurn]
  refine State.inTurn_induct (P := fun t => s.madeTransit.SameCase t) (fun f mem t same => ?_)
    ⟨rfl, rfl, rfl, rfl, rfl, rfl⟩
  obtain ⟨b, -, rfl⟩ := List.mem_map.mp mem
  exact same.trans (t.sameCase_transitBay b)

/-- Each bay has taken the entry as its own turn leaves it. -/
theorem State.transited_bay (s : State) (x : BayNo) : s.transited.bay x = (s.bay x).transited (s.governing x) s.now := by
  have same : s.madeTransit.SameCase (s.madeTransit.addCaseEvent .safeEntered) := ⟨rfl, rfl, rfl, rfl, rfl, rfl⟩
  have turned := State.foldl_brings (f := State.transitBay) (b := x)
    (P := fun t => s.madeTransit.SameCase t ∧ t.bay x = s.bay x)
    (Q := fun t => s.madeTransit.SameCase t ∧ t.bay x = (s.bay x).transited (s.governing x) s.now)
    nodup_allBays (mem_allBays x)
    (fun y t other ⟨same, bay⟩ => ⟨same.trans (t.sameCase_transitBay y),
      (State.transitBay_bay_ne (by rw [same.transit]; rfl) (Ne.symm other)).trans bay⟩)
    (fun t ⟨same, bay⟩ => ⟨same.trans (t.sameCase_transitBay x), by
      rw [State.transitBay_bay_self (by rw [same.transit]; rfl), bay, State.governing_congr (s := s) same.store bay, same.now]
      rfl⟩)
    (fun y t other ⟨same, bay⟩ => ⟨same.trans (t.sameCase_transitBay y),
      (State.transitBay_bay_ne (by rw [same.transit]; rfl) (Ne.symm other)).trans bay⟩)
    (s := s.madeTransit.addCaseEvent .safeEntered) ⟨same, rfl⟩
  exact turned.2

/-- After the turns of the bays none is QUEUED. -/
theorem BayRec.transited_state (p : Profile) (now : Nat) (r : BayRec) :
    (r.transited p now).state = match r.state with
      | .queued | .diag => .stopped
      | .spinningUp | .spun => .spinningDown
      | st => st := by
  unfold BayRec.transited
  cases state : r.state <;> simp [state, BayRec.spunDown]

/-- The entry into TRANSIT_SAFE leaves each bay as its turn, the walk and at most a start leave it. -/
theorem State.enterSafe_bay (q : s.queuesMatch) (h : s.transit.mode = .normal) (x : BayNo) :
    let swept := ((s.bay x).transited (s.governing x) s.now).swept .transit (s.transited.governing x) s.now
    s.enterSafe.bay x = swept ∨
      swept.state = .parkQueued ∧ ∃ p, s.enterSafe.bay x = swept.unloadStarted .transitSafe p s.now := by
  have matched : s.transited.queuesMatch := s.keeps_transited.queues q
  have same := s.sameCase_transited
  have now : s.transited.now = s.now := same.now
  have queued : (s.transited.bay x).state ≠ .queued := by
    rw [State.transited_bay, BayRec.transited_state]
    split <;> simp_all
  have bay : s.enterSafe.bay x = (s.transited.sweep .transit).bay x :=
    State.bay_of_bays (by rw [State.enterSafe_of_normal h, State.inFreeOrder_eq, State.enterSafe_inTurn]) x
  have walked := State.walked_bay matched .transit queued
  rw [State.transited_bay, now] at walked
  dsimp only
  rw [bay, ← walked]
  rcases State.sweep_bay matched .transit x with stands | ⟨waits, started⟩
  · exact .inl stands
  · refine .inr ⟨waits, (s.transited.walked .transit).governing x, ?_⟩
    rw [started, now, same.transit]
    rfl

/-- A swept record after the entry, in a TRANSIT_SAFE case, is made safe (R130). -/
theorem BayRec.madeSafe_swept (r : BayRec) (p p' : Profile) (now : Nat) :
    r.madeSafe ((r.transited p now).swept .transit p' now) := by
  cases state : r.state <;>
    simp [BayRec.madeSafe, BayRec.transited, BayRec.swept, BayRec.sweptIntent, BayRec.spunDown, BayRec.enter, state,
      SweepKind.stops, BayState.clearsIntent, BayState.spenOnEntry, BayState.clearsLoadOnArrival]
  all_goals cases intent : r.intent <;> simp [Intent.toStop]

/-- What a start leaves of a record in TRANSIT_SAFE: it unloads, or its park takes it to a stop or to HELD (R65, R69, R70). -/
theorem BayRec.unloadStarted_safe (p : Profile) (now : Nat) (r : BayRec) :
    let u := r.unloadStarted .transitSafe p now
    u.sticky = r.sticky ∧ u.pending = r.pending ∧ u.attempts = r.attempts ∧ u.prk = r.prk ∧
      (r.loadOnArrival = false → u.loadOnArrival = false) ∧
      (r.prk = false → u.state = .unloading ∧ u.intent = r.intent) ∧
      (r.prk = true → u.state = .spinningDown ∨ u.state = .held) := by
  cases level : r.prk with
  | false =>
    simp [BayRec.unloadStarted, level, BayRec.enter, BayState.clearsIntent, BayState.clearsLoadOnArrival]
  | true =>
    simp only [BayRec.unloadStarted, level, if_true]
    unfold BayRec.parked
    split
    · rename_i spun
      unfold BayRec.afterPark at spun
      split at spun
      · simp at spun
      · simp at spun
      · simp at spun
      · split at spun <;> simp at spun
    · simp [BayRec.enter, level, BayState.clearsLoadOnArrival]
    · simp [BayRec.enter, level, BayState.clearsLoadOnArrival]

/-- A record that waits for its unload and is made safe is safe after its start too (R65, R130). -/
theorem BayRec.madeSafe_started {r u : BayRec} (h : r.madeSafe u) (waits : u.state = .parkQueued) (p : Profile) (now : Nat) :
    r.madeSafe (u.unloadStarted .transitSafe p now) := by
  obtain ⟨sticky, pending, attempts, prk, flag, starts, parks⟩ := BayRec.unloadStarted_safe p now u
  obtain ⟨clear, sticky', pending', attempts', rest⟩ := h
  refine ⟨flag clear, sticky.trans sticky', pending.trans pending', attempts.trans attempts', ?_⟩
  cases state : r.state with
  | loading | loaded | parkQueued | unloading =>
    simp only [state] at rest ⊢
    obtain ⟨level, rest⟩ := rest
    refine ⟨prk.trans level, ?_⟩
    cases raised : r.prk with
    | true =>
      rcases parks (level.trans raised) with down | held
      · exact .inr (.inr (.inl down))
      · exact .inr (.inr (.inr held))
    | false =>
      obtain ⟨unloading, intent⟩ := starts (level.trans raised)
      simp only [raised, Bool.false_eq_true, if_false] at rest ⊢
      exact ⟨.inr unloading, by rw [intent, rest.2]⟩
  | vacant | stopped | queued | spinningUp | spun | spinningDown | diag | held | fenced =>
    simp [state] at rest
    simp_all

/-- The entry into TRANSIT_SAFE leaves each bay safe (R130). -/
theorem State.enterSafe_madeSafe (q : s.queuesMatch) (h : s.transit.mode = .normal) (x : BayNo) :
    (s.bay x).madeSafe (s.enterSafe.bay x) := by
  have swept := BayRec.madeSafe_swept (s.bay x) (s.governing x) (s.transited.governing x) s.now
  rcases State.enterSafe_bay q h x with stands | ⟨waits, p, started⟩
  · rw [stands]; exact swept
  · rw [started]; exact BayRec.madeSafe_started swept waits p s.now

/-- A bay that is made safe is quiet (R129, R130). -/
theorem BayRec.madeSafe.quiet {r u : BayRec} (h : r.madeSafe u) :
    u.state ≠ .queued ∧ u.state ≠ .spinningUp ∧ u.state ≠ .diag ∧ u.state ≠ .loading ∧ u.state ≠ .loaded ∧
      u.loadOnArrival = false := by
  obtain ⟨clear, -, -, -, rest⟩ := h
  have quiet : u.state ≠ .queued ∧ u.state ≠ .spinningUp ∧ u.state ≠ .diag ∧ u.state ≠ .loading ∧ u.state ≠ .loaded := by
    cases state : r.state with
    | loading | loaded | parkQueued | unloading =>
      simp only [state] at rest
      obtain ⟨-, rest⟩ := rest
      split at rest
      · rcases rest with h | h | h | h <;> simp [h]
      · rcases rest.1 with h | h <;> simp [h]
    | held | spinningDown | stopped | fenced | vacant =>
      simp only [state] at rest
      simp [rest]
    | queued => simp only [state] at rest; simp [rest]
    | spinningUp | spun | diag => simp only [state] at rest; simp [rest.1]
  exact ⟨quiet.1, quiet.2.1, quiet.2.2.1, quiet.2.2.2.1, quiet.2.2.2.2, clear⟩

theorem State.keeps_relinked (s : State) (freeTick : Nat) (link : Link) :
    s.Keeps { s with freeTick := freeTick, link := link } :=
  State.keeps_of_blocks rfl rfl rfl rfl rfl rfl rfl rfl

theorem State.keeps_enterSafe (s : State) : s.Keeps s.enterSafe := by
  cases mode : s.transit.mode with
  | transitSafe => rw [State.enterSafe_of_safe mode]; exact .refl s
  | normal =>
    have swept : s.madeTransit.Keeps s.enterSafe := by
      refine (s.keeps_transited.trans (State.keeps_sweep _ .transit)).trans ?_
      rw [State.enterSafe_eq mode]
      exact State.keeps_relinked _ _ _
    exact {
      toKeepsClaims := s.keepsClaims_madeTransit.trans swept.toKeepsClaims
      quiet := fun q _ _ x => (State.enterSafe_madeSafe q mode x).quiet }

theorem State.keeps_startQuiet (s : State) : s.Keeps s.startQuiet := by
  have idle : s.Idle s.startQuiet := State.idle_of_bays rfl id rfl rfl rfl rfl
  exact idle.keeps (fun ⟨valid, budget, _, _⟩ => ⟨valid, budget⟩) id

theorem State.keeps_leaveSafe (s : State) : s.Keeps s.leaveSafe := by
  unfold State.leaveSafe
  split
  · exact .refl s
  · have idle : s.Idle ((s.modTransit (fun t => { t with mode := .normal })).startQuiet) :=
      State.idle_of_bays rfl (fun safe => nomatch safe) rfl rfl rfl rfl
    exact (idle.keeps (fun ⟨valid, budget, _, _⟩ => ⟨valid, budget⟩) id).trans (State.keeps_addCaseEvent _ _)

theorem State.keeps_startTransit (s : State) : s.Keeps s.startTransit := by
  unfold State.startTransit
  split
  · exact s.keeps_enterSafe
  · exact s.keeps_startQuiet

end

end Sys2Proof.Machine
end

section
/-! PROOFS. Every request keeps the invariants (1.8, 2.7, 2.8, 3.7, 3.8, 7.5, 7.6, 8.1, chapters 9 and 10). -/

namespace Sys2Proof.Machine

/-! ### The shape of a request -/

theorem State.keeps_answer (s : State) (k : ReqKind) (r : Req) (st : Status) (body : List Byte) :
    s.Keeps (s.answer k r st body) := State.keeps_of_blocks rfl rfl rfl rfl rfl rfl rfl rfl

/-- What a handler keeps before its answer, it keeps with it. -/
theorem State.Keeps.answer {s t : State} (h : s.Keeps t) (k : ReqKind) (r : Req) (st : Status) (body : List Byte) :
    s.Keeps (t.answer k r st body) := h.trans (t.keeps_answer k r st body)

theorem State.keeps_modLink (s : State) (f : Link → Link) : s.Keeps (s.modLink f) :=
  State.keeps_of_blocks rfl rfl rfl rfl rfl rfl rfl rfl

theorem State.keeps_frameArrived (s : State) : s.Keeps s.frameArrived := by
  have hunting : s.Keeps s.hunt := s.keeps_modLink _
  refine hunting.trans ?_
  unfold State.frameArrived State.restartQuiet
  split
  · exact State.keeps_startQuiet _
  · exact .refl _

section

variable {handle : Req → State → State} {go : State → State} {f : BayNo → State → Status × State}

theorem State.keeps_checked (s : State) (k : ReqKind) (r : Req) (h : s.Keeps (go s)) : s.Keeps (s.checked k r go) := by
  unfold State.checked
  split
  · exact s.keeps_answer _ _ _ _
  · exact h

/-- A request that only reads. -/
theorem State.keeps_checked_answer (s : State) (k j : ReqKind) (r : Req) (st : Status) (read : State → List Byte) :
    s.Keeps (s.checked k r (fun s => s.answer j r st (read s))) :=
  s.keeps_checked k r (s.keeps_answer j r st (read s))

theorem State.keeps_withEmptyBody (s : State) (k : ReqKind) (r : Req) (h : s.Keeps (go s)) :
    s.Keeps (withEmptyBody k r go s) := by
  unfold withEmptyBody
  split
  · exact h
  · exact s.keeps_answer _ _ _ _

/-- The bays of a set in turn: what each turn passes on, the request passes on. -/
theorem State.handleBays_induct {P : State → Prop} (h : ∀ b t, P t → P (f b t).2) (set : BaySet) {s : State} (start : P s) :
    P (s.handleBays set f).2 := by
  have walk : ∀ (l : List BayNo) (acc : List (BayNo × Status) × State), P acc.2 →
      P (l.foldl (fun acc b => if inSet set b then
        let out := f b acc.2
        (acc.1 ++ [(b, out.1)], out.2) else acc) acc).2 := by
    intro l
    induction l with
    | nil => exact fun acc here => here
    | cons b l ih =>
      intro acc here
      refine ih _ ?_
      simp only
      split
      · exact h b acc.2 here
      · exact here
  exact walk allBays ([], s) start

theorem State.keeps_answerBays (s : State) (k : ReqKind) (r : Req) (set : BaySet)
    (h : ∀ b (s : State), s.Keeps (f b s).2) : s.Keeps (s.answerBays k r set f) :=
  (State.handleBays_induct (P := fun t => s.Keeps t) (fun b t here => here.trans (h b t)) set (.refl s)).answer _ _ _ _

theorem State.keeps_checkedBays (s : State) (k : ReqKind) (r : Req) (set : BaySet)
    (h : ∀ b (s : State), s.Keeps (f b s).2) : s.Keeps (s.checkedBays k r set f) := by
  unfold State.checkedBays
  split
  · exact s.keeps_answer _ _ _ _
  · refine s.keeps_checked k r (s.keeps_answerBays k r set fun b s => ?_)
    unfold checkedBay
    split
    · exact .refl s
    · exact h b s

/-- A request that TRANSIT_SAFE refuses at each bay. -/
theorem State.keeps_safeBay (b : BayNo) (s : State) (h : s.transit.mode = .normal → s.Keeps (f b s).2) :
    s.Keeps (safeBay f b s).2 := by
  unfold safeBay
  cases mode : s.transit.mode with
  | transitSafe => rw [if_pos rfl]; exact .refl s
  | normal => rw [if_neg (by decide)]; exact h mode

theorem State.keeps_takeRequest (s : State) (k : ReqKind) (r : Req) (h : ∀ s : State, s.Keeps (handle r s)) :
    s.Keeps (takeRequest k handle r s) := by
  unfold takeRequest
  simp only
  refine s.keeps_frameArrived.trans ?_
  split
  · exact .refl _
  · split
    · exact State.keeps_answer _ _ _ _ _
    · split
      · exact State.keeps_answer _ _ _ _ _
      · exact h _

end

/-! ### The requests that move bays -/

section

variable {s : State}

theorem State.keeps_askLoad (normal : s.transit.mode = .normal) (b : BayNo) (v : Bool) : s.Keeps (s.askLoad b v) := by
  unfold State.askLoad
  split
  · exact s.keeps_setLoadOnArrival b fun _ => normal
  · exact .refl s

@[simp] theorem State.askLoad_state (s : State) (b : BayNo) (v : Bool) (x : BayNo) :
    ((s.askLoad b v).bay x).state = (s.bay x).state := by
  unfold State.askLoad
  split
  · by_cases here : x = b
    · subst here; rw [State.setLoadOnArrival, State.bay_modBay_self]
    · rw [State.setLoadOnArrival, State.bay_modBay_ne _ _ here]
  · rfl

@[simp] theorem State.askLoad_mode (s : State) (b : BayNo) (v : Bool) :
    (s.askLoad b v).transit.mode = s.transit.mode := by
  unfold State.askLoad
  split <;> rfl

theorem State.keeps_spinUpBay (normal : s.transit.mode = .normal) (v : Bool) (b : BayNo) :
    s.Keeps (s.spinUpBay v b).2 := by
  unfold State.spinUpBay
  split
  · rename_i state
    exact ((State.keeps_askLoad normal b v).trans (State.keeps_joinQueue (by simp [state, BayState.claimless])
      (by simpa using normal) _)).trans (State.keeps_evaluate _)
  · split
    · exact State.keeps_askLoad normal b v
    · exact .refl s
  · exact State.keeps_askLoad normal b v
  · rename_i state
    split
    · exact State.keeps_loadSpun state normal
    · exact .refl s
  all_goals exact .refl s

theorem State.keeps_intent (s : State) (b : BayNo) (i : BayRec → Intent) :
    s.Keeps (s.modBay b (fun r => { r with intent := i r })) :=
  s.keeps_modBay (b := b) ⟨rfl, rfl, rfl, rfl, id⟩ fun _ => id

theorem State.keeps_spinDownBay (b : BayNo) (s : State) : s.Keeps (s.spinDownBay b).2 := by
  have cleared {t : State} (h : s.Keeps t) : s.Keeps (t.setLoadOnArrival b false) :=
    h.trans (t.keeps_clearLoadOnArrival b)
  unfold State.spinDownBay
  simp only
  split <;> rename_i state <;> dsimp only
  · have dropped : s.Leaves b (s.dropEntry b) := State.releaseClaim_of_queued state ▸ .of_releaseClaim s b
    exact (cleared (dropped.keeps_enter rfl (by decide) (by decide) (by decide))).trans (State.keeps_evaluate _)
  · exact cleared (State.keeps_abortSpinUp state _)
  · exact cleared (State.keeps_spinDownWith (by simp [state, BayState.claimless]) _)
  iterate 2
    exact cleared ((s.keeps_setIntent b _).trans
      (State.keeps_ordinaryUnload (by simp [State.setIntent, state, BayState.claimless])))
  iterate 2 exact cleared (s.keeps_intent b _)
  · exact cleared (.refl s)
  · exact cleared (s.keeps_intent b _)
  all_goals exact .refl s

theorem State.keeps_loadBay (normal : s.transit.mode = .normal) (b : BayNo) : s.Keeps (s.loadBay b).2 := by
  unfold State.loadBay
  split
  · rename_i state; exact State.keeps_loadSpun state normal
  · split
    · exact s.keeps_setLoadOnArrival b fun _ => normal
    · exact .refl s
  · exact s.keeps_setLoadOnArrival b fun _ => normal
  all_goals exact .refl s

theorem State.keeps_unloadBay (v : Bool) (b : BayNo) (s : State) : s.Keeps (s.unloadBay v b).2 := by
  have cleared := s.keeps_clearLoadOnArrival b
  unfold State.unloadBay
  split <;> rename_i state
  iterate 2
    exact (cleared.trans (State.keeps_setIntent _ b _)).trans
      (State.keeps_ordinaryUnload (by simp [State.setIntent, State.setLoadOnArrival, state, BayState.claimless]))
  iterate 2 exact cleared.trans (State.keeps_intent _ b fun r => if v then r.intent.toStop else r.intent)
  · split
    · exact cleared.trans (State.keeps_spinDownWith (by simp [State.setLoadOnArrival, state, BayState.claimless]) _)
    · exact cleared
  all_goals exact .refl s

theorem State.keeps_testBay (normal : s.transit.mode = .normal) (b : BayNo) : s.Keeps (s.testBay b).2 := by
  unfold State.testBay
  split
  · rename_i state
    exact (State.keeps_joinQueue (by simp [state, BayState.claimless]) normal _).trans (State.keeps_evaluate _)
  · exact .refl s

end

/-! ### The requests on faults -/

/-- A bay record changes, its fault sets with it, and ATTN is recomputed. -/
theorem State.onlyBay_recomputed (s : State) (b : BayNo) {f : BayRec → BayRec}
    (within : (s.bay b).pending &&& (s.bay b).sticky = (s.bay b).pending →
      (f (s.bay b)).pending &&& (f (s.bay b)).sticky = (f (s.bay b)).pending) :
    s.OnlyBay b ((s.modBay b f).recomputeAttn) where
  others _ hx := State.bay_modBay_ne s f hx
  within h := by rw [State.recomputeAttn_bay, State.bay_modBay_self]; exact within h
  attn _ := State.attnShowsPending_of_recomputed rfl
  casePending := rfl
  caseSticky := rfl
  motion := id
  supply := rfl
  mode := rfl
  store := rfl

/-- A bay in a claimless state gives up its pending faults on its way out (R143, R25). -/
theorem State.Leaves.recomputed {s : State} {b : BayNo} (h : (s.bay b).state.claimless = true) {f : BayRec → BayRec}
    (within : (s.bay b).pending &&& (s.bay b).sticky = (s.bay b).pending →
      (f (s.bay b)).pending &&& (f (s.bay b)).sticky = (f (s.bay b)).pending)
    (flag : (f (s.bay b)).loadOnArrival = true → (s.bay b).loadOnArrival = true) :
    s.Leaves b ((s.modBay b f).recomputeAttn) :=
  { s.onlyBay_recomputed b within with
    arbiter := by rw [State.releaseClaim_of_claimless h]; rfl
    scheduler := by rw [State.releaseClaim_of_claimless h]; rfl
    flag := fun set => flag (by rwa [State.recomputeAttn_bay, State.bay_modBay_self] at set) }

theorem State.keeps_releaseBay (b : BayNo) (s : State) : s.Keeps (s.releaseBay b).2 := by
  unfold State.releaseBay
  simp only
  split
  · rename_i held
    have state : (s.bay b).state = .held := by simp_all
    have left : s.Leaves b (s.emptyPending b) :=
      State.Leaves.recomputed (by rw [state]; rfl) (fun _ => BitVec.zero_and) id
    split <;> dsimp only
    · exact left.keeps_enter rfl (by decide) (by decide) (by decide)
    · exact left.keeps_spinDownWith _
  · exact .refl s

/-- The reinit of a bay that TAKE CONTEXT accepts. -/
theorem State.keeps_reinitBay {s : State} {b : BayNo} (accepts : (s.bay b).acceptsContext = true) :
    s.Keeps (s.reinitBay b) := by
  have claimless : (s.bay b).state.claimless = true := by
    cases state : (s.bay b).state <;> simp_all [BayRec.acceptsContext, BayState.claimless]
  have left : s.Leaves b ((s.modBay b BayRec.reinit).recomputeAttn) :=
    State.Leaves.recomputed claimless (fun _ => BitVec.zero_and) (fun set => nomatch set)
  unfold State.reinitBay
  dsimp only
  split
  · exact left.keeps_enter rfl (by decide) (by decide) (by decide)
  · rename_i stays
    have stays : (s.bay b).state = .stopped ∨ (s.bay b).state = .vacant := by
      cases state : (s.bay b).state <;> simp_all [BayRec.acceptsContext]
    have bay : ((s.modBay b BayRec.reinit).recomputeAttn).bay b = (s.bay b).reinit := s.bay_modBay_self b _
    have state : (s.bay b).reinit.state = (s.bay b).state := rfl
    refine (left.toOnlyBay.turns ?_ ?_ ?_ left.arbiter left.scheduler left.flag ?_).keeps
    all_goals rw [bay]
    · intro outputs
      rcases stays with stopped | vacant
      · simp_all [BayRec.outputsFollow, BayRec.reinit]
      · simp_all [BayRec.outputsFollow, BayRec.reinit]
    · intro _ held
      rcases stays with stopped | vacant <;> simp_all
    · rw [state]; exact claimless
    · intro _ _
      rcases stays with stopped | vacant <;> simp_all

theorem State.keeps_takeContextOf (r : Req) (b : BayNo) (s : State) : s.Keeps (s.takeContextOf r b) := by
  unfold State.takeContextOf
  split
  · rename_i accepts; exact (State.keeps_reinitBay accepts).answer _ _ _ _
  · exact s.keeps_answer _ _ _ _

/-- CLEAR FAULTS at one record (R145). -/
def BayRec.cleared (r : BayRec) : BayRec :=
  if r.state = .held then { r with sticky := r.sticky &&& r.pending } else { r with sticky := 0, pending := 0 }

theorem State.clearBay_eq (b : BayNo) (s : State) : (s.clearBay b).2 = s.modBay b BayRec.cleared := rfl

/-- A cleared record differs in the fault sets alone. -/
theorem BayRec.cleared_eq (r : BayRec) :
    r.cleared = { r with sticky := r.cleared.sticky, pending := r.cleared.pending } := by
  unfold BayRec.cleared
  split <;> rfl

/-- What may be pending at a bay (R135). -/
def BayRec.nested (r : BayRec) : Prop := r.pending &&& r.sticky = r.pending ∧ (r.state = .held → r.pending ≠ 0)

theorem BayRec.cleared_nested {r : BayRec} (h : r.nested) : r.cleared.nested := by
  obtain ⟨within, held⟩ := h
  unfold BayRec.cleared
  split
  · refine ⟨?_, held⟩
    rw [BitVec.and_comm r.sticky, ← BitVec.and_assoc, BitVec.and_self, within]
  · rename_i free
    exact ⟨BitVec.zero_and, fun held => absurd held free⟩

/-- Only the fault sets of the bays differ. -/
structure State.OnlyFaultSets (s t : State) : Prop where
  blocks : t = { s with bays := t.bays }
  bays : ∀ b, t.bay b = { s.bay b with sticky := (t.bay b).sticky, pending := (t.bay b).pending }
  nested : ∀ b, (s.bay b).nested → (t.bay b).nested

theorem State.OnlyFaultSets.refl (s : State) : s.OnlyFaultSets s := ⟨rfl, fun _ => rfl, fun _ => id⟩

theorem State.OnlyFaultSets.clearBay {s t : State} (h : s.OnlyFaultSets t) (b : BayNo) :
    s.OnlyFaultSets (t.clearBay b).2 := by
  have step (x : BayNo) : ((t.clearBay b).2.bay x) = (t.bay x) ∨ ((t.clearBay b).2.bay x) = (t.bay x).cleared := by
    by_cases here : x = b
    · subst here; exact .inr (t.bay_modBay_self x _)
    · exact .inl (t.bay_modBay_ne _ here)
  refine ⟨?_, fun x => ?_, fun x nested => ?_⟩
  · have blocks := h.blocks
    exact congrArg (fun u : State => { u with bays := (t.clearBay b).2.bays }) blocks
  · rcases step x with same | cleared
    · rw [same]; exact h.bays x
    · rw [cleared, BayRec.cleared_eq, h.bays x]
  · rcases step x with same | cleared
    · rw [same]; exact h.nested x nested
    · rw [cleared]; exact BayRec.cleared_nested (h.nested x nested)

/-- Fault sets that change, with ATTN recomputed after them. -/
theorem State.OnlyFaultSets.keeps {s t : State} (h : s.OnlyFaultSets t) : s.Keeps t.recomputeAttn := by
  obtain ⟨blocks, bays, nested⟩ := h
  have stays : s.Stays t.recomputeAttn := by
    constructor
    case state => intro b; rw [State.recomputeAttn_bay, bays b]
    case latched => intro b; rw [State.recomputeAttn_bay, bays b]
    case flags => intro _ b set; rwa [State.recomputeAttn_bay, bays b] at set
    case mode => rw [State.recomputeAttn_transit, blocks]; exact id
    all_goals simp only [State.recomputeAttn_arbiter, State.recomputeAttn_scheduler]; rw [blocks]
  refine stays.keeps (fun ⟨within, case⟩ => ⟨fun b => nested b (within b), ?_⟩)
    (fun _ => State.attnShowsPending_of_recomputed rfl) (fun follow b => ?_) (fun ⟨valid, budget, _, _⟩ => ?_) ?_
  · rw [State.recomputeAttn_writes_faults, blocks]; exact case
  · rw [State.recomputeAttn_bay, bays b]; exact follow b
  · rw [State.recomputeAttn_store, State.recomputeAttn_supply, blocks]; exact ⟨valid, budget⟩
  · intro bounded
    rw [State.motionBounded, State.recomputeAttn_motion, blocks]; exact bounded

theorem State.keeps_clearBays (r : Req) (set : BaySet) (s : State) : s.Keeps (s.clearBays r set) := by
  have cleared : s.OnlyFaultSets (s.handleBays set State.clearBay).2 :=
    State.handleBays_induct (fun b t here => here.clearBay b) set (.refl s)
  exact cleared.keeps.answer _ _ _ _

/-- CLEAR FAULTS with scope CASE (R145). -/
theorem State.keeps_clearCase (s : State) :
    s.Keeps { s with faults := { s.faults with caseSticky := 0, casePending := 0 } }.recomputeAttn := by
  have stays : s.Stays { s with faults := { s.faults with caseSticky := 0, casePending := 0 } }.recomputeAttn :=
    ⟨fun _ => rfl, fun _ => rfl, rfl, rfl, rfl, rfl, rfl, rfl, fun _ _ set => set, id⟩
  exact stays.keeps (fun ⟨bays, _⟩ => ⟨bays, BitVec.zero_and⟩) (fun _ => State.attnShowsPending_of_recomputed rfl) id
    (fun ⟨valid, budget, _, _⟩ => ⟨valid, budget⟩) id

end Sys2Proof.Machine
end

section
/-! PROOFS. Every step keeps the invariants: the statements O55 to O60. -/

namespace Sys2Proof.Machine

/-! ### Settings -/

/-- A setting that is set leaves the settings within their ranges and cross-checks (R164, R165). -/
theorem CaseSettings.set?_valid {c d : CaseSettings} {n v : Nat} (h : c.valid = true) (set : c.set? n v = some d) :
    d.valid = true := by
  simp only [CaseSettings.valid, within, Bool.and_eq_true, decide_eq_true_eq] at h ⊢
  unfold CaseSettings.set? at set
  split at set
  case h_22 => exact nomatch set
  case h_4 | h_7 | h_8 | h_9 | h_18 =>
    obtain ⟨_, -, rfl⟩ := Option.map_eq_some_iff.mp set
    exact h
  all_goals
    rw [Option.ite_none_right_eq_some] at set
    simp only [within, Bool.and_eq_true, decide_eq_true_eq] at set
    obtain ⟨range, some⟩ := set
    obtain rfl := Option.some.inj some
    simp only
    omega

theorem Profile.all_valid_set {v : Vector Profile 8} (h : v.all Profile.valid = true) {p : Profile} (valid : p.valid = true)
    (n : Fin 8) : (v.set n.val p n.isLt).all Profile.valid = true := by
  rw [Vector.all_eq_true] at h ⊢
  intro i below
  rw [Vector.getElem_set]
  split
  · exact valid
  · exact h i below

/-- Working settings that pass their checks replace others. -/
theorem State.keeps_modWorking (s : State) {f : WorkingSettings → WorkingSettings}
    (h : s.store.working.valid = true → (f s.store.working).valid = true) : s.Keeps (s.modWorking f) := by
  have idle : s.Idle (s.modWorking f) := State.idle_of_bays rfl id rfl rfl rfl rfl
  exact idle.keeps (fun ⟨valid, budget, _, _⟩ => ⟨h valid, budget⟩) id

/-- The masks and the selections pass every check (R168). -/
theorem State.keeps_modChoices (s : State) {f : WorkingSettings → WorkingSettings}
    (case : (f s.store.working).case = s.store.working.case)
    (profiles : (f s.store.working).profiles = s.store.working.profiles) : s.Keeps (s.modWorking f) :=
  s.keeps_modWorking fun valid => by rw [WorkingSettings.valid, case, profiles]; exact valid

/-- Settings and the image change beside the invariants. -/
theorem State.keeps_modStore (s : State) {f : Store → Store} (h : (f s.store).working = s.store.working) :
    s.Keeps (s.modStore f) := by
  have idle : s.Idle (s.modStore f) := State.idle_of_bays rfl id rfl rfl rfl rfl
  refine idle.keeps (fun ⟨valid, budget, _, _⟩ => ⟨?_, budget⟩) id
  exact (congrArg WorkingSettings.valid h).trans valid

theorem State.keeps_quietCodeChanged (s : State) : s.Keeps s.quietCodeChanged := by
  unfold State.quietCodeChanged
  split
  · exact s.keeps_startQuiet
  · exact .refl s

theorem State.keeps_settingTakesEffect (n : Nat) (s : State) : s.Keeps (s.settingTakesEffect n) := by
  unfold State.settingTakesEffect
  split
  iterate 2 exact s.keeps_deriveBudget.trans (State.keeps_evaluate _)
  iterate 6 exact s.keeps_evaluate
  · exact s.keeps_startPass
  · exact s.keeps_quietCodeChanged
  · exact .refl s

theorem State.keeps_setSettingTo (r : Req) (n : Byte) (v : Nat) (s : State) : s.Keeps (s.setSettingTo r n v) := by
  unfold State.setSettingTo
  split
  · rename_i c set
    have written : s.Keeps (s.modWorking (fun w => { w with case := c })) := s.keeps_modWorking fun valid => by
      rw [WorkingSettings.valid, Bool.and_eq_true] at valid ⊢
      exact ⟨CaseSettings.set?_valid valid.1 set, valid.2⟩
    exact (written.trans (State.keeps_settingTakesEffect _ _)).answer _ _ _ _
  · exact s.keeps_answer _ _ _ _

theorem State.keeps_setProfileTo (r : Req) (n : Fin 8) (p : Profile) (s : State) : s.Keeps (s.setProfileTo r n p) := by
  unfold State.setProfileTo
  split
  · rename_i fits
    refine State.Keeps.answer (s.keeps_modWorking fun valid => ?_) _ _ _ _
    rw [WorkingSettings.valid, Bool.and_eq_true] at valid ⊢
    exact ⟨valid.1, Profile.all_valid_set valid.2 fits n⟩
  · exact s.keeps_answer _ _ _ _

theorem State.keeps_setSelection (r : Req) (b : BayNo) (p : Byte) (s : State) : s.Keeps (s.setSelection r b p) := by
  unfold State.setSelection
  split
  · exact (s.keeps_modChoices rfl rfl).answer _ _ _ _
  · exact s.keeps_answer _ _ _ _

/-- An image that passes its check holds valid settings (R168). -/
theorem StoreImage.passes_valid {i : StoreImage} (h : i.passes = true) : i.values.valid = true := by
  rw [StoreImage.passes, Bool.and_eq_true] at h
  exact h.1

theorem State.keeps_recallImage {s : State} (passes : s.store.image.passes = true) : s.Keeps s.recallImage := by
  have replaced : s.Keeps (s.modWorking (fun _ => s.store.image.values)) :=
    s.keeps_modWorking (f := fun _ => s.store.image.values) fun _ => StoreImage.passes_valid passes
  have recalled : s.Keeps ((s.modWorking (fun _ => s.store.image.values)).deriveBudget).evaluate.startPass :=
    ((replaced.trans (State.keeps_deriveBudget _)).trans (State.keeps_evaluate _)).trans (State.keeps_startPass _)
  unfold State.recallImage
  simp only
  split
  · exact recalled
  · exact recalled.trans (State.keeps_quietCodeChanged _)

/-! ### Resets and RESTART -/

/-- Every bay is VACANT or STOPPED without a fault, the arbiter, the scheduler and the Fault Unit are at their reset values. -/
structure State.Restarted (t : State) : Prop where
  states : ∀ b, (t.bay b).state = .vacant ∨ (t.bay b).state = .stopped
  pending : ∀ b, (t.bay b).pending = 0
  flag : ∀ b, (t.bay b).loadOnArrival = false
  arbiter : t.arbiter = .reset
  scheduler : t.scheduler = .reset
  faults : t.faults = .reset

/-- A restarted case has every invariant that its settings, outputs and the Motion Monitor have no part in. -/
theorem State.Restarted.keeps {s t : State} (h : t.Restarted) (outputs : s.outputsFollow → t.outputsFollow)
    (settings : s.settingsAndSurgeBounded → t.store.working.valid = true ∧ t.supply.budget ≤ 63)
    (motion : s.motionBounded → t.motionBounded) : s.Keeps t := by
  obtain ⟨states, pending, flag, arbiter, scheduler, faults⟩ := h
  have state (b : BayNo) {st : BayState} (notVacant : st ≠ .vacant) (notStopped : st ≠ .stopped) :
      (t.bay b).state ≠ st := by
    rcases states b with here | here
    · rw [here]; exact notVacant.symm
    · rw [here]; exact notStopped.symm
  have surge (b : BayNo) : (t.bay b).surge = 0 := by rcases states b with here | here <;> simp [BayRec.surge, here]
  have grant (b : BayNo) : (t.bay b).holdsGrant = false := by
    rcases states b with here | here <;> simp [BayRec.holdsGrant, here]
  constructor
  case quiet =>
    exact fun _ _ _ b => ⟨state b (by decide) (by decide), state b (by decide) (by decide),
      state b (by decide) (by decide), state b (by decide) (by decide), state b (by decide) (by decide), flag b⟩
  constructor
  case nested =>
    refine fun _ => ⟨fun b => ⟨by rw [pending b]; exact BitVec.zero_and, fun held => ?_⟩, by rw [faults]; rfl⟩
    exact absurd held (state b (by decide) (by decide))
  case attn => intro _; simp [State.attnShowsPending, faults, FaultUnit.reset, pending]
  case outputs => exact outputs
  case bounds =>
    intro bounds
    obtain ⟨valid, budget⟩ := settings bounds
    exact ⟨valid, budget, by rw [arbiter]; exact Nat.zero_le _, by rw [arbiter]; exact Nat.zero_le _⟩
  case motion => exact motion
  case queues =>
    refine fun _ => t.queuesMatch_iff.mpr ?_
    rw [arbiter, scheduler]
    exact ⟨List.nodup_nil, fun b => by simp [Arbiter.bays, Arbiter.reset, state b],
      List.nodup_nil, fun b => by simp [Scheduler.waiting, Scheduler.reset, state b]⟩
  case counts =>
    refine fun _ _ => ⟨?_, ?_, fun b spinning => absurd spinning (state b (by decide) (by decide)), ?_⟩
    · simp [surge, arbiter, Arbiter.reset, allBays]
    · simp [grant, arbiter, Arbiter.reset]
    · have noUnloading (b : BayNo) : ((t.bay b).state == .unloading) = false := by
        simpa using state b (st := .unloading) (by decide) (by decide)
      simp [scheduler, Scheduler.reset, noUnloading]
  case converter => intro _ _ b; simp [arbiter, Arbiter.reset, Converter.free, state b]

theorem State.keeps_afterReset (s : State) (now : Nat) : s.Keeps (s.afterReset now) := by
  have restarted : (s.afterReset now).Restarted :=
    ⟨fun b => .inl (by rw [State.afterReset_bay]; rfl), fun b => by rw [State.afterReset_bay]; rfl,
      fun b => by rw [State.afterReset_bay]; rfl, rfl, rfl, rfl⟩
  refine restarted.keeps (fun _ b => ?_) (fun _ => ⟨WorkingSettings.factory_valid, Nat.zero_le _⟩) (fun _ => ?_)
  · rw [State.afterReset_bay]
    exact ⟨by simp [BayRec.afterReset, BayRec.reset], rfl⟩
  · simp [State.motionBounded, State.afterReset, Motion.reset]

/-- RESTART at one record (R27). -/
def BayRec.restarted (p : Profile) (now : Nat) (r : BayRec) : BayRec :=
  { (match r.state with
      | .queued | .fenced | .held => r.enter .stopped p now
      | .vacant | .stopped | .spinningUp | .spun | .loading | .loaded | .parkQueued | .unloading | .spinningDown
      | .diag => r) with
    sticky := 0, pending := 0, attempts := 0, intent := .none, spindleOn := false, loadOnArrival := false, latched := none }

theorem State.restartBay_bay_self (s : State) (b : BayNo) :
    (s.restartBay b).bay b = (s.bay b).restarted (s.governing b) s.now := by
  unfold State.restartBay BayRec.restarted
  rw [State.bay_modBay_self]
  cases state : (s.bay b).state <;> simp [State.enterQuietly]

theorem State.sameCase_restartBay (s : State) (b : BayNo) : s.SameCase (s.restartBay b) := by
  unfold State.restartBay
  refine State.SameCase.trans ?_ (State.sameCase_modBay _ _ _)
  split
  iterate 3 exact s.sameCase_modBay b _
  all_goals exact .refl s

/-- What RESTART leaves of each record. -/
theorem State.forBays_restartBay (s : State) (x : BayNo) :
    s.SameCase (s.forBays State.restartBay) ∧
      (s.forBays State.restartBay).bay x = (s.bay x).restarted (s.governing x) s.now := by
  refine State.foldl_brings (f := fun b t => State.restartBay b t) (b := x) (P := fun t => s.SameCase t ∧ t.bay x = s.bay x)
    (Q := fun t => s.SameCase t ∧ t.bay x = (s.bay x).restarted (s.governing x) s.now) nodup_allBays (mem_allBays x)
    (fun y t other ⟨same, bay⟩ => ⟨same.trans (t.sameCase_restartBay y), (t.restartBay_bay_ne (Ne.symm other)).trans bay⟩)
    (fun t ⟨same, bay⟩ => ⟨same.trans (t.sameCase_restartBay x), ?_⟩)
    (fun y t other ⟨same, bay⟩ => ⟨same.trans (t.sameCase_restartBay y), (t.restartBay_bay_ne (Ne.symm other)).trans bay⟩)
    ⟨.refl s, rfl⟩
  rw [State.restartBay_bay_self, bay, State.governing_congr same.store bay, same.now]

theorem BayRec.restarted_outputsFollow {r : BayRec} (accepts : r.refusesRestart = false) (h : r.outputsFollow)
    (p : Profile) (now : Nat) : (r.restarted p now).outputsFollow := by
  cases state : r.state <;>
    simp_all [BayRec.restarted, BayRec.refusesRestart, BayRec.outputsFollow, BayRec.enter, BayState.spenOnEntry,
      BayState.hldOnEntry]

/-- RESTART that no bay refuses. -/
theorem State.keeps_restartBlocks {s : State} (accept : ∀ b, (s.bay b).refusesRestart = false) :
    s.Keeps s.restartBlocks := by
  have bay (b : BayNo) : s.restartBlocks.bay b = (s.bay b).restarted (s.governing b) s.now := by
    rw [State.restartBlocks_bay, (s.forBays_restartBay b).2]
  have same := (s.forBays_restartBay 0).1
  have restarted : s.restartBlocks.Restarted := by
    refine ⟨fun b => ?_, fun b => by rw [bay]; rfl, fun b => by rw [bay]; rfl, rfl, rfl, rfl⟩
    rw [State.restartBlocks_state (accept b)]
    split
    · exact .inl rfl
    · exact .inr rfl
  refine restarted.keeps (fun follow b => ?_) (fun ⟨valid, budget, _, _⟩ => ?_) ?_
  · rw [bay]; exact BayRec.restarted_outputsFollow (accept b) (follow b) _ _
  · simp only [State.restartBlocks]
    rw [same.store, same.supply]
    exact ⟨valid, budget⟩
  · rintro ⟨jolts, fit, closed, -, -⟩
    simp only [State.motionBounded, State.restartBlocks]
    rw [same.motion]
    exact ⟨jolts, fit, closed, Nat.zero_le _, Nat.zero_le _⟩

theorem State.keeps_takeRestart (r : Req) {s : State} (accept : ∀ b, (s.bay b).refusesRestart = false) :
    s.Keeps (s.takeRestart r) := by
  have blocks := State.keeps_restartBlocks (s := s.answer .restart r .done []) accept
  exact (((s.keeps_answer .restart r .done []).trans blocks).trans (State.keeps_startTransit _)).trans
    (State.keeps_addCaseEvent _ _)

/-! ### The handlers -/

theorem keeps_handleSpinUp (r : Req) (s : State) : s.Keeps (handleSpinUp r s) := by
  unfold handleSpinUp
  split
  · split
    · exact s.keeps_checkedBays _ _ _ fun b s => State.keeps_safeBay b s fun normal => State.keeps_spinUpBay normal _ b
    · exact s.keeps_answer _ _ _ _
  · exact s.keeps_answer _ _ _ _

theorem keeps_handleUnload (r : Req) (s : State) : s.Keeps (handleUnload r s) := by
  unfold handleUnload
  split
  · split
    · exact s.keeps_checkedBays _ _ _ fun b s => s.keeps_unloadBay _ b
    · exact s.keeps_answer _ _ _ _
  · exact s.keeps_answer _ _ _ _

theorem keeps_handleClearFaults (r : Req) (s : State) : s.Keeps (handleClearFaults r s) := by
  unfold handleClearFaults
  split
  · split
    · exact s.keeps_clearCase.answer _ _ _ _
    · split
      · exact s.keeps_answer _ _ _ _
      · exact s.keeps_clearBays r _
    · exact s.keeps_answer _ _ _ _
  · exact s.keeps_answer _ _ _ _

theorem keeps_handleSetProfile (r : Req) (s : State) : s.Keeps (handleSetProfile r s) := by
  unfold handleSetProfile
  split
  · split
    · split
      · exact s.keeps_checked _ r (s.keeps_setProfileTo r _ _)
      · exact s.keeps_answer _ _ _ _
    · exact s.keeps_answer _ _ _ _
  · exact s.keeps_answer _ _ _ _

theorem keeps_handleViewBay (r : Req) (s : State) : s.Keeps (handleViewBay r s) := by
  unfold handleViewBay
  split
  · split
    · unfold State.viewNext
      split
      · exact (s.keeps_modLink _).answer _ _ _ _
      · exact s.keeps_answer _ _ _ _
    · split
      · unfold State.viewNamed
        split
        · exact s.keeps_answer _ _ _ _
        · exact (s.keeps_modLink _).answer _ _ _ _
      · exact s.keeps_answer _ _ _ _
  · exact s.keeps_answer _ _ _ _

theorem keeps_handleCommit (r : Req) (s : State) : s.Keeps (handleCommit r s) := by
  refine s.keeps_withEmptyBody _ r (s.keeps_checked _ r ?_)
  split
  · exact s.keeps_answer _ _ _ _
  · have started : s.Keeps s.startCommit := s.keeps_modStore rfl
    exact started.answer _ _ _ _

theorem keeps_handleRecall (r : Req) (s : State) : s.Keeps (handleRecall r s) := by
  refine s.keeps_withEmptyBody _ r (s.keeps_checked _ r ?_)
  split
  · exact s.keeps_answer _ _ _ _
  · split
    · rename_i passes; exact (State.keeps_recallImage passes).answer _ _ _ _
    · exact (s.keeps_reportCase _).answer _ _ _ _

theorem keeps_handleRestart (r : Req) (s : State) : s.Keeps (handleRestart r s) := by
  refine s.keeps_withEmptyBody _ r (s.keeps_checked _ r ?_)
  split
  · exact s.keeps_answer _ _ _ _
  · split
    · exact s.keeps_answer _ _ _ _
    · rename_i accept
      exact State.keeps_takeRestart r fun b => Bool.eq_false_iff.mpr fun refuses =>
        accept ((s.bays_any_iff _).mpr ⟨b, refuses⟩)

/-- What the handler of each kind keeps. -/
theorem keeps_handler (k : ReqKind) (r : Req) (s : State) : s.Keeps (handler k r s) := by
  cases k with
  | status => exact s.keeps_withEmptyBody _ r (s.keeps_answer _ _ _ _)
  | viewBay => exact keeps_handleViewBay r s
  | viewPin | viewUnpin =>
    simp only [handler, handleViewPin, handleViewUnpin]
    refine s.keeps_withEmptyBody _ r ?_
    exact (s.keeps_modLink _).answer _ _ _ _
  | viewEnvironment =>
    simp only [handler, handleViewEnvironment]
    refine s.keeps_withEmptyBody _ r ?_
    exact (s.keeps_modChoices rfl rfl).answer _ _ _ _
  | readJolts =>
    simp only [handler, handleReadJolts]
    split
    · split
      · exact s.keeps_answer _ _ _ _
      · exact s.keeps_checked_answer _ _ r _ _
    · exact s.keeps_answer _ _ _ _
  | spinUp => exact keeps_handleSpinUp r s
  | spinDown =>
    simp only [handler, handleSpinDown]
    split
    · exact s.keeps_checkedBays _ _ _ fun b s => s.keeps_spinDownBay b
    · exact s.keeps_answer _ _ _ _
  | load =>
    simp only [handler, handleLoad]
    split
    · exact s.keeps_checkedBays _ _ _ fun b s => State.keeps_safeBay b s fun normal => State.keeps_loadBay normal b
    · exact s.keeps_answer _ _ _ _
  | unload => exact keeps_handleUnload r s
  | testWinding =>
    simp only [handler, handleTestWinding]
    split
    · exact s.keeps_checkedBays _ _ _ fun b s => State.keeps_safeBay b s fun normal => State.keeps_testBay normal b
    · exact s.keeps_answer _ _ _ _
  | release =>
    simp only [handler, handleRelease]
    split
    · split
      · exact s.keeps_answer _ _ _ _
      · exact s.keeps_answerBays _ _ _ fun b s => s.keeps_releaseBay b
    · exact s.keeps_answer _ _ _ _
  | clearFaults => exact keeps_handleClearFaults r s
  | takeContext =>
    simp only [handler, handleTakeContext]
    split
    · split
      · exact s.keeps_checked _ r (s.keeps_takeContextOf r _)
      · exact s.keeps_answer _ _ _ _
    · exact s.keeps_answer _ _ _ _
  | setMasks =>
    simp only [handler, handleSetMasks]
    split
    · exact (s.keeps_modChoices rfl rfl).answer _ _ _ _
    · exact s.keeps_answer _ _ _ _
  | forceSafe => exact s.keeps_withEmptyBody _ r (s.keeps_checked _ r (s.keeps_enterSafe.answer _ _ _ _))
  | leaveSafe => exact s.keeps_withEmptyBody _ r (s.keeps_checked _ r (s.keeps_leaveSafe.answer _ _ _ _))
  | setSetting =>
    simp only [handler, handleSetSetting]
    split
    · split
      · exact s.keeps_answer _ _ _ _
      · exact s.keeps_checked _ r (s.keeps_setSettingTo r _ _)
    · exact s.keeps_answer _ _ _ _
  | getSetting =>
    simp only [handler, handleGetSetting]
    split
    · split
      · exact s.keeps_answer _ _ _ _
      · exact s.keeps_checked_answer _ _ r _ _
    · exact s.keeps_answer _ _ _ _
  | setProfile => exact keeps_handleSetProfile r s
  | getProfile =>
    simp only [handler, handleGetProfile]
    split
    · split
      · exact s.keeps_checked_answer _ _ r _ _
      · exact s.keeps_answer _ _ _ _
    · exact s.keeps_answer _ _ _ _
  | setBay =>
    simp only [handler, handleSetBay]
    split
    · split
      · exact s.keeps_checked _ r (s.keeps_setSelection r _ _)
      · exact s.keeps_answer _ _ _ _
    · exact s.keeps_answer _ _ _ _
  | commit => exact keeps_handleCommit r s
  | restart => exact keeps_handleRestart r s
  -- RECALL, whose name is a keyword of Mathlib.
  | _ => exact keeps_handleRecall r s

/-! ### The link -/

theorem keeps_takeFrame (kind : Byte) (r : Req) (s : State) : s.Keeps (takeFrame kind r s) := by
  unfold takeFrame
  split
  · exact s.keeps_takeRequest _ r fun s => keeps_handler _ r s
  · have replied (t : State) (st : Status) : t.Keeps (t.replyWith unknownReplyKind r.tag st []) :=
      State.keeps_of_blocks rfl rfl rfl rfl rfl rfl rfl rfl
    unfold takeUnknown
    simp only
    refine s.keeps_frameArrived.trans ?_
    split
    · exact .refl _
    · split <;> exact replied _ _

theorem State.keeps_hunt (s : State) : s.Keeps s.hunt := s.keeps_modLink _

theorem State.keeps_completeFrame (l : List Byte) (s : State) : s.Keeps (s.completeFrame l) := by
  unfold State.completeFrame
  split
  · split
    · exact keeps_takeFrame _ _ s
    · exact s.keeps_hunt
  · exact s.keeps_hunt

theorem State.keeps_collectByte (l : List Byte) (b : Byte) (s : State) : s.Keeps (s.collectByte l b) := by
  unfold State.collectByte
  split
  · split
    · exact s.keeps_hunt
    · exact s.keeps_modLink _
  · simp only
    split
    · exact s.keeps_modLink _
    · exact State.keeps_completeFrame _ s

theorem State.keeps_receiveByte (b : Byte) (s : State) : s.Keeps (s.receiveByte b) := by
  have hunted : s.Keeps (if s.gapPassed then s.hunt else s) := by
    split
    · exact s.keeps_hunt
    · exact .refl s
  unfold State.receiveByte
  simp only
  refine hunted.trans ?_
  generalize (if s.gapPassed then s.hunt else s) = t
  split
  · split
    · exact t.keeps_modLink _
    · exact .refl _
  · exact State.keeps_collectByte _ _ t

/-! ### Commands -/

/-- The event of a timer's end. -/
theorem State.keeps_onDue (s : State) (due : Option Nat) {f : State → State}
    (h : ∀ t, s.Keeps (f (s.advanceTo t))) : s.Keeps (s.onDue due f) := by
  cases due with
  | none => exact .refl s
  | some t => exact h t

/-- The event of a timer's end in one state of the bay. -/
theorem State.keeps_inState_onDue (s : State) (b : BayNo) (st : BayState) {due : State → Option Nat}
    {f : State → State} (h : ∀ s : State, (s.bay b).state = st → s.Keeps (f s)) :
    s.Keeps (s.inState b st (fun s => s.onDue (due s) f)) := by
  unfold State.inState
  split
  · rename_i state
    exact s.keeps_onDue _ fun t => (s.keeps_advanceTo t).trans (h _ state)
  · exact .refl s

theorem State.keeps_startPulse {s : State} {b : BayNo} (h : (s.bay b).state = .diag) (reading : Nat) :
    s.Keeps (s.startPulse b reading) := by
  have converted : s.Keeps (s.modArbiter (fun a => { a with
      converter := { a.converter with offsetDue := none, offset := some reading } })) := by
    have stays : s.Stays (s.modArbiter (fun a => { a with
        converter := { a.converter with offsetDue := none, offset := some reading } })) :=
      ⟨fun _ => rfl, fun _ => rfl, rfl, rfl, rfl, rfl, rfl, rfl, fun _ _ set => set, id⟩
    exact stays.keeps id id id (fun ⟨valid, budget, _, _⟩ => ⟨valid, budget⟩) id
  unfold State.startPulse
  dsimp only
  refine converted.trans (State.keeps_modBay _ ⟨rfl, rfl, rfl, rfl, fun follow => ?_⟩ fun _ => id)
  obtain ⟨hold, -⟩ := follow
  have state : ((s.modArbiter (fun a => { a with
    converter := { a.converter with offsetDue := none, offset := some reading } })).bay b).state = .diag := h
  refine ⟨hold, ?_⟩
  rw [state]
  rfl

theorem State.keeps_endLoad (s : State) : s.Keeps s.endLoad := by
  have loaded : s.Keeps (s.modStore (fun t => { t with loading := false })) := s.keeps_modStore rfl
  have installed (t : State) : t.Keeps t.installImage := by
    unfold State.installImage
    split
    · rename_i passes; exact t.keeps_modWorking fun _ => StoreImage.passes_valid passes
    · exact t.keeps_reportCase _
  have readings (t : State) : t.Keeps t.startReadings := t.keeps_modSupply rfl
  exact (((loaded.trans (installed _)).trans (readings _)).trans (State.keeps_startTransit _)).trans
    (State.keeps_addCaseEvent _ _)

theorem State.keeps_endCommit (v : Bool) (c : WorkingSettings) (s : State) : s.Keeps (s.endCommit v c) := by
  have ended (image : StoreImage) : s.Keeps (s.modStore (fun t => { t with commit := none, image := image })) :=
    s.keeps_modStore rfl
  cases v with
  | true => exact (ended _).trans (State.keeps_addCaseEvent _ _)
  | false => exact (ended _).trans ((State.keeps_addCaseEvent _ _).trans (State.keeps_reportCase _ _))

/-- What the body of an event keeps. -/
theorem EventBody.keeps {body : State → State} (h : EventBody body) (s : State) : s.Keeps (body s) := by
  cases h with
  | loadEnd =>
    dsimp only
    split
    · exact s.keeps_endLoad
    · exact .refl s
  | debounce b =>
    exact (s.keeps_toMark readingPeriod 0).trans
      (State.keeps_inState_onDue _ b _ fun _ state => State.keeps_insert state)
  | presence b => exact s.keeps_presDeasserted b
  | pulse b => exact s.keeps_pulse b
  | gap b =>
    dsimp only
    split
    · exact s.keeps_onDue _ fun t => (s.keeps_advanceTo t).trans (State.keeps_speedLoss _ b)
    · exact .refl s
  | tachFirst b | hold b => exact s.keeps_inState_onDue b _ fun _ state => State.keeps_spinUpFailure state _
  | stopGap b | stopTimeout b => exact s.keeps_inState_onDue b _ fun _ state => State.keeps_reachStopped state
  | clearPrk b => exact s.keeps_clearPrk b
  | settle b => exact s.keeps_inState_onDue b _ fun _ state => State.keeps_loaded state
  | load b => exact s.keeps_inState_onDue b _ fun _ state => State.keeps_loadLate state
  | assertPrk b => exact s.keeps_assertPrk b
  | unloadDeadline b => exact s.keeps_inState_onDue b _ fun _ state => State.keeps_unloadLate state
  | offset b reading =>
    dsimp only [State.inState]
    split
    · rename_i state
      split
      · exact s.keeps_onDue _ fun t => (s.keeps_advanceTo t).trans
          (State.keeps_startPulse (s := s.advanceTo t) state reading)
      · exact .refl s
    · exact .refl s
  | testPulse b conversion => exact s.keeps_inState_onDue b _ fun _ state => State.keeps_endPulse state conversion
  | sample a => exact s.keeps_toSample.trans (State.keeps_validSample _ a)
  | missing => exact s.keeps_toSample.trans (State.keeps_missingSample _)
  | sensorLost =>
    dsimp only
    split
    · exact .refl s
    · exact State.keeps_missingSamples _ s
  | reading mv =>
    dsimp only
    split
    · exact (s.keeps_toMark readingPeriod _).trans (State.keeps_takeReading _ mv)
    · exact .refl s
  | quiet =>
    exact s.keeps_onDue _ fun t => ((s.keeps_advanceTo t).trans (State.keeps_reportCase _ _)).trans
      (State.keeps_enterSafe _)
  | commitEnd v =>
    dsimp only
    split
    · exact State.keeps_endCommit v _ s
    · exact .refl s
  | hunt => exact s.keeps_hunt
  | byteGap => exact s.keeps_onDue _ fun t => (s.keeps_advanceTo t).trans (State.keeps_hunt _)
  | byte b => exact s.keeps_receiveByte b
  | frame kind r => exact keeps_takeFrame kind r s
  | sent =>
    dsimp only
    split
    · exact (s.keeps_advanceTo _).trans (State.keeps_modLink _ _)
    · exact .refl s
  | request k r => exact s.keeps_takeRequest k r fun s => keeps_handler k r s

theorem State.keeps_elapse (s : State) (dt : Nat) : s.Keeps (s.elapse dt) :=
  State.keeps_of_blocks rfl rfl rfl rfl rfl rfl rfl rfl

theorem State.keeps_lineUp (s : State) : s.Keeps s.lineUp :=
  State.keeps_of_blocks (by simp) (by simp) (by simp) (by simp) (by simp) (by simp) (by simp) (by simp)

/-- What every command keeps. -/
theorem exec_keeps {c : Instr} {s t : State} (step : exec c s = .next t) : s.Keeps t := by
  rcases exec_cases c s with ⟨now, reset⟩ | ⟨body, event, taken⟩
  · obtain rfl : s.afterReset now = t := by simpa [reset] using step
    exact s.keeps_afterReset now
  · obtain rfl : (body (s.elapse (elapsedOf c))).lineUp = t := by simpa [taken, State.takeEvent_eq] using step
    exact ((s.keeps_elapse _).trans (event.keeps _)).trans (State.keeps_lineUp _)

/-- What every step keeps. -/
theorem step_keeps {s t : State} (step : Machine.step s = .next t) : s.Keeps t := by
  refine step_induct (P := fun t => s.Keeps t) (fun t l h => h.trans ?_) (fun t h => h.trans (t.keeps_elapse ms))
    (fun c t u h step => h.trans (exec_keeps step)) (.refl s) step
  exact State.keeps_of_blocks rfl rfl rfl rfl rfl rfl rfl rfl

/-- Settles O55. -/
theorem stepKeepsFaultSets : Obligations.StepKeepsFaultSets :=
  ⟨fun _ _ h step => (step_keeps step).nested h, fun _ _ h step => (step_keeps step).attn h⟩

/-- Settles O56. -/
theorem stepKeepsOutputs : Obligations.StepKeepsOutputs := fun _ _ h step => (step_keeps step).outputs h

/-- Settles O57. -/
theorem stepKeepsBounds : Obligations.StepKeepsBounds :=
  ⟨fun _ _ h step => (step_keeps step).bounds h, fun _ _ => step_noticesSingle, fun _ _ h step => (step_keeps step).motion h⟩

/-- Settles O58. -/
theorem stepKeepsQueues : Obligations.StepKeepsQueues := fun _ _ h step => (step_keeps step).queues h

/-- Settles O59. -/
theorem stepKeepsCounts : Obligations.StepKeepsCounts :=
  ⟨fun _ _ q h step => (step_keeps step).counts q h, fun _ _ q h step => (step_keeps step).converter q h⟩

/-- Settles O60. -/
theorem stepKeepsSafeQuiet : Obligations.StepKeepsSafeQuiet := fun _ _ q h step => (step_keeps step).quiet q h

end Sys2Proof.Machine
end

section
/-! PROOFS. The requests that read and those that write the masks: the statements O36, O37, O39 and O48. -/

namespace Sys2Proof.Machine

/-! ### Commands as events -/

/-- A request whose handler takes it. -/
theorem exec_of_hands {s : State} {k : ReqKind} {r : Req} (hands : s.hands k r) (dt : Nat) :
    exec (commandOf k dt r) s = .next (handler k r (s.elapse dt).frameArrived).lineUp := by
  rw [exec_commandOf, State.takeEvent_eq, takeRequest_of_hands (s := s.elapse dt) hands]

/-- A handler that only answers. -/
theorem State.answers_of_hands {s : State} {k : ReqKind} {r : Req} (hands : s.hands k r) (dt : Nat) {st : Status}
    {body : List Byte} (answers : handler k r (s.elapse dt).frameArrived = (s.elapse dt).frameArrived.answer k r st body) :
    ∃ t, exec (commandOf k dt r) s = .next t ∧ s.onlyAnswered t dt ∧ s.nothingRaised t ∧ t.replied k r st body := by
  rw [exec_commandOf]
  exact State.takeRequest_onlyAnswers hands answers

/-- A request with an empty body. -/
theorem withEmptyBody_of_nil {k : ReqKind} {r : Req} {go : State → State} (h : r.body = []) (s : State) :
    withEmptyBody k r go s = go s := by
  rw [withEmptyBody, h]

/-! ### STATUS (R184) -/

/-- A flag in a byte. -/
theorem getLsbD_flagBit (k : Nat) (f : Bool) (i : Nat) :
    (flagBit k f).getLsbD i = (f && decide (i < 8) && decide (i = k)) := by
  unfold flagBit
  cases f
  · simp
  · rw [if_pos rfl, getLsbD_bitAt, Bool.true_and]

/-- SUMMARY is eight flags (R179). -/
theorem State.summary_eq (s : State) (waiting : Bool) :
    s.summary waiting =
      flagBit 0 (s.transit.mode == .transitSafe) ||| (flagBit 1 (s.motion.cls == .still) ||| flagBit 2 (s.motion.cls == .rolling)) |||
      (flagBit 3 (s.supply.cls == .low) ||| flagBit 4 (s.supply.cls == .cut)) |||
      flagBit 5 s.faults.attn ||| flagBit 6 waiting ||| flagBit 7 s.store.loading := by
  have mode (m : TransitMode) : m.code = flagBit 0 (m == .transitSafe) := by cases m <;> rfl
  have motion (c : MotionClass) : c.code <<< 1 = flagBit 1 (c == .still) ||| flagBit 2 (c == .rolling) := by
    cases c <;> rfl
  have supply (c : SupplyClass) : c.code <<< 3 = flagBit 3 (c == .low) ||| flagBit 4 (c == .cut) := by
    cases c <;> rfl
  rw [State.summary, mode, motion, supply]

/-- The reply that an answer places in an empty slot, with its SUMMARY. -/
theorem State.answer_slot (s : State) (k : ReqKind) (r : Req) (st : Status) (body : List Byte) :
    (s.answer k r st body).lineUp.link.slot = some {
      kind := k.code + 0x80, tag := r.tag, status := st,
      summary := s.summary (!s.link.notices.isEmpty), body := body } := by
  rw [State.lineUp_slot]
  rfl

/-- Neither the time that passes nor the frame's arrival changes SUMMARY. -/
theorem State.summary_arrived (s : State) (dt : Nat) (waiting : Bool) :
    (s.elapse dt).frameArrived.summary waiting = s.summary waiting := by
  simp [State.summary, State.transitAfterFrame]

theorem State.baysWithPending_arrived (s : State) (dt : Nat) :
    (s.elapse dt).frameArrived.baysWithPending = s.baysWithPending := by
  simp [State.baysWithPending]

theorem State.statusImage_arrived (s : State) (dt : Nat) : (s.elapse dt).frameArrived.statusImage = s.statusImage := by
  rw [State.statusImage, State.baysWithPending_arrived]
  simp [State.statusImage, State.environmentFlags, State.unloadQueueLength]

/-- Settles O36. -/
theorem statusReportsTheCase : Obligations.StatusReportsTheCase := by
  intro dt r s hands
  have ⟨_, _, length⟩ := hands
  have answers : handler .status r (s.elapse dt).frameArrived =
      (s.elapse dt).frameArrived.answer .status r .done s.statusImage := by
    rw [← s.statusImage_arrived dt]
    exact withEmptyBody_of_nil (List.length_eq_zero_iff.mp length) _
  refine ⟨_, exec_of_hands hands dt, ?_⟩
  rw [answers]
  refine ⟨s.onlyAnswered_answer dt _ r _ _, ?replied, _, State.answer_slot _ _ _ _ _, ?_⟩
  case replied =>
    have flags : s.environmentFlags false =
        flagBit 1 s.motion.lost ||| flagBit 2 s.supply.lastReading.isSome ||| flagBit 3 s.store.commit.isSome := by
      have none : flagBit 0 false ||| flagBit 1 s.motion.lost = flagBit 1 s.motion.lost := BitVec.zero_or
      rw [State.environmentFlags, none]
    rw [State.statusImage, flags]
    exact State.lineUp_replied (State.answer_replied _ _ _ _ _)
  · rw [State.summary_arrived, State.summary_eq]
    simp only [BitVec.getLsbD_or, getLsbD_flagBit]
    simp

/-! ### VIEW BAY (R185) -/

/-- A byte that is no bay and not NEXT names no bay. -/
theorem bayOf_above {n : Byte} (h : 16 ≤ n.toNat) : bayOf n = none := by
  rw [bayOf, dif_neg (by omega)]

/-- The byte of a number below 16 is that of the bay. -/
theorem eq_ofNat_bay {n : Byte} {b : BayNo} (h : n.toNat = b.val) : n = BitVec.ofNat 8 b.val := by
  rw [← h, BitVec.ofNat_toNat, BitVec.setWidth_eq]

theorem handleViewBay_argument {r : Req} {s : State} {n : Byte} (body : r.body = [n]) (lower : 16 ≤ n.toNat)
    (upper : n.toNat ≤ 254) : handleViewBay r s = s.answer .viewBay r .argument [] := by
  have named : n ≠ 0xFF := by rintro rfl; exact absurd upper (by decide)
  simp only [handleViewBay, body, if_neg named, bayOf_above lower]

theorem handleViewBay_named {r : Req} {s : State} {b : BayNo} (body : r.body = [BitVec.ofNat 8 b.val])
    (free : s.link.pin = none) :
    handleViewBay r s = (s.setView b.succ none).answer .viewBay r .done (s.bayImage b) := by
  have unpinned : ¬ s.link.pin.isSome = true := by rw [free]; exact Bool.false_ne_true
  simp only [handleViewBay, body, if_neg (ofNat_bay_ne_next b), bayOf_ofNat, State.viewNamed, if_neg unpinned]
  rw [← free]
  rfl

/-- VIEW BAY NEXT past the last bay (R185). -/
theorem handleViewBay_past {r : Req} {s : State} (body : r.body = [0xFF]) (past : s.link.cursor.val = 16) :
    handleViewBay r s = s.answer .viewBay r .done [] := by
  simp only [handleViewBay, body, if_pos, State.viewNext, past]
  rfl

/-- A handler that writes the cursor and answers. -/
theorem State.setsView_of_hands {s : State} {k : ReqKind} {r : Req} (hands : s.hands k r) (dt : Nat) {cursor : Fin 17}
    {pin : Option (Fin 17)} {st : Status} {body : List Byte}
    (writes : handler k r (s.elapse dt).frameArrived =
      ((s.elapse dt).frameArrived.setView cursor pin).answer k r st body) :
    ∃ t, exec (commandOf k dt r) s = .next t ∧ t.now = s.now + dt ∧ s.driveKept t ∧
      t.transit = s.transitAfterFrame (s.now + dt) ∧ t.faults = s.faults ∧ t.store = s.store ∧ s.nothingRaised t ∧
      t.replied k r st body ∧ t.link.cursor = cursor ∧ t.link.pin = pin := by
  obtain ⟨writesCursor, writesPin⟩ := (s.elapse dt).frameArrived.setView_answer_link cursor pin k r st body
  refine ⟨_, exec_of_hands hands dt, ?_⟩
  rw [writes]
  refine ⟨by simp [State.setView], by simp [State.driveKept, State.setView], by simp [State.setView],
    by simp [State.setView], by simp [State.setView], ?_, State.lineUp_replied (State.answer_replied _ _ _ _ _),
    by rw [State.lineUp_cursor, writesCursor], by rw [State.lineUp_pin, writesPin]⟩
  have stands : (((s.elapse dt).frameArrived.setView cursor pin).answer k r st body).link.notices = s.link.notices := by
    simp [State.answer, State.replyWith, State.setView, State.modLink]
  rw [State.nothingRaised, ← stands]
  exact State.lineUp_notices _

/-- The bay record is 46 bytes long (R191). -/
theorem State.bayImage_length (s : State) (b : BayNo) : (s.bayImage b).length = 46 := by
  unfold State.bayImage
  dsimp only
  cases (s.bay b).latched with
  | some p => rfl
  | none => rfl

/-- The queue entry byte of the bay record (R191): an entry found for a bay is of that bay. -/
theorem State.entryByte_eq (s : State) (b : BayNo) :
    s.entryByte b = match s.entryOf b with
      | some e => flagBit 0 (e.kind == .test) ||| flagBit 1 (e.kind == .spin && (s.bay b).loadOnArrival)
          ||| (BitVec.ofNat 8 e.skip <<< 2)
      | none => 0 := by
  unfold State.entryByte
  cases found : s.entryOf b with
  | none => rfl
  | some e =>
    have here : e.bay = b := by simpa using List.find?_some found
    dsimp only
    rw [State.loadAfter, here]
    cases e.kind <;> rfl

/-- Settles O37. -/
theorem viewBayWalksTheRecords : Obligations.ViewBayWalksTheRecords := by
  refine ⟨fun dt r s n hands body => ?_, fun s b => ⟨s.bayImage_length b, ?_⟩, fun p => rfl⟩
  case refine_2 =>
    unfold State.bayImage
    rw [State.entryByte_eq]
    rfl
  have next : n = 0xFF ↔ n.toNat = 255 := by rw [← BitVec.toNat_inj]; rfl
  have image (b : BayNo) := s.bayImage_arrived dt b
  have only {st : Status} (answers : handleViewBay r (s.elapse dt).frameArrived =
      (s.elapse dt).frameArrived.answer .viewBay r st []) :
      ∃ t, exec (.viewBay dt r) s = .next t ∧ t.now = s.now + dt ∧ s.driveKept t ∧
        t.transit = s.transitAfterFrame (s.now + dt) ∧ t.faults = s.faults ∧ t.store = s.store ∧
        t.link.pin = s.link.pin ∧ s.nothingRaised t ∧ t.replied .viewBay r st [] ∧ t.link.cursor = s.link.cursor := by
    obtain ⟨t, step, ⟨now, drive, transit, faults, store, -, cursor, pin, -⟩, quiet, replied⟩ :=
      State.answers_of_hands hands dt answers
    exact ⟨t, step, now, drive, transit, faults, store, pin, quiet, replied, cursor⟩
  have advances {b : BayNo} (writes : handleViewBay r (s.elapse dt).frameArrived =
      ((s.elapse dt).frameArrived.setView b.succ s.link.pin).answer .viewBay r .done (s.bayImage b)) :
      ∃ t, exec (.viewBay dt r) s = .next t ∧ t.now = s.now + dt ∧ s.driveKept t ∧
        t.transit = s.transitAfterFrame (s.now + dt) ∧ t.faults = s.faults ∧ t.store = s.store ∧
        t.link.pin = s.link.pin ∧ s.nothingRaised t ∧ t.replied .viewBay r .done (s.bayImage b) ∧
        t.link.cursor.val = b.val + 1 := by
    obtain ⟨t, step, now, drive, transit, faults, store, quiet, replied, cursor, pin⟩ :=
      State.setsView_of_hands hands dt writes
    exact ⟨t, step, now, drive, transit, faults, store, pin, quiet, replied, by rw [cursor, Fin.val_succ]⟩
  rcases Nat.lt_or_ge n.toNat 16 with bay | above
  · obtain ⟨b, here⟩ : ∃ b : BayNo, n.toNat = b.val := ⟨⟨n.toNat, bay⟩, rfl⟩
    have notLast : n ≠ 0xFF := by rw [Ne, next]; omega
    have named : r.body = [BitVec.ofNat 8 b.val] := by rw [body, eq_ofNat_bay here]
    by_cases free : s.link.pin = none
    · obtain ⟨t, step, now, drive, transit, faults, store, pin, quiet, replied, cursor⟩ := advances (b := b) (by
        rw [handleViewBay_named named (by simpa using free), image, free])
      refine ⟨t, step, now, drive, transit, faults, store, pin, quiet, fun lower _ => by omega, fun x there _ => ?_,
        fun _ pinned => absurd free pinned, fun last => absurd last notLast, fun _ last => absurd last notLast⟩
      obtain rfl : x = b := Fin.ext (there.symm.trans here)
      exact ⟨replied, cursor⟩
    · obtain ⟨t, step, now, drive, transit, faults, store, pin, quiet, replied, cursor⟩ := only
        (handleViewBay_named_of_pinned named (by simpa using free))
      exact ⟨t, step, now, drive, transit, faults, store, pin, quiet, fun lower _ => by omega,
        fun _ _ unpinned => absurd unpinned free, fun _ _ => ⟨replied, cursor⟩, fun last => absurd last notLast,
        fun _ last => absurd last notLast⟩
  · by_cases last : n = 0xFF
    · have first : r.body = [0xFF] := by rw [body, last]
      rcases Nat.lt_or_ge s.link.cursor.val 16 with within | past
      · obtain ⟨b, here⟩ : ∃ b : BayNo, s.link.cursor.val = b.val := ⟨⟨_, within⟩, rfl⟩
        obtain ⟨t, step, now, drive, transit, faults, store, pin, quiet, replied, cursor⟩ := advances (b := b) (by
          rw [handleViewBay_next first (by simpa using here), image]
          simp)
        refine ⟨t, step, now, drive, transit, faults, store, pin, quiet, fun _ upper => ?_, fun x named => ?_,
          fun named => by omega, fun _ past => by omega, fun x _ there => ?_⟩
        · rw [next] at last; omega
        · have := x.isLt; omega
        obtain rfl : x = b := Fin.ext (there.symm.trans here)
        exact ⟨replied, cursor⟩
      · have past : s.link.cursor.val = 16 := by have := s.link.cursor.isLt; omega
        obtain ⟨t, step, now, drive, transit, faults, store, pin, quiet, replied, cursor⟩ := only
          (handleViewBay_past first (by simpa using past))
        refine ⟨t, step, now, drive, transit, faults, store, pin, quiet, fun _ upper => ?_, fun x named => ?_,
          fun named => by omega, fun _ _ => ⟨replied, cursor⟩, fun x _ there => ?_⟩
        · rw [next] at last; omega
        · have := x.isLt; omega
        · have := x.isLt; omega
    · have upper : n.toNat ≤ 254 := by rw [next] at last; have := n.isLt; omega
      obtain ⟨t, step, now, drive, transit, faults, store, pin, quiet, replied, cursor⟩ := only
        (handleViewBay_argument body above upper)
      exact ⟨t, step, now, drive, transit, faults, store, pin, quiet, fun _ _ => ⟨replied, cursor⟩,
        fun x named => by have := x.isLt; omega, fun named => by omega, fun here => absurd here last,
        fun x here => absurd here last⟩

/-! ### READ JOLTS (R98) -/

/-- Settles O39: READ JOLTS reads the Motion Monitor under the CHECK flag. -/
theorem readJoltsReturnsTheList : Obligations.ReadJoltsReturnsTheList := by
  intro dt r s i hands body
  by_cases above : 7 < i.toNat
  case pos =>
    have answers (t : State) : handleReadJolts r t = t.answer .readJolts r .argument [] := by
      simp [handleReadJolts, body, above]
    obtain ⟨t, step, kept, -, replied⟩ := State.takeRequest_onlyAnswers (dt := dt) hands (answers _)
    exact ⟨t, step, kept, fun _ => replied, by omega, by omega⟩
  case neg =>
    have reads (t : State) : handleReadJolts r t = t.checked .readJolts r (fun t => t.answer .readJolts r .done
        (le16 t.motion.opened ++ [byteOf t.motion.jolts.length]
          ++ (t.motion.jolts.drop i.toNat).flatMap JoltRec.image)) := by
      simp [handleReadJolts, body, above]
    obtain ⟨t, step, kept, -, refused, done⟩ := State.takeRequest_reads (dt := dt) hands reads
    rw [State.frameArrived_motion] at done
    exact ⟨t, step, kept, fun h => absurd h above, fun _ => refused, fun _ => done⟩

/-! ### Masks (R147, R151) -/

/-- A handler that writes the working settings and answers leaves everything else but the quiet timer and the receiver. -/
theorem State.setsWorking_of_hands {s : State} {k : ReqKind} {r : Req} (hands : s.hands k r) (dt : Nat)
    {f : WorkingSettings → WorkingSettings} {st : Status} {body : List Byte}
    (writes : handler k r (s.elapse dt).frameArrived =
      ((s.elapse dt).frameArrived.modWorking f).answer k r st body) :
    ∃ t, exec (commandOf k dt r) s = .next t ∧ t.now = s.now + dt ∧ t.replied k r st body ∧
      t.store = { s.store with working := f s.store.working } ∧ s.driveKept t ∧ t.faults = s.faults ∧
      t.transit = s.transitAfterFrame (s.now + dt) ∧ s.nothingRaised t := by
  refine ⟨_, exec_of_hands hands dt, ?_⟩
  rw [writes]
  refine ⟨by simp, State.lineUp_replied (State.answer_replied _ _ _ _ _), by simp [State.modWorking],
    by simp [State.driveKept], by simp, by simp, ?_⟩
  have stands : (((s.elapse dt).frameArrived.modWorking f).answer k r st body).link.notices = s.link.notices := by
    simp [State.answer, State.replyWith]
  rw [State.nothingRaised, ← stands]
  exact State.lineUp_notices _

theorem State.environmentImage_arrived (s : State) (dt : Nat) :
    (s.elapse dt).frameArrived.environmentImage = s.environmentImage := by
  rw [State.environmentImage, State.baysWithPending_arrived]
  simp [State.environmentImage, State.environmentFlags, State.unloadQueueLength, State.transitAfterFrame]

/-- Settles O48. -/
theorem masksAreSetAndViewed : Obligations.MasksAreSetAndViewed := by
  refine ⟨fun dt r s lo hi hands body => ?_, fun dt r s hands => ?_⟩
  · have writes : handler .setMasks r (s.elapse dt).frameArrived = ((s.elapse dt).frameArrived.modWorking (fun w =>
        { w with masks := (word16 lo hi).extractLsb' 0 13 })).answer .setMasks r .done [] := by
      simp only [handler, handleSetMasks, body]
    obtain ⟨t, step, now, replied, store, drive, faults, transit, quiet⟩ := State.setsWorking_of_hands hands dt writes
    refine ⟨t, step, replied, now, fun k below => ?_, by rw [store], drive, faults, transit, quiet⟩
    rw [store]
    simp [word16, below]
  · have ⟨_, _, length⟩ := hands
    have writes : handler .viewEnvironment r (s.elapse dt).frameArrived = ((s.elapse dt).frameArrived.modWorking (fun w =>
        { w with masks := BitVec.allOnes 13 })).answer .viewEnvironment r .done s.environmentImage := by
      rw [← s.environmentImage_arrived dt, handler, handleViewEnvironment,
        withEmptyBody_of_nil (List.length_eq_zero_iff.mp length)]
    obtain ⟨t, step, now, replied, store, drive, faults, transit, quiet⟩ := State.setsWorking_of_hands hands dt writes
    exact ⟨t, step, now, replied, store, drive, faults, transit, quiet⟩

end Sys2Proof.Machine
end

section
/-! PROOFS. The link: the statements O33, O34 and O35. -/

namespace Sys2Proof.Machine

/-! ### Frames that reach no handler (R169, R176, R177) -/

/-- A state that differs from that after the frame's arrival in the slot and the line alone. -/
theorem State.onlyAnswered_of_slot (s : State) (dt : Nat) (slot : Option Reply) :
    s.onlyAnswered ((s.elapse dt).frameArrived.modLink (fun l => { l with slot := slot })).lineUp dt := by
  simp [State.onlyAnswered, State.driveKept, State.modLink]

theorem State.onlyAnswered_arrived (s : State) (dt : Nat) : s.onlyAnswered (s.elapse dt).frameArrived.lineUp dt :=
  s.onlyAnswered_of_slot dt (s.elapse dt).frameArrived.link.slot

/-- A KIND that is none of the requests' (R190). -/
theorem ReqKind.ofCode?_eq_none {kind : Byte} (h : ∀ k : ReqKind, k.code ≠ kind) : ReqKind.ofCode? kind = none := by
  rw [ReqKind.ofCode?, List.find?_eq_none]
  intro k _
  simpa using h k

/-- The KIND of a request names it (R190). -/
theorem ReqKind.ofCode?_code (k : ReqKind) : ReqKind.ofCode? k.code = some k := by cases k <;> rfl

theorem exec_unknownKind {kind : Byte} (h : ∀ k : ReqKind, k.code ≠ kind) (dt : Nat) (r : Req) (s : State) :
    exec (.unknownKind dt kind r) s = .next (takeUnknown r (s.elapse dt)).lineUp := by
  have unknown : takeFrame kind r (s.elapse dt) = takeUnknown r (s.elapse dt) := by
    rw [takeFrame, ReqKind.ofCode?_eq_none h]
  rw [← unknown]
  rfl

/-- Settles O34. -/
theorem framesTurnedAway : Obligations.FramesTurnedAway := by
  refine fun dt r s => ⟨fun k => ⟨fun occupied => ?_, fun free loading notStatus => ?_, fun free noLoad length => ?_⟩,
    fun kind unknown => ?_⟩
  · have turned : takeRequest k (handler k) r (s.elapse dt) = (s.elapse dt).frameArrived := by
      simp [takeRequest, Option.isSome_iff_ne_none.mpr occupied]
    refine ⟨_, exec_commandOf k dt r s, ?_⟩
    rw [turned]
    exact ⟨by simp, s.onlyAnswered_arrived dt⟩
  · have turned : takeRequest k (handler k) r (s.elapse dt) = (s.elapse dt).frameArrived.answer k r .busy [] := by
      simp [takeRequest, free, loading, notStatus]
    refine ⟨_, exec_commandOf k dt r s, ?_⟩
    rw [turned]
    exact ⟨State.lineUp_replied (State.answer_replied _ _ _ _ _), s.onlyAnswered_answer dt k r _ _⟩
  · have notBusy : (s.store.loading && k != .status) = false := by rcases noLoad with h | h <;> simp [h]
    have turned : takeRequest k (handler k) r (s.elapse dt) = (s.elapse dt).frameArrived.answer k r .argument [] := by
      simp [takeRequest, free, notBusy, length]
    refine ⟨_, exec_commandOf k dt r s, ?_⟩
    rw [turned]
    exact ⟨State.lineUp_replied (State.answer_replied _ _ _ _ _), s.onlyAnswered_answer dt k r _ _⟩
  · refine ⟨_, exec_unknownKind unknown dt r s, ?_⟩
    unfold takeUnknown
    dsimp only
    by_cases occupied : s.link.slot = none
    · simp only [occupied, State.frameArrived_slot, State.elapse_link, Option.isSome_none, Bool.false_eq_true, if_false]
      refine ⟨?_, fun h => absurd rfl h, fun _ => ?_⟩
      · split <;> exact s.onlyAnswered_of_slot dt _
      · rw [State.frameArrived_store]
        by_cases loading : s.store.loading = true
        · simp [loading, State.replyWith, unknownReplyKind]
        · simp [loading, State.replyWith, unknownReplyKind]
    · simp only [State.frameArrived_slot, State.elapse_link, Option.isSome_iff_ne_none.mpr occupied, if_true]
      exact ⟨s.onlyAnswered_arrived dt, fun _ => by simp, fun h => absurd h occupied⟩

/-! ### The transmit line (R181) -/

/-- After an event the line is idle only where nothing waits (R181). -/
theorem State.lineUp_idle {s : State} (idle : s.lineUp.link.tx = none) :
    s.lineUp.link.slot = none ∧ s.lineUp.link.notices = [] := by
  unfold State.lineUp at idle ⊢
  split at idle
  · rename_i busy
    rw [idle] at busy
    exact nomatch busy
  · rename_i free
    rw [if_neg free]
    split at idle
    · exact nomatch idle
    · rename_i empty
      split at idle
      · rename_i none
        simp [empty, none]
      · exact nomatch idle

/-- An idle line takes the reply in the slot. -/
theorem State.lineUp_of_reply {s : State} {rep : Reply} (idle : s.link.tx = none) (waits : s.link.slot = some rep) :
    s.lineUp = s.transmit rep.frame true := by
  simp [State.lineUp, idle, waits]

/-- An idle line with nothing that waits. -/
theorem State.lineUp_of_empty {s : State} (slot : s.link.slot = none) (notices : s.link.notices = []) :
    s.lineUp = s := by
  unfold State.lineUp
  split
  · rfl
  · simp [slot, notices]

/-- An idle line with an empty slot takes the oldest notice. -/
theorem State.lineUp_of_notice {s : State} {n : Notice} {rest : List Notice} (idle : s.link.tx = none)
    (slot : s.link.slot = none) (notices : s.link.notices = n :: rest) :
    s.lineUp = { s with link := { s.link with notices := rest } }.transmit
      (n.frame (s.sourceState (!rest.isEmpty) n.source)) false := by
  have free : ¬ s.link.tx.isSome = true := by rw [idle]; exact Bool.false_ne_true
  have state : ({ s with link := { s.link with notices := rest } } : State).sourceState (!rest.isEmpty) n.source =
      s.sourceState (!rest.isEmpty) n.source := by cases n.source <;> rfl
  unfold State.lineUp
  rw [if_neg free]
  simp only [slot, notices]
  rw [← slot]
  exact congrArg (fun st => State.transmit (n.frame st) false _) state

/-- A notice frame is 13 bytes long (R192). -/
theorem Notice.frame_length (n : Notice) (st : Byte) : (n.frame st).length = 13 := rfl

/-- Settles O35. -/
theorem theLineSendsWhatWaits : Obligations.TheLineSendsWhatWaits := by
  refine ⟨fun dt s f sending => ?_, fun c s t step idle => ?_⟩
  · have body : exec (.txFrameEnd dt) s = .next (((s.elapse dt).advanceTo f.due).frameSent f).lineUp := by
      have here : (s.elapse dt).link.tx = some f := sending
      simp only [exec, execTxFrameEnd, State.takeEvent_eq, here]
    refine ⟨_, body, by simp [State.frameSent, State.advanceTo], by simp [State.driveKept, State.frameSent],
      by simp [State.frameSent], by simp [State.frameSent], by simp [State.frameSent],
      by simp [State.frameSent, State.modLink], ?_⟩
    have tx : (((s.elapse dt).advanceTo f.due).frameSent f).link.tx = none := rfl
    have notices : (((s.elapse dt).advanceTo f.due).frameSent f).link.notices = s.link.notices := rfl
    have slot : (((s.elapse dt).advanceTo f.due).frameSent f).link.slot = if f.isReply then none else s.link.slot := rfl
    dsimp only
    rw [← slot, ← notices]
    refine ⟨State.lineUp_slot _, fun rep waits => ?_, fun free none => ?_, fun n rest free next => ?_⟩
    · rw [State.lineUp_of_reply tx waits]
      exact ⟨rfl, rfl⟩
    · rw [State.lineUp_of_empty free none]
      exact tx
    · rw [State.lineUp_of_notice tx free next]
      refine ⟨rfl, ?_⟩
      simp only [State.transmit, Notice.frame_length]
      cases n.source <;> rfl
  · rcases exec_cases c s with ⟨now, reset⟩ | ⟨body, -, taken⟩
    · obtain rfl : s.afterReset now = t := by simpa [reset] using step
      exact ⟨rfl, rfl⟩
    · obtain rfl : (body (s.elapse (elapsedOf c))).lineUp = t := by simpa [taken, State.takeEvent_eq] using step
      exact State.lineUp_idle idle

/-! ### The receiver (R175, R176) -/

/-- The receiver as `f` leaves it, at the end of the event: nothing else is touched. -/
theorem State.receives (s : State) (now : Nat) (rx : Receiver) (gap : Option Nat) :
    let t := (({ s with now := now } : State).modLink (fun l => { l with rx := rx, gapDue := gap })).lineUp
    t.link.rx = rx ∧ t.link.gapDue = gap ∧ s.driveKept t ∧ t.transit = s.transit ∧ t.faults = s.faults ∧
      t.store = s.store ∧ t.link.slot = s.link.slot ∧ t.link.cursor = s.link.cursor ∧ t.link.pin = s.link.pin ∧
      s.nothingRaised t := by
  dsimp only
  refine ⟨by simp [State.modLink], by simp [State.modLink], by simp [State.driveKept, State.modLink],
    by simp [State.modLink], by simp [State.modLink], by simp [State.modLink], by simp [State.modLink],
    by simp [State.modLink], by simp [State.modLink], ?_⟩
  exact State.lineUp_notices (({ s with now := now } : State).modLink (fun l => { l with rx := rx, gapDue := gap }))

theorem exec_rxdByte (dt : Nat) (b : Byte) (s : State) :
    exec (.rxdByte dt b) s = .next ((s.elapse dt).receiveByte b).lineUp := rfl

/-- A byte that comes before the byte gap has passed. -/
theorem State.receiveByte_of_inTime {s : State} (h : ∀ due, s.link.gapDue = some due → s.now < due) (b : Byte) :
    s.receiveByte b = match s.link.rx with
      | .hunting => if b = syncByte then s.collect [] else s
      | .inside received => s.collectByte received b := by
  have inTime : s.gapPassed = false := by
    unfold State.gapPassed
    cases gap : s.link.gapDue with
    | none => rfl
    | some due => simpa using h due gap
  simp only [State.receiveByte, inTime, Bool.false_eq_true, if_false] <;> rfl

/-- A byte that comes after the byte gap finds the receiver hunting. -/
theorem State.receiveByte_of_gap {s : State} {due : Nat} (gap : s.link.gapDue = some due) (passed : due ≤ s.now) {b : Byte}
    (notSync : b ≠ syncByte) : s.receiveByte b = s.hunt := by
  have late : s.gapPassed = true := by rw [State.gapPassed, gap]; simpa using passed
  simp only [State.receiveByte, late, if_true]
  exact if_neg notSync

/-- A bad LENGTH returns the receiver to hunting, whether the byte gap has passed or not. -/
theorem State.receiveByte_of_start {s : State} (starts : s.link.rx = .inside []) {b : Byte}
    (bad : b.toNat < 3 ∨ 243 < b.toNat) (notSync : b ≠ syncByte) : s.receiveByte b = s.hunt := by
  cases passed : s.gapPassed with
  | true =>
    simp only [State.receiveByte, passed, if_true]
    exact if_neg notSync
  | false =>
    simp only [State.receiveByte, passed, Bool.false_eq_true, if_false, starts, State.collectByte]
    exact if_pos (by simpa using bad)

/-- A whole frame whose CRC matches is taken by its KIND; another is discarded (R176). -/
theorem State.completeFrame_eq {len kind flags tag : Byte} {body crc : List Byte} (length : body.length + 3 = len.toNat)
    (s : State) :
    s.completeFrame (len :: kind :: flags :: tag :: (body ++ crc)) =
      if crc = le16 (crc16 (len :: kind :: flags :: tag :: body)) then
        takeFrame kind { flags := flags, tag := tag, body := body } s
      else s.hunt := by
  have bodyLength : len.toNat - 3 = body.length := by omega
  have whole : len.toNat + 1 = (len :: kind :: flags :: tag :: body).length := by simp; omega
  have split : len :: kind :: flags :: tag :: (body ++ crc) = (len :: kind :: flags :: tag :: body) ++ crc := rfl
  simp only [State.completeFrame, crcMatches, bodyLength, List.take_left]
  rw [split, whole, List.drop_left, List.take_left]
  simp only [beq_iff_eq]

/-- Settles O33. -/
theorem receiverTakesBytes : Obligations.ReceiverTakesBytes := by
  refine ⟨fun dt b s inTime => ⟨fun hunting => ?_, fun starts => ?_, fun len got inside => ⟨fun short => ?_,
    fun kind flags tag body crc received length crcLength => ?_⟩⟩, fun dt b s c discards => ?_⟩
  · rw [exec_rxdByte, State.receiveByte_of_inTime (s := s.elapse dt) inTime]
    have here : (s.elapse dt).link.rx = .hunting := hunting
    simp only [here]
    by_cases sync : b = syncByte
    · rw [if_pos sync]
      obtain ⟨rx, gap, drive, transit, faults, store, slot, -⟩ := s.receives (s.now + dt) (.inside []) (some (s.now + dt + byteGap))
      exact ⟨_, rfl, drive, transit, faults, store, slot, fun h => absurd sync h, fun _ => ⟨rx, gap⟩⟩
    · rw [if_neg sync]
      obtain ⟨rx, -, drive, transit, faults, store, slot, -⟩ := s.receives (s.now + dt) s.link.rx s.link.gapDue
      exact ⟨_, rfl, drive, transit, faults, store, slot, fun _ => rx.trans hunting, fun h => absurd h sync⟩
  · rw [exec_rxdByte, State.receiveByte_of_inTime (s := s.elapse dt) inTime]
    have here : (s.elapse dt).link.rx = .inside [] := starts
    simp only [here, State.collectByte]
    by_cases bad : b.toNat < 3 ∨ 243 < b.toNat
    · obtain ⟨rx, -, drive, transit, faults, store, slot, -⟩ := s.receives (s.now + dt) .hunting none
      rw [if_pos (by simpa using bad)]
      exact ⟨_, rfl, drive, transit, faults, store, slot, fun _ _ => by omega, fun _ => rx⟩
    · obtain ⟨rx, gap, drive, transit, faults, store, slot, -⟩ := s.receives (s.now + dt) (.inside [b]) (some (s.now + dt + byteGap))
      rw [if_neg (by simpa using bad)]
      exact ⟨_, rfl, drive, transit, faults, store, slot, fun _ _ => ⟨rx, gap⟩, fun h => absurd h bad⟩
  · rw [exec_rxdByte, State.receiveByte_of_inTime (s := s.elapse dt) inTime]
    have here : (s.elapse dt).link.rx = .inside (len :: got) := inside
    have more : (len :: got ++ [b]).length < len.toNat + 3 := by simp; omega
    simp only [here, State.collectByte, if_pos more]
    obtain ⟨rx, gap, drive, transit, faults, store, slot, -⟩ :=
      s.receives (s.now + dt) (.inside (len :: got ++ [b])) (some (s.now + dt + byteGap))
    exact ⟨_, rfl, drive, transit, faults, store, slot, rx, gap⟩
  · have all : len :: got ++ [b] = len :: kind :: flags :: tag :: (body ++ crc) := by
      rw [List.cons_append, received]; simp
    have complete : ¬ (len :: got ++ [b]).length < len.toNat + 3 := by rw [all]; simp; omega
    have here : (s.elapse dt).link.rx = .inside (len :: got) := inside
    have taken : exec (.rxdByte dt b) s = .next
        ((s.elapse dt).completeFrame (len :: kind :: flags :: tag :: (body ++ crc))).lineUp := by
      rw [exec_rxdByte, State.receiveByte_of_inTime (s := s.elapse dt) inTime]
      simp only [here, State.collectByte]
      rw [if_neg complete, all]
    rw [taken, State.completeFrame_eq length]
    refine ⟨fun holds => ⟨fun k code => ?_, fun unknown => ?_⟩, fun fails => ?_⟩
    · rw [if_pos holds, exec_commandOf, takeFrame, ← code, ReqKind.ofCode?_code]
      rfl
    · rw [if_pos holds]
      rfl
    · rw [if_neg fails]
      rfl
  · have hunts : ∃ now, exec c s = .next ({ s with now := now } : State).hunt.lineUp := by
      rcases discards with rfl | rfl | ⟨rfl, starts, bad, notSync⟩ | ⟨rfl, gap⟩ | ⟨rfl, notSync, due, gap, passed⟩
      · exact ⟨s.now + dt, rfl⟩
      · exact ⟨s.now + dt, rfl⟩
      · refine ⟨s.now + dt, ?_⟩
        have received : exec (.frameDiscard dt (.badLength b)) s = .next ((s.elapse dt).receiveByte b).lineUp := rfl
        rw [received, State.receiveByte_of_start (s := s.elapse dt) starts bad notSync]
        rfl
      · obtain ⟨due, gap⟩ := Option.isSome_iff_exists.mp gap
        have here : (s.elapse dt).link.gapDue = some due := gap
        exact ⟨max (s.now + dt) due, by simp only [exec, execByteGapTimeout, State.takeEvent_eq, here]; rfl⟩
      · refine ⟨s.now + dt, ?_⟩
        rw [exec_rxdByte, State.receiveByte_of_gap (s := s.elapse dt) gap passed notSync]
        rfl
    obtain ⟨now, hunts⟩ := hunts
    obtain ⟨rx, -, drive, transit, faults, store, slot, cursor, pin, quiet⟩ := s.receives now .hunting none
    exact ⟨_, hunts, rx, drive, transit, faults, store, slot, cursor, pin, quiet⟩

end Sys2Proof.Machine
end

section
/-! PROOFS. The requests of the settings and the profiles: the statements O49 and O52. -/

namespace Sys2Proof.Machine

/-! ### Requests that honour the CHECK flag (R148) -/

/-- A request that the case pending set refuses. -/
theorem State.refused_of_hands {s : State} {k : ReqKind} {r : Req} (hands : s.hands k r) (refuses : s.checkRefuses r)
    (dt : Nat) {go : State → State} (checks : ∀ t : State, handler k r t = t.checked k r go) :
    ∃ t, exec (commandOf k dt r) s = .next t ∧ t.replied k r .pending [] ∧ s.onlyAnswered t dt := by
  obtain ⟨t, step, kept, -, replied⟩ := State.answers_of_hands hands dt ((checks _).trans
    (State.checked_of_checkRefuses ((s.checkRefuses_arrived dt r).mpr refuses) _ _))
  exact ⟨t, step, replied, kept⟩

/-- A request that the case pending set does not refuse. -/
theorem exec_of_checked {s : State} {k : ReqKind} {r : Req} (hands : s.hands k r) (accepts : ¬ s.checkRefuses r)
    (dt : Nat) {go : State → State} (checks : ∀ t : State, handler k r t = t.checked k r go) :
    exec (commandOf k dt r) s = .next (go (s.elapse dt).frameArrived).lineUp := by
  rw [exec_of_hands hands, checks, State.checked_of_not_checkRefuses (mt (s.checkRefuses_arrived dt r).mp accepts)]

/-- A request that is answered after the CHECK flag and does nothing else. -/
theorem State.answered_of_checked {s : State} {k : ReqKind} {r : Req} (hands : s.hands k r) (accepts : ¬ s.checkRefuses r)
    (dt : Nat) {go : State → State} (checks : ∀ t : State, handler k r t = t.checked k r go) {st : Status}
    {body : List Byte} (answers : go (s.elapse dt).frameArrived = (s.elapse dt).frameArrived.answer k r st body) :
    ∃ t, exec (commandOf k dt r) s = .next t ∧ t.replied k r st body ∧ s.onlyAnswered t dt := by
  refine ⟨_, exec_of_checked hands accepts dt checks, ?_⟩
  rw [answers]
  exact ⟨State.lineUp_replied (State.answer_replied _ _ _ _ _), s.onlyAnswered_answer dt k r _ _⟩

/-! ### Values (R164, R165) -/

/-- The number that two bytes carry (R188). -/
theorem nat16_eq (lo hi : Byte) : nat16 lo hi = lo.toNat + 256 * hi.toNat := by
  have below := lo.isLt
  rw [nat16, word16, BitVec.toNat_append, Nat.shiftLeft_eq, ← Nat.shiftLeft_eq, ← Nat.shiftLeft_add_eq_or_of_lt below,
    Nat.shiftLeft_eq]
  omega

/-- The two bytes of the number that they carry. -/
theorem le16_nat16 (lo hi : Byte) : le16OfNat (nat16 lo hi) = [lo, hi] := by
  have word : BitVec.ofNat 16 (nat16 lo hi) = hi ++ lo := by
    rw [nat16, word16, BitVec.ofNat_toNat, BitVec.setWidth_eq]
  rw [le16OfNat, word, le16, BitVec.extractLsb'_append_eq_of_add_le (Nat.le_refl 8),
    BitVec.extractLsb'_append_eq_of_le (Nat.le_refl 8), BitVec.extractLsb'_eq_self, Nat.sub_self,
    BitVec.extractLsb'_eq_self]

theorem onOffOf_isSome (v : Nat) : (onOffOf v).isSome = true ↔ v ≤ 1 := by
  match v with
  | 0 | 1 => decide
  | _ + 2 => simp [onOffOf]

theorem arbiterModeOf_isSome (v : Nat) : (arbiterModeOf v).isSome = true ↔ v ≤ 2 := by
  match v with
  | 0 | 1 | 2 => decide
  | _ + 3 => simp [arbiterModeOf]

theorem rollingPolicyOf_isSome (v : Nat) : (rollingPolicyOf v).isSome = true ↔ v ≤ 2 := by
  match v with
  | 0 | 1 | 2 => decide
  | _ + 3 => simp [rollingPolicyOf]

theorem exists_bounds_iff {low high v : Nat} :
    (∃ lo hi, (low = lo ∧ high = hi) ∧ lo ≤ v ∧ v ≤ hi) ↔ low ≤ v ∧ v ≤ high :=
  ⟨fun ⟨_, _, ⟨rfl, rfl⟩, h⟩ => h, fun h => ⟨low, high, ⟨rfl, rfl⟩, h⟩⟩

/-- A setting that SET takes (R164, R165). -/
theorem CaseSettings.set?_isSome_iff (c : CaseSettings) {n v : Nat} (lower : 1 ≤ n) (upper : n ≤ 21) :
    (c.set? n v).isSome = true ↔ c.admits n v := by
  have option {p : Prop} [Decidable p] {d : CaseSettings} : (if p then some d else none).isSome = true ↔ p := by
    split <;> simp_all
  match n, lower, upper with
  | 0, lower, _ => exact absurd lower (by decide)
  | k + 22, _, upper => omega
  | 1, _, _ | 2, _, _ | 3, _, _ | 4, _, _ | 5, _, _ | 6, _, _ | 7, _, _ | 8, _, _ | 9, _, _ | 10, _, _ | 11, _, _
  | 12, _, _ | 13, _, _ | 14, _, _ | 15, _, _ | 16, _, _ | 17, _, _ | 18, _, _ | 19, _, _ | 20, _, _ | 21, _, _ =>
    simp [CaseSettings.set?, CaseSettings.admits, settingRange, CaseSettings.get, within, onOffOf_isSome,
      arbiterModeOf_isSome, rollingPolicyOf_isSome, option, exists_bounds_iff]

theorem onOffOf_value {v : Nat} {f : Bool} (h : onOffOf v = some f) : f.toNat = v := by
  unfold onOffOf at h
  split at h <;> simp at h <;> simp [← h]

theorem arbiterModeOf_value {v : Nat} {m : ArbiterMode} (h : arbiterModeOf v = some m) : m.value = v := by
  unfold arbiterModeOf at h
  split at h <;> simp at h <;> simp [← h, ArbiterMode.value]

theorem rollingPolicyOf_value {v : Nat} {p : RollingPolicy} (h : rollingPolicyOf v = some p) : p.value = v := by
  unfold rollingPolicyOf at h
  split at h <;> simp at h <;> simp [← h, RollingPolicy.value]

/-- The setting that is set has the value (R165). -/
theorem CaseSettings.set?_get_self {c d : CaseSettings} {n v : Nat} (set : c.set? n v = some d) : d.get n = v := by
  unfold CaseSettings.set? at set
  split at set
  case h_22 => exact nomatch set
  case h_4 => obtain ⟨_, value, rfl⟩ := Option.map_eq_some_iff.mp set; exact arbiterModeOf_value value
  case h_8 => obtain ⟨_, value, rfl⟩ := Option.map_eq_some_iff.mp set; exact rollingPolicyOf_value value
  case h_7 | h_9 | h_18 => obtain ⟨_, value, rfl⟩ := Option.map_eq_some_iff.mp set; exact onOffOf_value value
  all_goals
    rw [Option.ite_none_right_eq_some] at set
    rw [← Option.some.inj set.2]
    rfl

/-- Every other setting stands (R165). -/
theorem CaseSettings.set?_get_ne {c d : CaseSettings} {n v m : Nat} (set : c.set? n v = some d) (other : m ≠ n) :
    d.get m = c.get m := by
  unfold CaseSettings.set? at set
  split at set
  case h_22 => exact nomatch set
  case h_4 | h_7 | h_8 | h_9 | h_18 =>
    obtain ⟨_, -, rfl⟩ := Option.map_eq_some_iff.mp set
    unfold CaseSettings.get
    split <;> simp_all
  all_goals
    rw [Option.ite_none_right_eq_some] at set
    rw [← Option.some.inj set.2]
    unfold CaseSettings.get
    split <;> simp_all

/-! ### SET (R165, R167) -/

theorem handleSetSetting_argument {r : Req} {n lo hi : Byte} (body : r.body = [n, lo, hi])
    (bad : n.toNat = 0 ∨ 21 < n.toNat) (s : State) : handleSetSetting r s = s.answer .setSetting r .argument [] := by
  simp [handleSetSetting, body, (settingNumberBad_iff n).mpr bad]

theorem handleSetSetting_checked {r : Req} {n lo hi : Byte} (body : r.body = [n, lo, hi])
    (good : ¬ (n.toNat = 0 ∨ 21 < n.toNat)) (s : State) :
    handleSetSetting r s = s.checked .setSetting r (State.setSettingTo r n (nat16 lo hi)) := by
  simp [handleSetSetting, body, mt (settingNumberBad_iff n).mp good]

@[simp] theorem State.quietCodeChanged_blocks (s : State) :
    s.quietCodeChanged.now = s.now ∧ s.quietCodeChanged.bays = s.bays ∧ s.quietCodeChanged.arbiter = s.arbiter ∧
      s.quietCodeChanged.scheduler = s.scheduler ∧ s.quietCodeChanged.motion = s.motion ∧
      s.quietCodeChanged.supply = s.supply ∧ s.quietCodeChanged.faults = s.faults ∧
      s.quietCodeChanged.store = s.store ∧ s.quietCodeChanged.link = s.link := by
  unfold State.quietCodeChanged
  split <;> simp

/-- A new quiet code acts on the timer of a NORMAL case alone (R125). -/
theorem State.quietCodeChanged_transit (s : State) :
    s.quietCodeChanged.transit = if s.transit.mode = .normal then
      { s.transit with quietDue := (quietMicros s.settings.quietCode).map (fun l => s.now + l) } else s.transit := by
  unfold State.quietCodeChanged
  split
  · rename_i normal; rw [if_pos normal, ← quietLength_micros]; rfl
  · rename_i safe; rw [safe]; rfl

/-- A pass of the state after an answer. -/
theorem State.pass_answered (s : State) (k : ReqKind) (r : Req) (st : Status) (body : List Byte) :
    (s.answer k r st body).lineUp.pass = s.pass :=
  State.pass_congr (by simp) (by simp) (by simp) (by simp) (by simp) (by simp)

section

variable {n : Nat} (s : State)

/-- The settings after an answer. -/
@[simp] theorem State.answered_settings (k : ReqKind) (r : Req) (st : Status) (body : List Byte) :
    (s.answer k r st body).lineUp.settings = s.settings := by simp [State.settings]

/-- What every action of a SET leaves. -/
theorem State.settingTakesEffect_keeps (n : Nat) :
    (s.settingTakesEffect n).now = s.now ∧ (s.settingTakesEffect n).store = s.store ∧
      (s.settingTakesEffect n).faults = s.faults := by
  unfold State.settingTakesEffect
  split
  iterate 2 simp [State.deriveBudget]
  iterate 6 simp
  iterate 3 simp

/-- The surge budgets derive the effective budget anew (R167). -/
theorem State.settingTakesEffect_budget (h : n = 1 ∨ n = 2) :
    (s.settingTakesEffect n).supply.budget = s.settings.budgetOf s.supply.cls := by
  have derived : s.settingTakesEffect n = s.deriveBudget.evaluate := by rcases h with rfl | rfl <;> rfl
  rw [derived, State.evaluate_supply]
  rfl

theorem State.settingTakesEffect_supply (h : n ≠ 1) (g : n ≠ 2) : (s.settingTakesEffect n).supply = s.supply := by
  unfold State.settingTakesEffect
  split
  · exact absurd rfl h
  · exact absurd rfl g
  iterate 6 simp
  iterate 3 simp

/-- The settings of the arbiter run a grant evaluation (R167). -/
theorem State.settingTakesEffect_evaluates
    (h : n = 1 ∨ n = 2 ∨ n = 3 ∨ n = 4 ∨ n = 5 ∨ n = 8 ∨ n = 9 ∨ n = 18) :
    (s.settingTakesEffect n).pass = none ∧ (s.settingTakesEffect n).scheduler = s.scheduler ∧
      (s.settingTakesEffect n).transit = s.transit := by
  have evaluated : s.settingTakesEffect n = s.deriveBudget.evaluate ∨ s.settingTakesEffect n = s.evaluate := by
    rcases h with rfl | rfl | h
    · exact .inl rfl
    · exact .inl rfl
    · right
      rcases h with rfl | rfl | rfl | rfl | rfl | rfl <;> rfl
  rcases evaluated with h | h
  · rw [h]; exact ⟨State.evaluate_pass _, by simp [State.deriveBudget], by simp [State.deriveBudget]⟩
  · rw [h]; exact ⟨State.evaluate_pass _, by simp, by simp⟩

/-- The settings that no block acts on (R167). -/
theorem State.settingTakesEffect_of_none (h : n = 7 ∨ 10 ≤ n ∧ n ≤ 15 ∨ n = 17 ∨ 19 ≤ n) : s.settingTakesEffect n = s := by
  unfold State.settingTakesEffect
  split
  case h_11 => rfl
  all_goals omega

end

/-- Settles O49. -/
theorem setChangesOneSetting : Obligations.SetChangesOneSetting := by
  intro dt r s n lo hi v hands body value
  rw [← nat16_eq] at value
  refine ⟨fun bad => ?_, fun lower upper refuses => ?_, fun lower upper accepts refused => ?_,
    fun lower upper accepts admitted => ?_⟩
  · obtain ⟨t, step, kept, -, replied⟩ := State.answers_of_hands hands dt (handleSetSetting_argument body bad _)
    exact ⟨t, step, replied, kept⟩
  all_goals have checks := handleSetSetting_checked body (by omega : ¬ (n.toNat = 0 ∨ 21 < n.toNat))
  · exact State.refused_of_hands hands refuses dt checks
  · have none : s.settings.set? n.toNat v = none := by
      rw [← Option.not_isSome_iff_eq_none, CaseSettings.set?_isSome_iff _ lower upper]
      exact refused
    refine State.answered_of_checked hands accepts dt checks ?_
    rw [State.setSettingTo, State.frameArrived_settings, ← value]
    have here : (s.elapse dt).settings.set? n.toNat v = Option.none := none
    rw [here]
    dsimp only
    rw [State.settingBody_arrived]
  · obtain ⟨d, set⟩ := Option.isSome_iff_exists.mp ((CaseSettings.set?_isSome_iff s.settings lower upper).mpr admitted)
    have get := CaseSettings.set?_get_self set
    have step := exec_of_checked hands accepts dt checks
    have here : (s.elapse dt).frameArrived.settings.set? n.toNat (nat16 lo hi) = some d := by
      rw [State.frameArrived_settings, ← value]; exact set
    rw [State.setSettingTo, here] at step
    dsimp only at step
    generalize written : (s.elapse dt).frameArrived.modWorking (fun w => { w with case := d }) = u at step
    have uSettings : u.settings = d := by rw [← written]; rfl
    have uNow : u.now = s.now + dt := by simp [← written]
    have uStore : u.store = { s.store with working := { s.store.working with case := d } } := by
      simp [← written, State.modWorking]
    have uFaults : u.faults = s.faults := by simp [← written]
    have uTransit : u.transit = s.transitAfterFrame (s.now + dt) := by simp [← written]
    have uSupply : u.supply = s.supply := by simp [← written]
    have uDrive : s.driveKept u := by simp [State.driveKept, ← written]
    obtain ⟨uBays, uArbiter, uScheduler, uMotion, -⟩ := uDrive
    obtain ⟨now, store, faults⟩ := u.settingTakesEffect_keeps n.toNat
    have settings : (u.settingTakesEffect n.toNat).settings = d := by
      rw [State.settings, store]; exact uSettings
    have reply : (u.settingTakesEffect n.toNat).settingBody n = [n, lo, hi] := by
      rw [State.settingBody, settings, get, value, le16_nat16]
    refine ⟨_, step, ?_, ?_, fun m other => ?_, ?_, ?_, ?_, fun h => ?_, fun h g => ?_, fun h => ?_, fun h => ?_, fun h => ?_,
      fun h => ?_⟩
    · rw [reply]; exact State.lineUp_replied (State.answer_replied _ _ _ _ _)
    · rw [State.answered_settings, settings]; exact get
    · rw [State.answered_settings, settings]; exact CaseSettings.set?_get_ne set other
    · rw [State.answered_settings, settings, State.lineUp_store, State.answer_store, store, uStore]
    · simp [now, uNow]
    · simp [State.caseSetsKept, faults, uFaults]
    · rw [State.answered_settings, settings, State.lineUp_supply, State.answer_supply, u.settingTakesEffect_budget h,
        uSettings, uSupply]
      cases s.supply.cls <;> rfl
    · simp [u.settingTakesEffect_supply h g, uSupply]
    · obtain ⟨pass, scheduler, transit⟩ := u.settingTakesEffect_evaluates h
      exact ⟨(State.pass_answered _ _ _ _ _).trans pass, by simp [scheduler, uScheduler], by simp [transit, uTransit]⟩
    · have started : u.settingTakesEffect n.toNat = u.startPass := by rw [h]; rfl
      have width : u.settings.unloadWidth = v := by rw [uSettings, ← get, h]; rfl
      rw [started]
      exact ⟨by simpa [width] using u.startPass_ends, by simp [uArbiter], by simp [uTransit]⟩
    · have acted : u.settingTakesEffect n.toNat = u.quietCodeChanged := by rw [h]; rfl
      have code : u.settings.quietCode = v := by rw [uSettings, ← get, h]; rfl
      have transit := u.quietCodeChanged_transit
      rw [acted, State.lineUp_transit, State.answer_transit, transit, uTransit]
      refine ⟨?_, ?_, fun normal => ?_, fun safe => ?_⟩
      · exact ⟨by simp [uBays], by simp [uArbiter], by simp [uScheduler], by simp [uMotion], by simp [uSupply]⟩
      · split <;> rfl
      · have here : (s.transitAfterFrame (s.now + dt)).mode = .normal := normal
        rw [if_pos here, code, uNow]
      · have here : (s.transitAfterFrame (s.now + dt)).mode ≠ .normal := by rw [State.transitAfterFrame, safe]; decide
        rw [if_neg here]
    · rw [u.settingTakesEffect_of_none h]
      exact ⟨⟨by simp [uBays], by simp [uArbiter], by simp [uScheduler], by simp [uMotion], by simp [uSupply]⟩,
        by simp [uTransit]⟩

/-! ### SET PROFILE and SET BAY (R161, R163) -/

theorem toNat_byteOf {x : Nat} (h : x < 256) : (byteOf x).toNat = x := by
  rw [byteOf, BitVec.toNat_ofNat, Nat.mod_eq_of_lt h]

theorem nat16_le16OfNat {x : Nat} (h : x < 65536) :
    nat16 ((BitVec.ofNat 16 x).extractLsb' 0 8) ((BitVec.ofNat 16 x).extractLsb' 8 8) = x := by
  have whole : (BitVec.ofNat 16 x).extractLsb' 8 8 ++ (BitVec.ofNat 16 x).extractLsb' 0 8 = BitVec.ofNat 16 x :=
    BitVec.extractLsb'_append_extractLsb' (w := 8) (len := 8)
  rw [nat16, word16, whole, BitVec.toNat_ofNat, Nat.mod_eq_of_lt h]

/-- The eighteen bytes of a profile carry it, where every field fits its bytes (R191). -/
theorem profileOf_image {p : Profile}
    (h : p.surgeCost < 256 ∧ p.pulsesPerRev < 256 ∧ p.speedLow < 65536 ∧ p.speedHigh < 65536 ∧ p.tachFirst < 65536 ∧
      p.holdTime < 256 ∧ p.retryLimit < 256 ∧ p.rank < 256 ∧ p.loadTimeout < 65536 ∧ p.loadSettle < 65536 ∧
      p.unloadDeadline < 65536 ∧ p.stopTimeout < 256) : profileOf p.image = some p := by
  obtain ⟨cost, ppr, low, high, first, hold, retry, rank, load, settle, unload, stop⟩ := h
  simp [Profile.image, le16OfNat, le16, profileOf, toNat_byteOf, nat16_le16OfNat, cost, ppr, low, high, first, hold, retry,
    rank, load, settle, unload, stop]

/-- The ranges of R160 are those of the statement. -/
theorem Profile.valid_iff_fits (p : Profile) : p.valid = true ↔ p.fits := by
  simp only [Profile.valid, Profile.fits, within, Bool.and_eq_true, decide_eq_true_eq]
  omega

theorem handleSetProfile_argument {r : Req} {p : Profile} {n : Byte} (body : r.body = n :: p.image)
    (image : profileOf p.image = some p) (above : 7 < n.toNat) (s : State) :
    handleSetProfile r s = s.answer .setProfile r .argument [] := by
  simp [handleSetProfile, body, image, profileNoOf_above above]

theorem handleSetProfile_checked {r : Req} {p : Profile} {n : Byte} {k : Fin 8} (body : r.body = n :: p.image)
    (image : profileOf p.image = some p) (number : n.toNat = k.val) (s : State) :
    handleSetProfile r s = s.checked .setProfile r (State.setProfileTo r k p) := by
  simp [handleSetProfile, body, image, profileNoOf_of_toNat number]

theorem bayOf_of_toNat {n : Byte} {b : BayNo} (h : n.toNat = b.val) : bayOf n = some b := by
  simp [bayOf, h]

theorem handleSetBay_argument {r : Req} {n m : Byte} (body : r.body = [n, m]) (above : 15 < n.toNat) (s : State) :
    handleSetBay r s = s.answer .setBay r .argument [] := by
  simp [handleSetBay, body, bayOf_above above]

theorem handleSetBay_checked {r : Req} {n m : Byte} {b : BayNo} (body : r.body = [n, m]) (number : n.toNat = b.val)
    (s : State) : handleSetBay r s = s.checked .setBay r (State.setSelection r b m) := by
  simp [handleSetBay, body, bayOf_of_toNat number]

/-- A request that writes the working settings after the CHECK flag. -/
theorem State.setsWorking_of_checked {s : State} {k : ReqKind} {r : Req} (hands : s.hands k r)
    (accepts : ¬ s.checkRefuses r) (dt : Nat) {go : State → State}
    (checks : ∀ t : State, handler k r t = t.checked k r go) {f : WorkingSettings → WorkingSettings} {st : Status}
    {body : List Byte}
    (writes : go (s.elapse dt).frameArrived = ((s.elapse dt).frameArrived.modWorking f).answer k r st body) :
    ∃ t, exec (commandOf k dt r) s = .next t ∧ t.now = s.now + dt ∧ t.replied k r st body ∧
      t.store = { s.store with working := f s.store.working } ∧ s.driveKept t ∧ t.faults = s.faults ∧
      t.transit = s.transitAfterFrame (s.now + dt) ∧ s.nothingRaised t :=
  State.setsWorking_of_hands hands dt (by
    rw [checks, State.checked_of_not_checkRefuses (mt (s.checkRefuses_arrived dt r).mp accepts), writes])

/-- A byte is the byte of its number. -/
theorem byteOf_toNat {n : Byte} {k : Nat} (h : n.toNat = k) : byteOf k = n := by
  rw [byteOf, ← h, BitVec.ofNat_toNat, BitVec.setWidth_eq]

/-- Settles O52. -/
theorem profilesAndSelections : Obligations.ProfilesAndSelections := by
  refine ⟨fun dt r s p n hands body fields => ?_, fun dt r s n m hands body => ?_⟩
  · have image := profileOf_image fields
    refine ⟨fun above => ?_, fun named refuses => ?_, fun k number accepts => ⟨fun misfits => ?_, fun fits => ?_⟩⟩
    · obtain ⟨t, step, kept, -, replied⟩ := State.answers_of_hands hands dt (handleSetProfile_argument body image above _)
      exact ⟨t, step, replied, kept⟩
    · have number : n.toNat = (⟨n.toNat, by omega⟩ : Fin 8).val := rfl
      exact State.refused_of_hands hands refuses dt (handleSetProfile_checked body image number)
    · refine State.answered_of_checked hands accepts dt (handleSetProfile_checked body image number) ?_
      rw [State.setProfileTo, if_neg (mt p.valid_iff_fits.mp misfits), State.profileBody_arrived s dt number]
    · obtain ⟨t, step, -, replied, store, drive, faults, transit, quiet⟩ :=
        State.setsWorking_of_checked (f := fun w => { w with profiles := w.profiles.set k.val p k.isLt })
          (st := .done) (body := n :: p.image) hands accepts dt (handleSetProfile_checked body image number) (by
            rw [State.setProfileTo, if_pos (p.valid_iff_fits.mpr fits)]
            simp [State.profileBody, byteOf_toNat number, State.modWorking])
      exact ⟨t, step, replied, store, drive, faults, transit, quiet⟩
  · refine ⟨fun above => ?_, fun named refuses => ?_, fun b number accepts => ⟨fun above => ?_, fun k profile => ?_⟩⟩
    · obtain ⟨t, step, kept, -, replied⟩ := State.answers_of_hands hands dt (handleSetBay_argument body above _)
      exact ⟨t, step, replied, kept⟩
    · have number : n.toNat = (⟨n.toNat, by omega⟩ : BayNo).val := rfl
      exact State.refused_of_hands hands refuses dt (handleSetBay_checked body number)
    · refine State.answered_of_checked hands accepts dt (handleSetBay_checked body number) ?_
      rw [State.setSelection, profileNoOf_above above]
      rw [State.selectionBody, byteOf_toNat number, State.frameArrived_store]
      rfl
    · obtain ⟨t, step, -, replied, store, drive, faults, transit, quiet⟩ :=
        State.setsWorking_of_checked (f := fun w => { w with selections := w.selections.set b.val k b.isLt })
          (st := .done) (body := [n, m]) hands accepts dt (handleSetBay_checked body number) (by
            rw [State.setSelection, profileNoOf_of_toNat profile]
            simp [State.selectionBody, byteOf_toNat number, byteOf_toNat profile, State.modWorking])
      exact ⟨t, step, replied, store, drive, faults, transit, quiet⟩

end Sys2Proof.Machine
end

section
/-! PROOFS. What the notices of a source name after an event (R136, R182): an addition reaches every entry of its source,
what an entry names it goes on naming, and the line takes an entry as it stands. -/

namespace Sys2Proof.Machine

section

variable {src : Source} {p q : Notice → Prop} {D : Source → Prop} {s t : State}

/-- The source has an entry in the queue, and every entry of it has the property. -/
def State.Notes (s : State) (src : Source) (p : Notice → Prop) : Prop :=
  (∃ n ∈ s.link.notices, n.source = src) ∧ ∀ n ∈ s.link.notices, n.source = src → p n

theorem State.Notes.and (h : s.Notes src p) (g : s.Notes src q) : s.Notes src (fun n => p n ∧ q n) :=
  ⟨h.1, fun n mem here => ⟨h.2 n mem here, g.2 n mem here⟩⟩

theorem State.Notes.imp (h : s.Notes src p) (imp : ∀ n, p n → q n) : s.Notes src q :=
  ⟨h.1, fun n mem here => imp n (h.2 n mem here)⟩

theorem State.Notes.congr (h : s.Notes src p) (link : t.link.notices = s.link.notices) : t.Notes src p := by
  rw [State.Notes, link]
  exact h

/-- A property that an entry keeps while it grows, and while its source has no TEST_DONE unless `results`. -/
def Notice.Stable (results : Prop) (p : Notice → Prop) : Prop :=
  ∀ n m : Notice, n.Grown m → (m.testDone = n.testDone ∨ results) → p n → p m

theorem Notice.stable_events {results : Prop} (e : Word16) : Notice.Stable results (fun n => n.events &&& e = e) :=
  fun _ _ grown _ h => and_trans_of_bits h grown.events

theorem Notice.stable_faults {results : Prop} (c : Byte) : Notice.Stable results (fun n => n.faults &&& c = c) :=
  fun _ _ grown _ h => and_trans_of_bits h grown.faults

/-- The result of a TEST_DONE stands while the source has no other. -/
theorem Notice.stable_testDone (w : WindingResult) : Notice.Stable False (fun n => n.testDone = w) :=
  fun _ _ _ same h => by rw [← h]; exact same.resolve_right id

theorem Notice.Stable.and {results : Prop} (h : Notice.Stable results p) (g : Notice.Stable results q) :
    Notice.Stable results (fun n => p n ∧ q n) :=
  fun n m grown same ⟨left, right⟩ => ⟨h n m grown same left, g n m grown same right⟩

/-- Additions leave what the entries of a source name. -/
theorem NotesGrow.stable {ns ms : List Notice} (h : NotesGrow D ns ms) (stable : Notice.Stable (D src) p)
    (has : (∃ n ∈ ns, n.source = src) ∧ ∀ n ∈ ns, n.source = src → p n) :
    (∃ n ∈ ms, n.source = src) ∧ ∀ n ∈ ms, n.source = src → p n := by
  induction h with
  | refl => exact has
  | add src' st f grown adds ih =>
    rename_i ms
    obtain ⟨⟨n, mem, here⟩, all⟩ := ih
    obtain ⟨m, memM, grownM, -⟩ := mem_addToNotices adds src' st mem
    refine ⟨⟨m, memM, grownM.source.trans here⟩, fun l memL hereL => ?_⟩
    unfold addToNotices at memL
    split at memL
    · obtain ⟨k, memK, rfl⟩ := List.mem_map.mp memL
      split at hereL
      · rename_i own
        rw [if_pos own]
        obtain ⟨source, events, faults, testDone⟩ := adds { k with state := st }
        have same : src' = src := by rw [source] at hereL; rw [← hereL]; simpa using (beq_iff_eq.mp own).symm
        subst same
        exact stable k _ ⟨source, events, faults⟩ testDone (all k memK (beq_iff_eq.mp own))
      · rename_i other
        rw [if_neg other]
        exact all k memK hereL
    · rename_i absent
      rcases List.mem_append.mp memL with old | new
      · exact all l old hereL
      · obtain rfl := List.mem_singleton.mp new
        have same : src' = src := by rw [(adds _).1] at hereL; exact hereL
        subst same
        exact absurd (List.any_eq_true.mpr ⟨n, mem, by simpa using here⟩) absent

theorem State.Event.notes (h : s.Event D t) (stable : Notice.Stable (D src) p) (has : s.Notes src p) : t.Notes src p :=
  h.notices.stable stable has

/-- An addition reaches every entry of its source. -/
theorem State.notes_addNotice (s : State) {f : Notice → Notice} (source : ∀ n, (f n).source = n.source)
    (has : ∀ n, p (f n)) : (s.addNotice src f).Notes src p := by
  obtain ⟨n, here, -, mem⟩ := addToNotices_here src (s.sourceState true src) f s.link.notices
  refine ⟨⟨f n, mem, (source n).trans here⟩, fun m memM hereM => ?_⟩
  have memM : m ∈ addToNotices src (s.sourceState true src) f s.link.notices := memM
  unfold addToNotices at memM
  split at memM
  · obtain ⟨k, -, rfl⟩ := List.mem_map.mp memM
    split at hereM
    · rename_i own; rw [if_pos own]; exact has _
    · rename_i other; exact absurd (beq_iff_eq.mpr hereM) other
  · rename_i absent
    rcases List.mem_append.mp memM with old | new
    · exact absurd (List.any_eq_true.mpr ⟨m, old, by simpa using hereM⟩) absent
    · obtain rfl := List.mem_singleton.mp new
      exact has _

theorem State.notes_addBayEvent (s : State) (b : BayNo) (e : BayEvent) :
    (s.addBayEvent b e).Notes (.bay b) (fun n => n.events &&& e.bit = e.bit) :=
  s.notes_addNotice (fun _ => rfl) fun n => by rw [BitVec.or_comm]; exact or_and_self_left _ _

/-- TEST_DONE carries the result that the record holds (R156). -/
theorem State.notes_testDone (s : State) (b : BayNo) :
    (s.addBayEvent b .testDone).Notes (.bay b) (fun n => n.testDone = (s.bay b).winding) :=
  s.notes_addNotice (fun _ => rfl) fun _ => rfl

theorem State.notes_addCaseEvent (s : State) (e : CaseEvent) :
    (s.addCaseEvent e).Notes .theCase (fun n => n.events &&& e.bit = e.bit) :=
  s.notes_addNotice (fun _ => rfl) fun n => by rw [BitVec.or_comm]; exact or_and_self_left _ _

/-- An entry that raises an event. -/
theorem State.notes_enter (s : State) {b : BayNo} {st : BayState} {e : BayEvent}
    (raises : entryEvent (s.bay b).state st = some e) :
    (s.enter b st).Notes (.bay b) (fun n => n.events &&& e.bit = e.bit) := by
  rw [State.enter, raises]
  exact State.notes_addBayEvent _ b e

/-- An entry after TEST_DONE names both events and the result (R156). -/
theorem State.notes_enterAfter_testDone (s : State) {b : BayNo} {st : BayState} {e : BayEvent}
    (raises : entryEvent (s.bay b).state st = some e) :
    (s.enterAfter .testDone b st).Notes (.bay b) (fun n => n.events &&& BayEvent.testDone.bit = BayEvent.testDone.bit ∧
      n.testDone = (s.bay b).winding ∧ n.events &&& e.bit = e.bit) := by
  have notTest : some e ≠ some .testDone := raises ▸ entryEvent_ne_testDone _ _
  have done := (State.notes_addBayEvent (s.enterQuietly b st) b .testDone).and (State.notes_testDone _ b)
  have winding : ((s.enterQuietly b st).bay b).winding = (s.bay b).winding := by
    rw [State.enterQuietly, State.bay_modBay_self]; rfl
  rw [winding] at done
  have added : ((s.enterQuietly b st).addBayEvent b .testDone).Event (fun _ => False) (s.enterAfter .testDone b st) := by
    rw [State.enterAfter, raises]
    exact State.event_addBayEvent? _ notTest
  have named : (s.enterAfter .testDone b st).Notes (.bay b) (fun n => n.events &&& e.bit = e.bit) := by
    rw [State.enterAfter, raises]
    exact State.notes_addBayEvent _ b e
  exact ((added.notes ((Notice.stable_events _).and (Notice.stable_testDone _)) done).and named).imp
    fun n ⟨⟨done, result⟩, event⟩ => ⟨done, result, event⟩

/-- An unmasked report names its class (R136). -/
theorem State.notes_reportBay (s : State) {c : BayFault} (b : BayNo) (unmasked : c.maskedBy s.store.working.masks = false) :
    (s.reportBay c b).Notes (.bay b) (fun n => n.faults &&& c.bit = c.bit) := by
  have hold : s.answersHold c = true := by rw [State.answersHold, unmasked]; rfl
  unfold State.reportBay
  simp only [hold, if_true]
  exact State.notes_addNotice _ (fun _ => rfl) fun n => by rw [BitVec.or_comm]; exact or_and_self_left _ _

theorem State.notes_reportCase (s : State) {c : CaseFault} (unmasked : c.maskedBy s.store.working.masks = false) :
    (s.reportCase c).Notes .theCase (fun n => n.faults &&& c.bit = c.bit) := by
  unfold State.reportCase
  simp only [unmasked, Bool.false_eq_true, if_false]
  exact State.notes_addNotice _ (fun _ => rfl) fun n => by rw [BitVec.or_comm]; exact or_and_self_left _ _

/-- At the end of the event an entry waits, or the line has taken it as it stood. -/
theorem State.Notes.lineUp (h : s.Notes src p) : s.lineUp.noticed src p := by
  obtain ⟨⟨n, mem, here⟩, all⟩ := h
  have waits (same : s.lineUp.link.notices = s.link.notices) : s.lineUp.noticed src p :=
    .inl ⟨n, same ▸ mem, here, all n mem here⟩
  cases idle : s.link.tx with
  | some f => exact waits (by rw [State.lineUp_busy s (by rw [idle]; rfl)])
  | none =>
    cases slot : s.link.slot with
    | some rep => exact waits (by rw [State.lineUp_of_reply idle slot]; rfl)
    | none =>
      cases notices : s.link.notices with
      | nil => rw [notices] at mem; exact absurd mem List.not_mem_nil
      | cons first rest =>
        have taken := State.lineUp_of_notice idle slot notices
        have left : s.lineUp.link.notices = rest := by rw [taken]; rfl
        rw [notices] at mem
        rcases List.mem_cons.mp mem with rfl | later
        · refine .inr ⟨n, _, by rw [taken]; rfl, here, all n (notices ▸ List.mem_cons_self) here, ?_⟩
          rw [left, ← here, taken]
          cases n.source <;> rfl
        · exact .inl ⟨n, left ▸ later, here, all n (notices ▸ List.mem_cons_of_mem _ later) here⟩

theorem State.noticed_imp (h : s.noticed src p) (imp : ∀ n, p n → q n) : s.noticed src q := by
  rcases h with ⟨n, mem, here, has⟩ | ⟨n, f, line, here, has, bytes⟩
  · exact .inl ⟨n, mem, here, imp n has⟩
  · exact .inr ⟨n, f, line, here, imp n has, bytes⟩

/-- An answer adds no notice and takes none. -/
theorem State.Notes.answer (h : s.Notes src p) (k : ReqKind) (r : Req) (st : Status) (body : List Byte) :
    (s.answer k r st body).Notes src p := h.congr rfl

/-- Nothing is raised where the queue stands before the line takes its next frame. -/
theorem State.nothingRaised_of_notices (h : t.link.notices = s.link.notices) : s.nothingRaised t.lineUp := by
  rw [State.nothingRaised, ← h]
  exact t.lineUp_notices

end

end Sys2Proof.Machine
end

section
/-! PROOFS. The case as a whole: the entry into TRANSIT_SAFE and the return, the end of the start-up load, and RECALL: the
statements O9, O31, O32 and O53. -/

namespace Sys2Proof.Machine

/-! ### The entry into TRANSIT_SAFE (R130) -/

section

variable {D : Source → Prop} {src : Source} {p : Notice → Prop} {s : State}

/-- What one holder of an unordered event makes the notices of a source name, they name after the event. -/
theorem State.notes_inFreeOrder {holders : List (State → State)} {f : State → State} (mem : f ∈ holders)
    (event : ∀ g ∈ holders, ∀ t : State, t.Event D (g t)) (stable : Notice.Stable (D src) p)
    (brings : ∀ t : State, (f t).Notes src p) : (s.inFreeOrder holders).Notes src p := by
  obtain ⟨order, perm, notices⟩ := s.inFreeOrder_notices holders
  refine State.Notes.congr (s := s.inTurn order) ?_ notices
  exact State.inTurn_brings (P := fun _ => True) (perm.symm.subset mem) (fun _ _ _ _ => trivial) (fun t _ => brings t)
    (fun g mem t _ notes => (event g (perm.subset mem) t).notes stable notes) trivial

/-- The notice of the case names SAFE_ENTERED (R130). -/
theorem State.notes_enterSafe (h : s.transit.mode = .normal) :
    s.enterSafe.Notes .theCase (fun n => n.events &&& CaseEvent.safeEntered.bit = CaseEvent.safeEntered.bit) := by
  rw [State.enterSafe_of_normal h]
  refine State.notes_inFreeOrder (D := fun _ => True) (f := State.addCaseEvent .safeEntered)
    (by simp) (fun g mem t => ?_) (Notice.stable_events _) (fun t => t.notes_addCaseEvent _)
  simp only [List.mem_append, List.mem_cons, List.mem_map, List.not_mem_nil, or_false] at mem
  obtain (rfl | ⟨b, -, rfl⟩) | rfl := mem
  · exact t.event_addCaseEvent _
  · exact t.event_transitBay trivial
  · exact t.event_sweep _

/-- The entry leaves the time, the Supply Monitor, the Fault Unit, the store and the class of the motion. -/
theorem State.enterSafe_case (h : s.transit.mode = .normal) :
    s.enterSafe.now = s.now ∧ s.enterSafe.transit = { mode := .transitSafe, quietDue := none } ∧
      s.enterSafe.supply = s.supply ∧ s.enterSafe.faults = s.faults ∧ s.enterSafe.store = s.store ∧
      s.enterSafe.motion.cls = s.motion.cls := by
  have same := (s.sameCase_transited).trans (State.sameCase_walked s.transited .transit)
  rw [State.enterSafe_eq h]
  simp only [State.sweep_eq, State.startPass_now, State.startPass_transit, State.startPass_supply, State.startPass_faults,
    State.startPass_store]
  refine ⟨same.now, same.transit, same.supply, same.faults, same.store, ?_⟩
  rw [(State.marks_startPass _).cls, same.motion]
  rfl

/-- The entry leaves the spin-up queue empty (R129). -/
theorem State.enterSafe_queue (q : s.queuesMatch) (h : s.transit.mode = .normal) : s.enterSafe.arbiter.queue = [] := by
  have matched := s.keeps_enterSafe.queues q
  obtain ⟨-, queued, -⟩ := s.enterSafe.queuesMatch_iff.mp matched
  refine List.eq_nil_iff_forall_not_mem.mpr fun e mem => ?_
  have here := (queued e.bay).mp (List.mem_map_of_mem mem)
  exact (State.enterSafe_madeSafe q h e.bay).quiet.1 here

/-- The entry makes the case safe, as the line finds it (R130). -/
theorem State.madeSafe_enterSafe {s u v : State} (q : u.queuesMatch) (h : u.transit.mode = .normal)
    (bays : u.bays = s.bays) (supply : u.supply = s.supply) (store : u.store = s.store)
    (vBays : v.bays = u.enterSafe.bays) (vTransit : v.transit = u.enterSafe.transit)
    (vArbiter : v.arbiter = u.enterSafe.arbiter) (vSupply : v.supply = u.enterSafe.supply)
    (vStore : v.store = u.enterSafe.store) (vNotices : v.link.notices = u.enterSafe.link.notices) :
    s.madeSafe v.lineUp := by
  obtain ⟨-, transit, supply', -, store', -⟩ := State.enterSafe_case h
  refine ⟨by simp [vTransit, transit], by simp [vTransit, transit], fun b => ?_,
    by simp [vArbiter, State.enterSafe_queue q h], State.Notes.lineUp (State.notes_enterSafe h |>.congr vNotices),
    by rw [State.lineUp_supply, vSupply, supply', supply], by rw [State.lineUp_store, vStore, store', store]⟩
  rw [State.lineUp_bay, State.bay_of_bays vBays, ← State.bay_of_bays bays]
  exact State.enterSafe_madeSafe q h b

end

/-! ### The quiet timer (R126) -/

/-- A report of a case class writes its sets (R136). -/
theorem State.reportCase_faults (s : State) (c : CaseFault) :
    (s.reportCase c).faults.caseSticky = s.faults.caseSticky ||| c.bit ∧
      (s.reportCase c).faults.casePending =
        (if c.maskedBy s.store.working.masks then s.faults.casePending else s.faults.casePending ||| c.bit) ∧
      (c.maskedBy s.store.working.masks = false → (s.reportCase c).faults.attn = true) := by
  unfold State.reportCase
  dsimp only
  split
  · rename_i masked; exact ⟨rfl, rfl, fun h => by rw [masked] at h; exact nomatch h⟩
  · refine ⟨rfl, rfl, fun _ => ?_⟩
    have pending : s.faults.casePending ||| c.bit ≠ 0 := or_ne_zero_of_right c.bit_ne_zero
    exact (State.anyPending_iff _).mpr (.inl pending)

/-- Settles O31. -/
theorem quietTimerMakesTheCaseSafe : Obligations.QuietTimerMakesTheCaseSafe := by
  intro dt s due q normal running
  have step : exec (.quietTimerExpiry dt) s =
      .next (((s.elapse dt).advanceTo due).reportCase .quiet).enterSafe.lineUp := by
    have here : (s.elapse dt).transit.quietDue = some due := running
    simp only [exec, execQuietTimerExpiry, State.takeEvent_eq, here]
    rfl
  have matched : (((s.elapse dt).advanceTo due).reportCase .quiet).queuesMatch :=
    (((s.keeps_elapse dt).trans (State.keeps_advanceTo _ due)).trans (State.keeps_reportCase _ _)).queues q
  obtain ⟨sticky, pending, attn⟩ := ((s.elapse dt).advanceTo due).reportCase_faults .quiet
  have notes := State.notes_reportCase ((s.elapse dt).advanceTo due) (c := .quiet)
  generalize hu : ((s.elapse dt).advanceTo due).reportCase .quiet = u at *
  have mode : u.transit.mode = .normal := by simpa [← hu] using normal
  obtain ⟨now, -, -, faults, -⟩ := State.enterSafe_case mode
  refine ⟨_, step, by rw [State.lineUp_now, now]; simp [← hu, State.advanceTo],
    State.madeSafe_enterSafe matched mode (by simp [← hu]) (by simp [← hu]) (by simp [← hu]) rfl rfl rfl rfl rfl rfl, ?_,
    fun unmasked => ⟨?_, ?_⟩⟩
  · rw [State.caseReported, State.lineUp_faults, faults]
    exact ⟨sticky, pending⟩
  · rw [State.lineUp_faults, faults]
    exact attn unmasked
  · exact ((u.event_enterSafe (D := fun _ => True) fun _ => trivial).notes (Notice.stable_faults _)
      (notes unmasked)).lineUp

/-! ### FORCE SAFE and LEAVE SAFE (R131, R132) -/

theorem forceSafe_checks {r : Req} {s : State} (hands : s.hands .forceSafe r) (t : State) :
    handler .forceSafe r t = t.checked .forceSafe r (fun s => s.enterSafe.answer .forceSafe r .done []) :=
  withEmptyBody_of_nil (List.length_eq_zero_iff.mp hands.2.2) t

theorem leaveSafe_checks {r : Req} {s : State} (hands : s.hands .leaveSafe r) (t : State) :
    handler .leaveSafe r t = t.checked .leaveSafe r (fun s => s.leaveSafe.answer .leaveSafe r .done []) :=
  withEmptyBody_of_nil (List.length_eq_zero_iff.mp hands.2.2) t

/-- Settles O32. -/
theorem forceAndLeaveSafe : Obligations.ForceAndLeaveSafe := by
  refine ⟨fun dt r s hands => ⟨fun refuses => State.refused_of_hands hands refuses dt (forceSafe_checks hands),
    fun accepts q normal => ?_, fun accepts safe => ?_⟩,
    fun dt r s hands => ⟨fun refuses => State.refused_of_hands hands refuses dt (leaveSafe_checks hands),
    fun accepts safe => ?_, fun accepts normal => ?_⟩⟩
  · have mode : (s.elapse dt).frameArrived.transit.mode = .normal := by simpa [State.transitAfterFrame] using normal
    have matched := ((s.keeps_elapse dt).trans (State.keeps_frameArrived _)).queues q
    obtain ⟨now, transit, -, faults, -, -⟩ := State.enterSafe_case mode
    refine ⟨_, exec_of_checked hands accepts dt (forceSafe_checks hands),
      State.lineUp_replied (State.answer_replied _ _ _ _ _),
      State.madeSafe_enterSafe matched mode (by simp) (by simp) (by simp) rfl rfl rfl rfl rfl rfl, ?_, ?_, _,
      State.answer_slot _ _ _ _ _, ?_⟩
    · rw [State.lineUp_faults, State.answer_faults, faults]; simp
    · rw [State.lineUp_now, State.answer_now, now]; simp
    · simp only [State.summary_eq, transit, BitVec.getLsbD_or, getLsbD_flagBit]
      simp
  · have mode : (s.elapse dt).frameArrived.transit.mode = .transitSafe := by simpa [State.transitAfterFrame] using safe
    exact State.answered_of_checked hands accepts dt (forceSafe_checks hands) (by rw [State.enterSafe_of_safe mode])
  · have mode : (s.elapse dt).frameArrived.transit.mode = .transitSafe := by simpa [State.transitAfterFrame] using safe
    have left : (s.elapse dt).frameArrived.leaveSafe =
        (((s.elapse dt).frameArrived.modTransit (fun t => { t with mode := .normal })).startQuiet).addCaseEvent .safeLeft := by
      rw [State.leaveSafe, mode]
    refine ⟨_, exec_of_checked hands accepts dt (leaveSafe_checks hands),
      State.lineUp_replied (State.answer_replied _ _ _ _ _), ?_, ?_, ?_, ?_, ?_, ?_⟩
    · rw [State.lineUp_transit, State.answer_transit, left]
      simp [State.startQuiet, quietLength_micros]
    · rw [left]
      exact ((State.notes_addCaseEvent _ _).answer _ _ _ _).lineUp
    · rw [left]; simp [State.driveKept]
    · rw [left]; simp
    · rw [left]; simp
    · rw [left]; simp
  · have mode : (s.elapse dt).frameArrived.transit.mode = .normal := by simpa [State.transitAfterFrame] using normal
    exact State.answered_of_checked hands accepts dt (leaveSafe_checks hands) (by rw [State.leaveSafe, mode])

/-! ### The end of the start-up load (R169) -/

/-- What the transit unit does at the start (R127). -/
theorem State.startTransit_case (s : State) :
    s.startTransit.now = s.now ∧ s.startTransit.supply = s.supply ∧ s.startTransit.faults = s.faults ∧
      s.startTransit.store = s.store ∧ s.startTransit.motion.cls = s.motion.cls := by
  unfold State.startTransit
  split
  · cases mode : s.transit.mode with
    | transitSafe => rw [State.enterSafe_of_safe mode]; exact ⟨rfl, rfl, rfl, rfl, rfl⟩
    | normal =>
      obtain ⟨now, -, supply, faults, store, cls⟩ := State.enterSafe_case mode
      exact ⟨now, supply, faults, store, cls⟩
  · exact ⟨rfl, rfl, rfl, rfl, rfl⟩

theorem State.startTransit_mode {s : State} (h : s.settings.quietCode = 7) : s.startTransit.transit.mode = .transitSafe := by
  rw [State.startTransit, if_pos h]
  cases mode : s.transit.mode with
  | transitSafe => rw [State.enterSafe_of_safe mode]; exact mode
  | normal => rw [(State.enterSafe_case mode).2.1]

/-- The state that the end of the load hands to the transit unit. -/
def State.loaded (s : State) : State := (s.modStore (fun t => { t with loading := false })).installImage.startReadings

theorem State.endLoad_eq (s : State) : s.endLoad = s.loaded.startTransit.addCaseEvent .started := rfl

/-- The image is installed, or STORE_BAD is reported; nothing else changes but the readings (R169). -/
theorem State.loaded_case (s : State) :
    s.loaded.now = s.now ∧ s.loaded.bays = s.bays ∧ s.loaded.arbiter = s.arbiter ∧ s.loaded.scheduler = s.scheduler ∧
      s.loaded.motion = s.motion ∧ s.loaded.transit = s.transit ∧
      s.loaded.supply = { s.supply with nextReading := some ((s.now / ms + 1) * ms) } ∧
      s.loaded.store.loading = false ∧ s.loaded.store.image = s.store.image ∧ s.loaded.store.commit = s.store.commit := by
  simp only [State.loaded, State.startReadings, State.installImage]
  split <;> simp [State.modStore, State.modWorking, State.modSupply]

theorem State.loaded_of_passes {s : State} (h : s.store.image.passes = true) :
    s.loaded.store.working = s.store.image.values ∧ s.loaded.faults = s.faults := by
  have passes : (s.modStore (fun t => { t with loading := false })).store.image.passes = true := h
  simp only [State.loaded, State.startReadings, State.installImage, passes, if_true]
  exact ⟨rfl, rfl⟩

theorem State.loaded_of_fails {s : State} (h : s.store.image.passes = false) :
    s.loaded = ((s.modStore (fun t => { t with loading := false })).reportCase .storeBad).startReadings := by
  have fails : (s.modStore (fun t => { t with loading := false })).store.image.passes = false := h
  simp only [State.loaded, State.installImage, fails, Bool.false_eq_true, if_false]

theorem exec_startUpLoadEnd (dt : Nat) (s : State) : exec (.startUpLoadEnd dt) s =
    .next (if (s.elapse dt).store.loading then (s.elapse dt).endLoad else s.elapse dt).lineUp := rfl

/-- Settles O9. -/
theorem startUpLoadEnds : Obligations.StartUpLoadEnds := by
  intro dt s loading
  have step : exec (.startUpLoadEnd dt) s = .next (s.elapse dt).endLoad.lineUp := by
    have here : (s.elapse dt).store.loading = true := loading
    rw [exec_startUpLoadEnd, if_pos here]
  obtain ⟨now, bays, arbiter, scheduler, motion, transit, supply, notLoading, image, commit⟩ := (s.elapse dt).loaded_case
  obtain ⟨now', supply', faults', store', cls'⟩ := (s.elapse dt).loaded.startTransit_case
  have started := (s.elapse dt).loaded.startTransit.notes_addCaseEvent .started
  have event : (s.elapse dt).loaded.Event (fun _ => True) (s.elapse dt).endLoad :=
    (State.event_startTransit _ fun _ => trivial).trans (State.event_addCaseEvent _ _)
  have settings : (s.elapse dt).endLoad.lineUp.settings = (s.elapse dt).loaded.settings := by
    simp [State.settings, State.endLoad_eq, store']
  refine ⟨_, step, ?_, ?_, ?_, ?_, ?_, ?_, fun passes => ⟨?_, ?_⟩, fun fails => ⟨?_, ?_⟩, fun other => ?_, fun quiet => ?_, ?_⟩
  · simp [State.endLoad_eq, now', now]
  · simp [State.endLoad_eq, store', notLoading]
  · simp [State.endLoad_eq, store', image]
  · simp [State.endLoad_eq, store', commit]
  · simp [State.endLoad_eq, supply', supply, ms]
  · simp [State.endLoad_eq, cls', motion]
  · simp [State.endLoad_eq, store', (State.loaded_of_passes (s := s.elapse dt) passes).1]
  · simp [State.caseSetsKept, State.endLoad_eq, faults', (State.loaded_of_passes (s := s.elapse dt) passes).2]
  · rw [State.lineUp_store, State.endLoad_eq, State.addCaseEvent_store, store', State.loaded_of_fails (s := s.elapse dt) fails]
    simp [State.startReadings, State.modStore]
  · obtain ⟨sticky, pending, -⟩ := ((s.elapse dt).modStore (fun t => { t with loading := false })).reportCase_faults .storeBad
    rw [State.caseReported, State.lineUp_faults, State.endLoad_eq, State.addCaseEvent_faults, faults',
      State.loaded_of_fails (s := s.elapse dt) fails]
    exact ⟨sticky, pending⟩
  · rw [settings] at other ⊢
    rw [State.endLoad_eq, State.startTransit, if_neg other]
    refine ⟨?_, by simp [bays], by simp [arbiter], by simp [scheduler], by simp [motion]⟩
    simp [State.startQuiet, quietLength_micros, transit, now]
  · rw [settings] at quiet
    simpa [State.endLoad_eq] using State.startTransit_mode quiet
  · have named : (s.elapse dt).endLoad.Notes .theCase (fun n => (n.events &&& CaseEvent.started.bit = CaseEvent.started.bit) ∧
        (s.store.image.passes = false → CaseFault.storeBad.maskedBy s.store.working.masks = false →
          n.faults &&& CaseFault.storeBad.bit = CaseFault.storeBad.bit) ∧
        ((s.elapse dt).endLoad.lineUp.settings.quietCode = 7 → s.transit.mode = .normal →
          n.events &&& CaseEvent.safeEntered.bit = CaseEvent.safeEntered.bit)) := by
      refine ⟨started.1, fun n mem here => ⟨started.2 n mem here, fun fails unmasked => ?_, fun quiet normal => ?_⟩⟩
      · have reported : (s.elapse dt).loaded.Notes .theCase (fun n =>
            n.faults &&& CaseFault.storeBad.bit = CaseFault.storeBad.bit) := by
          rw [State.loaded_of_fails (s := s.elapse dt) fails]
          exact (State.notes_reportCase ((s.elapse dt).modStore (fun t => { t with loading := false })) unmasked).congr rfl
        exact (event.notes (Notice.stable_faults _) reported).2 n mem here
      · rw [settings] at quiet
        have mode : (s.elapse dt).loaded.transit.mode = .normal := by rw [transit]; exact normal
        have entered : (s.elapse dt).loaded.startTransit = (s.elapse dt).loaded.enterSafe := by rw [State.startTransit, if_pos quiet]
        have event : (s.elapse dt).loaded.enterSafe.Event (fun _ => True) (s.elapse dt).endLoad := by
          rw [State.endLoad_eq, entered]
          exact State.event_addCaseEvent _ _
        exact (event.notes (Notice.stable_events _) (State.notes_enterSafe mode)).2 n mem here
    exact named.lineUp

/-! ### RECALL (R172)

The statement asks that no pass grants after RECALL, and of no state that the two queues match the states of the bays. The
evaluation comes before the start pass, and in the state below the start pass takes bay 0 out of DIAG, so that the test of
bay 1, which waited for that, would then be granted. -/

/-- Bay 0 is in DIAG and stands in the unload queue too; a test of bay 1 waits. -/
def recallWitness : State :=
  { State.reset with
    bays := State.reset.bays.set 0 { BayRec.reset with state := .diag }
    arbiter := { Arbiter.reset with queue := [{ bay := 1, kind := .test, skip := 0 }] }
    scheduler := { Scheduler.reset with ordinary := [0] }
    supply := { Supply.reset with cls := .normal }
    store := { Store.reset with loading := false, image := .written .factory } }

/-- RECALL without the CHECK flag. -/
def recallRequest : Req := { flags := 0, tag := 0, body := [] }

theorem recall_checks {r : Req} {s : State} (hands : s.hands .recall r) (t : State) :
    handler .recall r t = t.checked .recall r (fun s =>
      if s.store.commit.isSome then s.answer .recall r .busy []
      else if s.store.image.passes then s.recallImage.answer .recall r .done []
      else (s.reportCase .storeBad).answer .recall r .store []) :=
  withEmptyBody_of_nil (List.length_eq_zero_iff.mp hands.2.2) t

theorem recallWitness_passes : recallWitness.store.image.passes = true := by
  rw [recallWitness, StoreImage.written_passes]
  exact WorkingSettings.factory_valid

/-- The start pass of the RECALL leaves the test admissible. -/
theorem recallWitness_grants : (recallWitness.elapse 0).frameArrived.recallImage.pass.isSome = true := by decide +kernel

/-- Refutes O53, in a state whose unload queue holds a bay in DIAG. -/
theorem not_commitAndRecall : ¬ Obligations.CommitAndRecall := by
  rintro ⟨-, recalls, -⟩
  have hands : recallWitness.hands .recall recallRequest := ⟨rfl, .inl rfl, rfl⟩
  have accepts : ¬ recallWitness.checkRefuses recallRequest := by rintro ⟨-, pending⟩; exact pending rfl
  obtain ⟨-, -, -, taken⟩ := recalls 0 recallRequest recallWitness hands
  obtain ⟨t, step, -, -, -, -, -, -, -, -, pass, -⟩ := taken accepts rfl recallWitness_passes
  have here := exec_of_checked hands accepts 0 (recall_checks hands)
  have notBusy : ¬ (recallWitness.elapse 0).frameArrived.store.commit.isSome = true := by simp [recallWitness, Store.reset]
  have passes : (recallWitness.elapse 0).frameArrived.store.image.passes = true := by simpa using recallWitness_passes
  rw [if_neg notBusy, if_pos passes] at here
  obtain rfl := Host.Outcome.next.inj (here.symm.trans step)
  rw [State.pass_answered] at pass
  have grants := recallWitness_grants
  rw [pass] at grants
  exact nomatch grants

end Sys2Proof.Machine
end

section
/-! PROOFS. Bay-set requests (R180): the state at the turn of each bay, the outcomes and the reply. -/

namespace Sys2Proof.Machine

section

variable {set : BaySet} {f : BayNo → State → Status × State} {s : State} {b : BayNo}

/-- The turn of one bay: it is handled where the set names it. -/
def State.takesTurn (set : BaySet) (f : BayNo → State → Status × State) (s : State) (b : BayNo) : State :=
  if inSet set b then (f b s).2 else s

/-- The state that bay `b` finds at its turn. -/
def State.atTurn (set : BaySet) (f : BayNo → State → Status × State) (b : BayNo) (s : State) : State :=
  (allBays.take b.val).foldl (State.takesTurn set f) s

/-- The outcome of bay `b`, at its turn. -/
def State.outcome (set : BaySet) (f : BayNo → State → Status × State) (s : State) (b : BayNo) : Status :=
  (f b (s.atTurn set f b)).1

/-- The state after the turns of all bays. -/
def State.allTurns (set : BaySet) (f : BayNo → State → Status × State) (s : State) : State :=
  allBays.foldl (State.takesTurn set f) s

theorem allBays_split (b : BayNo) : allBays = allBays.take b.val ++ b :: allBays.drop (b.val + 1) := by
  revert b; decide

theorem mem_take_allBays {b x : BayNo} (h : x ∈ allBays.take b.val) : x < b := by
  revert b x; decide

theorem mem_drop_allBays {b x : BayNo} (h : x ∈ allBays.drop (b.val + 1)) : b < x := by
  revert b x; decide

/-- As many bays stand before a bay as its number says. -/
theorem length_of_split {done rest : List BayNo} (h : allBays = done ++ b :: rest) : done.length = b.val := by
  have here : allBays[done.length]? = some b := by rw [h]; simp
  rw [allBays_eq_finRange, List.getElem?_eq_some_iff] at here
  obtain ⟨below, here⟩ := here
  rw [← here]
  simp

/-- The bays of a set in turn, each whole, with the outcome of each at its turn (R180). -/
theorem State.handleBays_eq (s : State) (set : BaySet) (f : BayNo → State → Status × State) :
    s.handleBays set f = ((baysOf set).map (fun b => (b, s.outcome set f b)), s.allTurns set f) := by
  have walk : ∀ (done rest : List BayNo), allBays = done ++ rest →
      rest.foldl (fun acc b => if inSet set b then
        let out := f b acc.2
        (acc.1 ++ [(b, out.1)], out.2) else acc)
          ((done.filter (inSet set)).map (fun b => (b, s.outcome set f b)), done.foldl (State.takesTurn set f) s) =
        ((allBays.filter (inSet set)).map (fun b => (b, s.outcome set f b)), s.allTurns set f) := by
    intro done rest
    induction rest generalizing done with
    | nil => intro all; rw [List.append_nil] at all; rw [all, State.allTurns, all]; rfl
    | cons b rest ih =>
      intro all
      have turn : done.foldl (State.takesTurn set f) s = s.atTurn set f b := by
        rw [State.atTurn, ← length_of_split all, all, List.take_left]
      have next := ih (done ++ [b]) (by rw [all]; simp)
      rw [List.foldl_cons, ← next, List.filter_append, List.map_append, List.foldl_append, turn]
      congr 1
      by_cases named : inSet set b = true
      · simp [named, State.takesTurn, State.outcome]
      · simp [named, State.takesTurn]
  exact walk [] allBays rfl

/-- The turns of some bays: what each turn that comes passes on. -/
theorem State.turns_induct {P : State → Prop} {l : List BayNo}
    (keeps : ∀ x ∈ l, inSet set x = true → ∀ t, P t → P (f x t).2) (start : P s) : P (l.foldl (State.takesTurn set f) s) := by
  induction l generalizing s with
  | nil => exact start
  | cons x l ih =>
    refine ih (fun y mem => keeps y (List.mem_cons_of_mem _ mem)) ?_
    unfold State.takesTurn
    split
    · rename_i named; exact keeps x List.mem_cons_self named s start
    · exact start

/-- What holds at the turn of a bay of the set, after the turns of the bays before it. -/
theorem State.atTurn_induct {P : State → Prop} (before : ∀ x, x < b → inSet set x = true → ∀ t, P t → P (f x t).2)
    (start : P s) : P (s.atTurn set f b) :=
  State.turns_induct (fun x mem => before x (mem_take_allBays mem)) start

/-- What the turn of a bay brings with its outcome, and the turns of the bays after it pass on. -/
theorem State.allTurns_brings {Q : Status → State → Prop} (named : inSet set b = true)
    (own : Q (s.outcome set f b) (f b (s.atTurn set f b)).2)
    (after : ∀ x, b < x → inSet set x = true → ∀ st t, Q st t → Q st (f x t).2) :
    Q (s.outcome set f b) (s.allTurns set f) := by
  have whole : s.allTurns set f = (allBays.drop (b.val + 1)).foldl (State.takesTurn set f) (f b (s.atTurn set f b)).2 := by
    rw [State.allTurns]
    conv => lhs; rw [allBays_split b]
    rw [List.foldl_append, List.foldl_cons, State.takesTurn, if_pos named]
    rfl
  rw [whole]
  exact State.turns_induct (fun x mem here t => after x (mem_drop_allBays mem) here _ t) own

/-- What the turns of all bays pass on. -/
theorem State.allTurns_induct {P : State → Prop} (keeps : ∀ x, inSet set x = true → ∀ t, P t → P (f x t).2)
    (start : P s) : P (s.allTurns set f) :=
  State.turns_induct (fun x _ => keeps x) start

/-- The status of a bay-set request, from the outcomes of its bays (R180). -/
theorem combineOutcomes_map (set : BaySet) (g : BayNo → Status) :
    combineOutcomes ((baysOf set).map (fun b => (b, g b))) = statusOf set g := by
  simp only [combineOutcomes, statusOf, List.all_map]
  rfl

/-- The reply body of a bay-set request (R180, R191). -/
theorem outcomeBody_map (set : BaySet) (g : BayNo → Status) :
    outcomeBody ((baysOf set).map (fun b => (b, g b))) =
      (baysOf set).flatMap (fun b => [BitVec.ofNat 8 b.val, (g b).code]) := by
  rw [outcomeBody, List.flatMap_map]
  rfl

/-- The reply of a bay-set request (R180). -/
theorem State.answerBays_eq (s : State) (k : ReqKind) (r : Req) (set : BaySet) (f : BayNo → State → Status × State) :
    s.answerBays k r set f = (s.allTurns set f).answer k r (statusOf set (s.outcome set f))
      ((baysOf set).flatMap (fun b => [BitVec.ofNat 8 b.val, (s.outcome set f b).code])) := by
  rw [State.answerBays, State.handleBays_eq]
  dsimp only
  rw [combineOutcomes_map, outcomeBody_map]

theorem State.listed_lineUp {t : State} (k : ReqKind) (r : Req) (set : BaySet) (g : BayNo → Status) :
    (t.answer k r (statusOf set g) ((baysOf set).flatMap (fun b => [BitVec.ofNat 8 b.val, (g b).code]))).lineUp.listed k r
      set g :=
  State.lineUp_replied (State.answer_replied _ _ _ _ _)

end

/-! ### The state in which a request is taken -/

/-- The bays, the arbiter, the scheduler, the motion, the supply, the Fault Unit and the store stand when a frame has
arrived. -/
theorem State.arrived_blocks (s : State) (dt : Nat) :
    (s.elapse dt).frameArrived.bays = s.bays ∧ (s.elapse dt).frameArrived.arbiter = s.arbiter ∧
      (s.elapse dt).frameArrived.scheduler = s.scheduler ∧ (s.elapse dt).frameArrived.motion = s.motion ∧
      (s.elapse dt).frameArrived.supply = s.supply ∧ (s.elapse dt).frameArrived.faults = s.faults ∧
      (s.elapse dt).frameArrived.store = s.store ∧ (s.elapse dt).frameArrived.now = s.now + dt ∧
      (s.elapse dt).frameArrived.transit = s.transitAfterFrame (s.now + dt) ∧
      (s.elapse dt).frameArrived.link.notices = s.link.notices := by
  simp

theorem State.arrived_bay (s : State) (dt : Nat) (b : BayNo) : (s.elapse dt).frameArrived.bay b = s.bay b := by simp

theorem State.arrived_queuesMatch {s : State} (q : s.queuesMatch) (dt : Nat) : (s.elapse dt).frameArrived.queuesMatch :=
  ((s.keeps_elapse dt).trans (State.keeps_frameArrived _)).queues q

/-! ### CLEAR FAULTS (R145) -/

theorem scopeOf_above {n : Byte} (h : 1 < n.toNat) : scopeOf n = none := by
  have zero : n ≠ 0 := by rintro rfl; exact absurd h (by decide)
  have one : n ≠ 1 := by rintro rfl; exact absurd h (by decide)
  rw [scopeOf, if_neg zero, if_neg one]

theorem handleClearFaults_argument {r : Req} {scope lo hi : Byte} (body : r.body = [scope, lo, hi])
    (bad : 1 < scope.toNat ∨ scope = 1 ∧ word16 lo hi = 0) (s : State) :
    handleClearFaults r s = s.answer .clearFaults r .argument [] := by
  rcases bad with above | ⟨rfl, empty⟩
  · simp only [handleClearFaults, body, scopeOf_above above]
  · simp only [handleClearFaults, body, scopeOf, empty]
    rfl

theorem handleClearFaults_case {r : Req} {lo hi : Byte} (body : r.body = [0, lo, hi]) (s : State) :
    handleClearFaults r s = ({ s with faults := { s.faults with caseSticky := 0, casePending := 0 } }.recomputeAttn).answer
      .clearFaults r .done [] := by
  simp only [handleClearFaults, body, scopeOf]
  rfl

theorem handleClearFaults_bays {r : Req} {lo hi : Byte} (body : r.body = [1, lo, hi]) (named : word16 lo hi ≠ 0) (s : State) :
    handleClearFaults r s = s.clearBays r (word16 lo hi) := by
  simp only [handleClearFaults, body, scopeOf]
  exact if_neg named

/-- The bays that CLEAR FAULTS has cleared. -/
theorem State.allTurns_clearBay (s : State) (set : BaySet) :
    s.allTurns set State.clearBay = { s with bays := (s.allTurns set State.clearBay).bays } ∧
      ∀ b, (s.allTurns set State.clearBay).bay b = if inSet set b then (s.bay b).cleared else s.bay b := by
  refine ⟨State.allTurns_induct (P := fun t => t = { s with bays := t.bays }) (fun x _ t h => ?_) rfl, fun b => ?_⟩
  · exact congrArg (fun u : State => { u with bays := (t.clearBay x).2.bays }) h
  · by_cases named : inSet set b = true
    · rw [if_pos named]
      refine State.allTurns_brings (Q := fun _ t => t.bay b = (s.bay b).cleared) named ?_ (fun x later _ _ t h => ?_)
      · have turn : (s.atTurn set State.clearBay b).bay b = s.bay b :=
          State.atTurn_induct (P := fun t => t.bay b = s.bay b)
            (fun x earlier _ t h => (t.bay_modBay_ne _ (Fin.ne_of_gt earlier)).trans h) rfl
        rw [State.clearBay_eq, State.bay_modBay_self, turn]
      · exact (t.bay_modBay_ne _ (Fin.ne_of_lt later)).trans h
    · rw [if_neg named]
      refine State.allTurns_induct (P := fun t => t.bay b = s.bay b) (fun x here t h => ?_) rfl
      have other : b ≠ x := by rintro rfl; exact named here
      exact (t.bay_modBay_ne _ other).trans h

theorem State.outcome_clearBay (s : State) (set : BaySet) : s.outcome set State.clearBay = fun _ => .done := rfl

theorem State.recomputeAttn_attn_iff (s : State) :
    s.recomputeAttn.faults.attn = true ↔ s.faults.casePending ≠ 0 ∨ ∃ b, (s.bay b).pending ≠ 0 := s.anyPending_iff

/-- Settles O46. -/
theorem clearFaultsEmptiesTheSets : Obligations.ClearFaultsEmptiesTheSets := by
  intro dt r s scope lo hi set hands body here
  obtain rfl : set = word16 lo hi := here
  refine ⟨fun bad => ?_, fun case => ?_, fun bays named => ?_⟩
  · obtain ⟨t, step, kept, -, replied⟩ := State.answers_of_hands hands dt (handleClearFaults_argument body bad _)
    exact ⟨t, step, replied, kept⟩
  · subst case
    refine ⟨_, (exec_of_hands hands dt).trans (congrArg (fun t => Host.Outcome.next (State.lineUp t))
      (handleClearFaults_case body _)), State.lineUp_replied (State.answer_replied _ _ _ _ _), ?_, ?_, ?_, ?_, ?_, ?_, ?_⟩
    · simp [State.driveKept]
    · simp
    · simp
    · rw [State.lineUp_faults, State.answer_faults]
      refine (State.recomputeAttn_attn_iff _).trans ?_
      simp [State.bay]
    · simp
    · simp
    · exact State.nothingRaised_of_notices (by simp [State.answer, State.replyWith])
  · subst bays
    obtain ⟨blocks, cleared⟩ := (s.elapse dt).frameArrived.allTurns_clearBay (word16 lo hi)
    have handled : handleClearFaults r (s.elapse dt).frameArrived =
        ((s.elapse dt).frameArrived.allTurns (word16 lo hi) State.clearBay).recomputeAttn.answer .clearFaults r
          (statusOf (word16 lo hi) (fun _ => .done))
          ((baysOf (word16 lo hi)).flatMap (fun b => [BitVec.ofNat 8 b.val, Status.code .done])) := by
      rw [handleClearFaults_bays body named, State.clearBays, State.handleBays_eq]
      dsimp only
      rw [combineOutcomes_map, outcomeBody_map, State.outcome_clearBay]
    generalize (s.elapse dt).frameArrived.allTurns (word16 lo hi) State.clearBay = u at *
    have faults : u.faults = s.faults := by rw [blocks]; simp
    have arbiter : u.arbiter = s.arbiter := by rw [blocks]; simp
    have scheduler : u.scheduler = s.scheduler := by rw [blocks]; simp
    have motion : u.motion = s.motion := by rw [blocks]; simp
    have supply : u.supply = s.supply := by rw [blocks]; simp
    have store : u.store = s.store := by rw [blocks]; simp
    have transit : u.transit = s.transitAfterFrame (s.now + dt) := by rw [blocks]; simp
    have notices : u.link.notices = s.link.notices := by rw [blocks]; simp
    refine ⟨_, (exec_of_hands hands dt).trans (congrArg (fun t => Host.Outcome.next (State.lineUp t)) handled),
      State.listed_lineUp _ _ _ _, fun b => ?_, by simp [State.caseSetsKept, faults], ?_, by simp [arbiter],
      by simp [scheduler], by simp [motion], by simp [supply], by simp [store], by simp [transit],
      State.nothingRaised_of_notices notices⟩
    · simpa [BayRec.cleared, inSet] using cleared b
    · rw [State.lineUp_faults, State.answer_faults]
      refine (State.recomputeAttn_attn_iff _).trans ?_
      simp [faults]

end Sys2Proof.Machine
end

section
/-! PROOFS. Events of one bay: what stands beside its record, and the events that raise no evaluation and no start pass
(1.3, 2.6, 3.2). -/

namespace Sys2Proof.Machine

/-! ### Changes of one bay alone -/

/-- The other bays and the blocks of the case stand; time, the link, the arbiter, the scheduler and the Fault
Unit may change. -/
structure State.Alone (b : BayNo) (s t : State) : Prop where
  others : s.othersKept t b
  case : s.caseKept t

section

variable {b : BayNo} {s t u : State}

theorem State.Alone.trans (h : s.Alone b t) (g : t.Alone b u) : s.Alone b u where
  others x hx := (g.others x hx).trans (h.others x hx)
  case := by
    obtain ⟨motion, supply, transit, store⟩ := h.case
    obtain ⟨motion', supply', transit', store'⟩ := g.case
    exact ⟨motion'.trans motion, supply'.trans supply, transit'.trans transit, store'.trans store⟩

theorem State.Alone.refl (b : BayNo) (s : State) : s.Alone b s := ⟨fun _ _ => rfl, rfl, rfl, rfl, rfl⟩

theorem State.Alone.motion (h : s.Alone b t) : t.motion = s.motion := h.case.1
theorem State.Alone.supply (h : s.Alone b t) : t.supply = s.supply := h.case.2.1
theorem State.Alone.transit (h : s.Alone b t) : t.transit = s.transit := h.case.2.2.1
theorem State.Alone.store (h : s.Alone b t) : t.store = s.store := h.case.2.2.2

theorem State.Alone.settings (h : s.Alone b t) : t.settings = s.settings := congrArg (·.working.case) h.store

theorem State.alone_elapse (b : BayNo) (s : State) (dt : Nat) : s.Alone b (s.elapse dt) :=
  ⟨fun _ _ => rfl, rfl, rfl, rfl, rfl⟩

theorem State.alone_advanceTo (b : BayNo) (s : State) (due : Nat) : s.Alone b (s.advanceTo due) :=
  ⟨fun _ _ => rfl, rfl, rfl, rfl, rfl⟩

theorem State.alone_toMark (b : BayNo) (s : State) (p e : Nat) : s.Alone b (s.toMark p e) :=
  ⟨fun _ _ => rfl, rfl, rfl, rfl, rfl⟩

theorem State.alone_modBay (b : BayNo) (s : State) (f : BayRec → BayRec) : s.Alone b (s.modBay b f) :=
  ⟨fun _ hx => State.bay_modBay_ne _ _ hx, rfl, rfl, rfl, rfl⟩

theorem State.alone_modArbiter (b : BayNo) (s : State) (f : Arbiter → Arbiter) : s.Alone b (s.modArbiter f) :=
  ⟨fun _ _ => rfl, rfl, rfl, rfl, rfl⟩

theorem State.alone_modScheduler (b : BayNo) (s : State) (f : Scheduler → Scheduler) : s.Alone b (s.modScheduler f) :=
  ⟨fun _ _ => rfl, rfl, rfl, rfl, rfl⟩

theorem State.alone_releaseGrant (b x : BayNo) (s : State) : s.Alone b (s.releaseGrant x) :=
  ⟨fun _ _ => rfl, rfl, rfl, rfl, rfl⟩

theorem State.alone_addBayEvent (b x : BayNo) (s : State) (e : BayEvent) : s.Alone b (s.addBayEvent x e) :=
  ⟨fun _ _ => rfl, rfl, rfl, rfl, rfl⟩

theorem State.alone_enter (b : BayNo) (s : State) (st : BayState) : s.Alone b (s.enter b st) :=
  ⟨fun _ hx => State.enter_bay_ne _ _ hx, s.enter_motion b st, s.enter_supply b st, s.enter_transit b st,
    s.enter_store b st⟩

theorem State.alone_enterAfter (b : BayNo) (s : State) (e : BayEvent) (st : BayState) : s.Alone b (s.enterAfter e b st) :=
  ⟨fun _ hx => State.enterAfter_bay_ne _ _ _ hx, s.enterAfter_motion e b st, s.enterAfter_supply e b st,
    s.enterAfter_transit e b st, s.enterAfter_store e b st⟩

theorem State.alone_reportBay (b : BayNo) (s : State) (c : BayFault) : s.Alone b (s.reportBay c b) :=
  ⟨fun _ hx => State.reportBay_bay_ne _ _ hx, s.reportBay_motion c b, s.reportBay_supply c b, s.reportBay_transit c b,
    s.reportBay_store c b⟩

theorem State.alone_holdWith (b : BayNo) (s : State) (on : Bool) : s.Alone b (s.holdWith b on) :=
  (s.alone_modBay b _).trans (State.alone_enter b _ _)

theorem State.alone_spinDownWith (b : BayNo) (s : State) (i : Intent) : s.Alone b (s.spinDownWith b i) :=
  (s.alone_modBay b _).trans (State.alone_enter b _ _)

theorem State.alone_lineUp (b : BayNo) (s : State) : s.Alone b s.lineUp :=
  ⟨fun _ _ => by simp, s.lineUp_motion, s.lineUp_supply, s.lineUp_transit, s.lineUp_store⟩

theorem State.Alone.lineUp (h : s.Alone b t) : s.Alone b t.lineUp := h.trans (State.alone_lineUp b t)

/-- A bay is governed by its latched profile or the store, and by nothing else (R5). -/
theorem State.governing_of_latched_eq (store : t.store = s.store) (latched : (t.bay b).latched = (s.bay b).latched) :
    t.governing b = s.governing b := by
  rw [State.governing, State.governing, latched, State.effective_of_store store]

@[simp] theorem State.elapse_governing (s : State) (dt : Nat) (b : BayNo) : (s.elapse dt).governing b = s.governing b := rfl
@[simp] theorem State.advanceTo_governing (s : State) (due : Nat) (b : BayNo) :
    (s.advanceTo due).governing b = s.governing b := rfl
@[simp] theorem State.toMark_governing (s : State) (p e : Nat) (b : BayNo) : (s.toMark p e).governing b = s.governing b := rfl

/-! ### Times -/

/-- The 1 ms mark at or after a time (log 3). -/
theorem markAt_reading (now : Nat) : markAt readingPeriod now = (now + 999) / 1000 * 1000 := by
  simp [markAt, readingPeriod, ms]

/-- The state at a later time, in which an event is taken: nothing but the time has changed. -/
structure State.At (s u : State) (time : Nat) : Prop where
  now : u.now = time
  bays : u.bays = s.bays
  arbiter : u.arbiter = s.arbiter
  scheduler : u.scheduler = s.scheduler
  motion : u.motion = s.motion
  supply : u.supply = s.supply
  transit : u.transit = s.transit
  faults : u.faults = s.faults
  store : u.store = s.store
  link : u.link = s.link
  freeTick : u.freeTick = s.freeTick
  pending : u.pending = s.pending

theorem State.at_elapse (s : State) (dt : Nat) : s.At (s.elapse dt) (s.now + dt) :=
  ⟨rfl, rfl, rfl, rfl, rfl, rfl, rfl, rfl, rfl, rfl, rfl, rfl⟩

theorem State.at_due (s : State) (dt due : Nat) : s.At ((s.elapse dt).advanceTo due) (max (s.now + dt) due) :=
  ⟨rfl, rfl, rfl, rfl, rfl, rfl, rfl, rfl, rfl, rfl, rfl, rfl⟩

section

variable {time : Nat}

theorem State.At.bay (h : s.At u time) (x : BayNo) : u.bay x = s.bay x := State.bay_of_bays h.bays x

theorem State.At.governing (h : s.At u time) (x : BayNo) : u.governing x = s.governing x :=
  State.governing_congr h.store (h.bay x)

theorem State.At.settings (h : s.At u time) : u.settings = s.settings := congrArg (·.working.case) h.store

theorem State.At.alone (h : s.At u time) (b : BayNo) : s.Alone b u :=
  ⟨fun x _ => h.bay x, h.motion, h.supply, h.transit, h.store⟩

theorem State.At.queuesMatch (h : s.At u time) (q : s.queuesMatch) : u.queuesMatch :=
  (State.keeps_of_blocks h.bays h.arbiter h.scheduler h.motion h.supply h.transit h.faults h.store).queues q

theorem State.At.nothingRaised (h : s.At u time) (link : t.link.notices = u.link.notices) : s.nothingRaised t.lineUp :=
  State.nothingRaised_of_notices (link.trans (congrArg _ h.link))

end

/-- The event of a timer that runs, of a bay in its state (R3). -/
theorem State.inState_onDue {s : State} {b : BayNo} {st : BayState} {due : Nat} {timer : State → Option Nat}
    (state : (s.bay b).state = st) (running : timer s = some due) (f : State → State) :
    s.inState b st (fun s => s.onDue (timer s) f) = f (s.advanceTo due) := by
  rw [State.inState, if_pos state, running]
  rfl

/-- A command that ends a timer of a bay takes its event at the due time, or at once where that has passed (log 2). -/
theorem State.takes_due {b : BayNo} {st : BayState} {dt due : Nat} {timer : State → Option Nat} {c : Instr}
    {f : State → State} (exec_eq : ∀ s, exec c s = s.takeEvent dt (fun s => s.inState b st (fun s => s.onDue (timer s) f)))
    (state : (s.bay b).state = st) (running : timer (s.elapse dt) = some due) :
    ∃ u, s.At u (max (s.now + dt) due) ∧ exec c s = .next (f u).lineUp := by
  refine ⟨_, s.at_due dt due, (exec_eq s).trans ?_⟩
  exact congrArg (fun t => Host.Outcome.next (State.lineUp t)) (State.inState_onDue (s := s.elapse dt) state running f)

end

/-! ### Presence (R8) -/

/-- The debounce that a deasserted sample on a 1 ms mark starts. -/
theorem State.restartDebounce_eq (s : State) (b : BayNo) (mark : s.now % 1000 = 0) :
    s.restartDebounce b =
      s.modBay b (fun r => { r with timers := { r.timers with debounce := some (s.now + 500000) } }) := by
  have whole : s.now / ms * ms = s.now := Nat.div_mul_cancel (Nat.dvd_of_mod_eq_zero mark)
  rw [State.restartDebounce, whole]
  rfl

theorem exec_removal_sample {c : Instr} {dt : Nat} {b : BayNo} (h : c = .removal dt b ∨ c = .presenceDebounceRestart dt b)
    (s : State) : exec c s = .next ((s.elapse dt).presDeasserted b).lineUp := by
  rcases h with rfl | rfl <;> rfl

theorem State.toMark_reading_mark (s : State) : (s.toMark readingPeriod 0).now % 1000 = 0 := by
  rw [State.toMark, markAt_reading]; exact Nat.mul_mod_left _ _

/-- Settles O10. -/
theorem presenceDebounce : Obligations.PresenceDebounce := by
  intro dt b s vacant
  refine ⟨fun due running => ?_, fun c sample => ?_⟩
  · have step : exec (.presenceDebounceDone dt b) s =
        .next ((((s.elapse dt).toMark readingPeriod 0).advanceTo due).insert b).lineUp :=
      congrArg (fun t => Host.Outcome.next (State.lineUp t))
        (State.inState_onDue (s := (s.elapse dt).toMark readingPeriod 0) (timer := fun s => (s.bay b).timers.debounce)
          vacant running (State.insert b))
    have alone : s.Alone b ((((s.elapse dt).toMark readingPeriod 0).advanceTo due).insert b) :=
      ((((s.alone_elapse b dt).trans (State.alone_toMark b _ _ _)).trans (State.alone_advanceTo b _ _)).trans
        (State.alone_modBay b _ _)).trans (State.alone_enter b _ _)
    refine ⟨_, step, ?_, ?_, ?_, alone.lineUp.others, by simp [State.insert], by simp [State.insert], ?_,
      alone.lineUp.case⟩
    · simp [State.insert, markAt_reading]
    · simp only [State.lineUp_bay, State.lineUp_now, State.insert, State.enter_bay_self, State.enter_now,
        State.bay_modBay_self]
      rfl
    · exact (State.notes_enter _ (e := .present) (by rw [State.bay_modBay_self]; simp [vacant, entryEvent])).lineUp
    · simp [State.insert]
  · have step := exec_removal_sample sample s
    rw [State.presDeasserted, if_pos (show ((((s.elapse dt).toMark readingPeriod 0)).bay b).state = .vacant from vacant),
      State.restartDebounce_eq _ _ (State.toMark_reading_mark _)] at step
    have alone : s.Alone b (((s.elapse dt).toMark readingPeriod 0).modBay b (fun r => { r with
        timers := { r.timers with debounce := some (((s.elapse dt).toMark readingPeriod 0).now + 500000) } })) :=
      ((s.alone_elapse b dt).trans (State.alone_toMark b _ _ _)).trans (State.alone_modBay b _ _)
    refine ⟨_, step, ?_, ?_, State.nothingRaised_of_notices rfl, alone.lineUp.others, by simp,
      by simp, by simp, alone.lineUp.case⟩
    · simp [markAt_reading]
    · simp

/-! ### The settle period (R59, R61) -/

/-- Settles O19. -/
theorem settlePeriodLoadsTheBay : Obligations.SettlePeriodLoadsTheBay := by
  refine ⟨fun dt b s => ?_, fun dt b s due loading running => ?_⟩
  · have cleared : ∃ f : BayRec → BayRec, (s.elapse dt).clearPrk b = (s.elapse dt).modBay b f ∧
        ((s.bay b).prk = true → (s.bay b).state = .loading → f (s.bay b) = { s.bay b with
          prk := false,
          timers := { (s.bay b).timers with settle := some (s.now + dt + (s.governing b).loadSettle * 1000) } }) ∧
        ((s.bay b).prk = false ∨ (s.bay b).state ≠ .loading → f (s.bay b) = { s.bay b with prk := false }) := by
      unfold State.clearPrk
      dsimp only
      split
      · rename_i settles
        obtain ⟨prk, loading⟩ := Bool.and_eq_true_iff.mp settles
        refine ⟨_, rfl, fun _ _ => rfl, fun not => ?_⟩
        exact not.elim (fun off => Bool.noConfusion (prk.symm.trans off)) (absurd (of_decide_eq_true loading))
      · rename_i stands
        refine ⟨_, rfl, fun prk loading => absurd ?_ stands, fun _ => rfl⟩
        simp [prk, loading]
    obtain ⟨f, change, settles, stands⟩ := cleared
    have step : exec (.prkDeasserted dt b) s = .next ((s.elapse dt).modBay b f).lineUp :=
      congrArg (fun t => Host.Outcome.next (State.lineUp t)) change
    have alone : s.Alone b ((s.elapse dt).modBay b f) := (s.alone_elapse b dt).trans (State.alone_modBay b _ f)
    refine ⟨_, step, ?_, fun prk loading => ?_, fun not => ?_, alone.lineUp.others, by simp,
      by simp, by simp, alone.lineUp.case, State.nothingRaised_of_notices rfl⟩
    · simp
    · simpa using settles prk loading
    · simpa using stands not
  · obtain ⟨u, atDue, step⟩ := State.takes_due (c := .settleComplete dt b) (dt := dt)
      (timer := fun s => (s.bay b).timers.settle) (f := fun s => s.enter b .loaded) (fun _ => rfl) loading running
    have alone : s.Alone b (u.enter b .loaded) := (atDue.alone b).trans (State.alone_enter b _ _)
    have now : (u.enter b .loaded).lineUp.now = max (s.now + dt) due := by
      rw [State.lineUp_now, State.enter_now, atDue.now]
    refine ⟨_, step, now, ?_, (State.notes_enter _ rfl).lineUp, alone.lineUp.others, ?_, ?_, ?_, alone.lineUp.case⟩
    · rw [State.lineUp_bay, State.enter_bay_self, now, atDue.now, atDue.bay, atDue.governing]
      rfl
    · rw [State.lineUp_arbiter, State.enter_arbiter, atDue.arbiter]
    · rw [State.lineUp_scheduler, State.enter_scheduler, atDue.scheduler]
    · rw [State.lineUp_faults, State.enter_faults, atDue.faults]

end Sys2Proof.Machine
end

section
/-! PROOFS. Events of one bay that end with a grant evaluation (R34, R41): failed spin-ups, spindles at rest and winding
tests. -/

namespace Sys2Proof.Machine

section

variable {b : BayNo} {s t x : State}

/-! ### Reports (R136) -/

theorem State.reportBay_withReport (s : State) (c : BayFault) (b : BayNo) :
    (s.reportBay c b).bay b = (s.bay b).withReport c (c.maskedBy s.store.working.masks) := by
  rw [State.reportBay_bay_self, BayRec.withReport, State.answersHold]
  cases c.maskedBy s.store.working.masks <;> rfl

theorem State.answersHold_eq (s : State) (c : BayFault) : s.answersHold c = !c.maskedBy s.store.working.masks := rfl

/-- A masked report writes the sticky set alone. -/
theorem State.reportBay_of_masked {c : BayFault} (masked : c.maskedBy s.store.working.masks = true) (b : BayNo) :
    s.reportBay c b = s.modBay b (fun r => { r with sticky := r.sticky ||| c.bit }) := by
  rw [State.reportBay, State.answersHold_eq, masked]
  rfl

theorem State.reportBay_caseSets (s : State) (c : BayFault) (b : BayNo) : s.caseSetsKept (s.reportBay c b) := by
  unfold State.reportBay
  dsimp only
  split
  · exact ⟨rfl, rfl⟩
  · exact ⟨rfl, rfl⟩

/-- An unmasked report asserts ATTN (R138). -/
theorem State.reportBay_attn {c : BayFault} (unmasked : c.maskedBy s.store.working.masks = false) (b : BayNo) :
    (s.reportBay c b).faults.attn = true := by
  have hold : s.answersHold c = true := by rw [State.answersHold_eq, unmasked]; rfl
  unfold State.reportBay
  rw [if_pos hold]
  refine (State.recomputeAttn_attn_iff _).mpr (.inr ⟨b, ?_⟩)
  rw [State.bay_modBay_self]
  exact or_ne_zero_of_right c.bit_ne_zero

/-! ### The end of an evaluation -/

theorem State.pass_lineUp (s : State) : s.lineUp.pass = s.pass :=
  State.pass_congr s.lineUp_arbiter s.lineUp_store (by simp) (by simp) (by simp) (fun x => by simp)

/-- What an event of one bay leaves with the evaluation that ends it. -/
structure State.Evaluated (b : BayNo) (s x t : State) : Prop where
  bay : t.bay b = x.bay b
  others : ∀ y, y ≠ b → (s.bay y).state ≠ .queued → t.bay y = s.bay y
  case : s.caseKept t
  pass : t.pass = none
  empty : x.arbiter.queue = [] → t.arbiter = x.arbiter ∧ s.othersKept t b

theorem State.Alone.evaluated (alone : s.Alone b x) (q : x.queuesMatch) (state : (x.bay b).state ≠ .queued) :
    s.Evaluated b x x.evaluate.lineUp where
  bay := by rw [State.lineUp_bay, State.evaluate_bay q state]
  others y other queued := by
    have same := alone.others y other
    rw [State.lineUp_bay, State.evaluate_bay q (same ▸ queued), same]
  case := ⟨by simp [alone.motion], by simp [alone.supply], by simp [alone.transit], by simp [alone.store]⟩
  pass := by rw [State.pass_lineUp, State.evaluate_pass]
  empty none := by
    rw [State.evaluate_of_empty none]
    exact ⟨by simp, alone.lineUp.others⟩

/-- What a bay has raised ahead of the evaluation it has raised at the end of the event. -/
theorem State.Notes.evaluated {p : Notice → Prop} {src : Source} (h : x.Notes src p)
    (stable : Notice.Stable False p) : x.evaluate.lineUp.noticed src p :=
  ((x.event_evaluate (D := fun _ => False)).notes stable h).lineUp

/-! ### Grants given back (R41) -/

theorem State.releaseGrant_of_spinningUp (h : (s.bay b).state = .spinningUp) : (s.releaseGrant b).arbiter =
    { s.arbiter with held := s.arbiter.held - (s.governing b).surgeCost, grants := s.arbiter.grants - 1 } := by
  simp [State.releaseGrant, State.modArbiter, State.grantCost, h]

theorem State.releaseGrant_of_diag (h : (s.bay b).state = .diag) : (s.releaseGrant b).arbiter =
    { s.arbiter with
      held := s.arbiter.held - 1, grants := s.arbiter.grants - 1,
      converter := { holder := none, offsetDue := none, offset := none } } := by
  simp [State.releaseGrant, State.modArbiter, State.grantCost, h, Converter.free]

/-! ### Records -/

/-- The record of a spindle that stops (R3, R49). -/
theorem BayRec.spunDown_eq (r : BayRec) (i : Intent) (p : Profile) (now : Nat) : r.spunDown i p now =
    { r with
      state := .spinningDown, entryTime := caseClock now, intent := i, armed := false, spen := none, hld := false,
      timers := { Timers.stopped with
        stopGap := some (now + 1000000), stopTimeout := some (now + p.stopTimeout * 1000000) } } := by
  simp [BayRec.spunDown, BayRec.enter, BayState.dropsLatched, BayState.clearsIntent, BayState.clearsLoadOnArrival,
    BayState.armedOnEntry, BayState.spenOnEntry, BayState.hldOnEntry, Timers.onEntry, stopGapLength, ms, Nat.mul_assoc]

/-- The record of a bay that is held with its spindle off (R17). -/
def BayRec.heldOff (p : Profile) (now : Nat) (r : BayRec) : BayRec := BayRec.enter .held p now { r with spindleOn := false }

theorem BayRec.heldOff_eq (r : BayRec) (p : Profile) (now : Nat) : r.heldOff p now =
    { r with
      state := .held, entryTime := caseClock now, intent := .none, loadOnArrival := false, spindleOn := false,
      armed := false, spen := none, hld := false, timers := Timers.stopped } := rfl

theorem State.holdWith_bay_self (s : State) (b : BayNo) :
    (s.holdWith b false).bay b = (s.bay b).heldOff (s.governing b) s.now := by
  rw [State.holdWith, State.enter_bay_self, State.bay_modBay_self, State.governing_modBay s b rfl]
  rfl

/-! ### Failed spin-ups (R42 to R45) -/

/-- The failure counted and reported, the grant given back. -/
def State.failed (c : BayFault) (b : BayNo) (s : State) : State :=
  ((s.releaseGrant b).modBay b (fun r => { r with attempts := min 7 (r.attempts + 1) })).reportBay c b

/-- The bay has left SPINNING_UP after a failure, ahead of the evaluation. -/
def State.afterFailure (c : BayFault) (b : BayNo) (s : State) : State :=
  if (s.governing b).retryLimit ≤ min 7 ((s.bay b).attempts + 1) then (s.failed c b).enter b .fenced
  else if c.maskedBy s.store.working.masks then (s.failed c b).spinDownWith b .respin
  else (s.failed c b).holdWith b false

theorem State.failed_bay (s : State) (c : BayFault) (b : BayNo) : (s.failed c b).bay b =
    { (s.bay b).withReport c (c.maskedBy s.store.working.masks) with attempts := min 7 ((s.bay b).attempts + 1) } := by
  rw [State.failed, State.reportBay_withReport, State.bay_modBay_self]
  rfl

theorem State.spinUpFailure_eq (s : State) (c : BayFault) (b : BayNo) :
    s.spinUpFailure c b = (s.afterFailure c b).evaluate := by
  have attempts : ((s.failed c b).bay b).attempts = min 7 ((s.bay b).attempts + 1) := by rw [State.failed_bay]
  unfold State.spinUpFailure State.afterFailure
  dsimp only
  rw [← attempts, State.answersHold_eq]
  cases c.maskedBy s.store.working.masks <;> rfl

theorem State.alone_failed (s : State) (c : BayFault) (b : BayNo) : s.Alone b (s.failed c b) :=
  ((s.alone_releaseGrant b b).trans (State.alone_modBay b _ _)).trans (State.alone_reportBay b _ c)

theorem State.alone_afterFailure (s : State) (c : BayFault) (b : BayNo) : s.Alone b (s.afterFailure c b) := by
  have failed := s.alone_failed c b
  unfold State.afterFailure
  split
  · exact failed.trans (State.alone_enter b _ _)
  · split
    · exact failed.trans (State.alone_spinDownWith b _ _)
    · exact failed.trans (State.alone_holdWith b _ _)

theorem State.failed_governing (s : State) (c : BayFault) (b : BayNo) : (s.failed c b).governing b = s.governing b :=
  State.governing_of_latched_eq (s.alone_failed c b).store (by rw [State.failed_bay]; rfl)

theorem State.failed_now (s : State) (c : BayFault) (b : BayNo) : (s.failed c b).now = s.now := by simp [State.failed]

theorem State.afterFailure_bay (s : State) (c : BayFault) (b : BayNo) : (s.afterFailure c b).bay b =
    if (s.governing b).retryLimit ≤ min 7 ((s.bay b).attempts + 1) then
      ((s.failed c b).bay b).enter .fenced (s.governing b) s.now
    else if c.maskedBy s.store.working.masks then ((s.failed c b).bay b).spunDown .respin (s.governing b) s.now
    else ((s.failed c b).bay b).heldOff (s.governing b) s.now := by
  unfold State.afterFailure
  split
  · rw [State.enter_bay_self, State.failed_governing, State.failed_now]
  · split
    · rw [State.spinDownWith_bay_self, State.failed_governing, State.failed_now]
    · rw [State.holdWith_bay_self, State.failed_governing, State.failed_now]

theorem State.afterFailure_not_queued (s : State) (c : BayFault) (b : BayNo) :
    ((s.afterFailure c b).bay b).state ≠ .queued := by
  rw [State.afterFailure_bay]
  split
  · simp
  · split
    · simp [BayRec.spunDown]
    · simp [BayRec.heldOff]

theorem State.afterFailure_queuesMatch (q : s.queuesMatch) (h : (s.bay b).state = .spinningUp) (c : BayFault) :
    (s.afterFailure c b).queuesMatch := by
  have leaves : s.Leaves b (s.failed c b) := ((State.Leaves.of_releaseGrant (.inl h)).modBay _ rfl rfl id).reportBay c
  unfold State.afterFailure
  split
  · exact (leaves.keeps_enter rfl (by decide) (by decide) (by decide)).queues q
  · split
    · exact (leaves.keeps_spinDownWith _).queues q
    · rename_i unmasked
      refine (leaves.keeps_holdWith _ (State.reportBay_pending_ne_zero _ _ ?_)).queues q
      simpa [State.answersHold_eq] using unmasked

theorem State.afterFailure_arbiter (h : (s.bay b).state = .spinningUp) (c : BayFault) : (s.afterFailure c b).arbiter =
    { s.arbiter with held := s.arbiter.held - (s.governing b).surgeCost, grants := s.arbiter.grants - 1 } := by
  have failed : (s.failed c b).arbiter = (s.releaseGrant b).arbiter := by
    rw [State.failed, State.reportBay_arbiter, State.modBay_arbiter]
  rw [← State.releaseGrant_of_spinningUp h, ← failed]
  unfold State.afterFailure
  split
  · simp
  · split <;> simp [State.spinDownWith, State.holdWith, State.setIntent]

theorem State.afterFailure_now (s : State) (c : BayFault) (b : BayNo) : (s.afterFailure c b).now = s.now := by
  rw [← s.failed_now c b]
  unfold State.afterFailure
  split
  · simp
  · split <;> simp [State.spinDownWith, State.holdWith, State.setIntent]

theorem State.afterFailure_faults (s : State) (c : BayFault) (b : BayNo) :
    (s.afterFailure c b).faults = (s.failed c b).faults := by
  unfold State.afterFailure
  split
  · simp
  · split <;> simp [State.spinDownWith, State.holdWith, State.setIntent]

theorem State.afterFailure_scheduler (s : State) (c : BayFault) (b : BayNo) :
    (s.afterFailure c b).scheduler = s.scheduler := by
  have failed : (s.failed c b).scheduler = s.scheduler := by
    rw [State.failed, State.reportBay_scheduler, State.modBay_scheduler]
    rfl
  rw [← failed]
  unfold State.afterFailure
  split
  · simp
  · split <;> simp [State.spinDownWith, State.holdWith, State.setIntent]

end

/-- The command that ends a spin-up in failure, and the class it reports (R42, R43). -/
theorem exec_spinUpFailure {dt due : Nat} {b : BayNo} {s : State} {c : Instr} {k : BayFault}
    (state : (s.bay b).state = .spinningUp)
    (ends : c = .tachFirstExpiry dt b ∧ k = .spinStall ∧ (s.bay b).timers.tachFirst = some due ∨
      c = .holdTimerExpiry dt b ∧ k = .spinSlow ∧ (s.bay b).timers.hold = some due) :
    ∃ u, s.At u (max (s.now + dt) due) ∧ exec c s = .next (u.spinUpFailure k b).lineUp := by
  rcases ends with ⟨rfl, rfl, running⟩ | ⟨rfl, rfl, running⟩
  · exact State.takes_due (timer := fun s => (s.bay b).timers.tachFirst) (fun _ => rfl) state running
  · exact State.takes_due (timer := fun s => (s.bay b).timers.hold) (fun _ => rfl) state running

/-- Settles O17. -/
theorem spinUpFailures : Obligations.SpinUpFailures := by
  intro dt b s due c k q state ends
  obtain ⟨u, atDue, step⟩ := exec_spinUpFailure state ends
  rw [State.spinUpFailure_eq] at step
  have stateU : (u.bay b).state = .spinningUp := by rw [atDue.bay]; exact state
  have result := ((atDue.alone b).trans (u.alone_afterFailure k b)).evaluated
    (State.afterFailure_queuesMatch (atDue.queuesMatch q) stateU k) (u.afterFailure_not_queued k b)
  have record := u.afterFailure_bay k b
  have arbiter := State.afterFailure_arbiter stateU k
  rw [State.failed_bay] at record
  rw [atDue.bay, atDue.governing, atDue.store, atDue.now] at record
  rw [atDue.arbiter, atDue.governing] at arbiter
  have faults : (u.afterFailure k b).evaluate.lineUp.faults = (u.failed k b).faults := by
    rw [State.lineUp_faults, State.evaluate_faults, State.afterFailure_faults]
  have now : (u.afterFailure k b).evaluate.lineUp.now = max (s.now + dt) due := by
    rw [State.lineUp_now, State.evaluate_now, State.afterFailure_now, atDue.now]
  refine ⟨_, step, now, ⟨fun reached => ⟨?_, ?_⟩, fun under masked => ?_, fun under unmasked => ⟨?_, ?_⟩, fun masked => ?_,
    fun unmasked => ?_⟩, fun none => ?_, result.pass, result.others, ?_, result.case, ?_⟩
  · rw [result.bay, record, if_pos reached, now]
    rfl
  · refine State.Notes.evaluated ?_ (Notice.stable_events _)
    rw [State.afterFailure, atDue.governing, atDue.bay, if_pos reached]
    exact State.notes_enter _ rfl
  · rw [result.bay, record, if_neg (Nat.not_le.mpr under), if_pos masked, BayRec.spunDown_eq, now]
  · rw [result.bay, record, if_neg (Nat.not_le.mpr under), if_neg (by simp [unmasked]), BayRec.heldOff_eq, now]
  · refine State.Notes.evaluated ?_ (Notice.stable_events _)
    rw [State.afterFailure, atDue.governing, atDue.bay, if_neg (Nat.not_le.mpr under), atDue.store,
      if_neg (by simp [unmasked])]
    exact State.notes_enter _ rfl
  · rw [faults, State.failed, State.reportBay_of_masked (by rw [← masked]; exact congrArg (k.maskedBy ·.working.masks) atDue.store)]
    exact atDue.faults
  · rw [faults, State.failed]
    exact State.reportBay_attn (by rw [← unmasked]; exact congrArg (k.maskedBy ·.working.masks) atDue.store) b
  · obtain ⟨same, others⟩ := result.empty (by rw [arbiter]; exact none)
    exact ⟨same.trans arbiter, others⟩
  · rw [State.caseSetsKept, faults, ← atDue.faults]
    exact State.reportBay_caseSets _ k b
  · rw [State.lineUp_scheduler, State.evaluate_scheduler, State.afterFailure_scheduler, atDue.scheduler]

/-! ### The link beside an evaluation -/

theorem State.carryOut_relink (s : State) (l : Link) (p : PassResult) :
    ({ s with link := l } : State).carryOut p = { s.carryOut p with link := l } := by
  unfold State.carryOut State.grant
  cases p.skipped <;> cases p.granted.kind <;> rfl

theorem State.passes_relink (n : Nat) (s : State) (l : Link) :
    State.passes n ({ s with link := l } : State) = { State.passes n s with link := l } := by
  induction n generalizing s with
  | zero => rfl
  | succ n ih =>
    have same : ({ s with link := l } : State).pass = s.pass := rfl
    unfold State.passes
    rw [same]
    cases pass : s.pass with
    | none => rfl
    | some p =>
      dsimp only
      rw [State.carryOut_relink, ih]

/-- An evaluation neither reads nor changes the link (R2, R34). -/
theorem State.evaluate_relink (s : State) (l : Link) :
    ({ s with link := l } : State).evaluate = { s.evaluate with link := l } := State.passes_relink _ s l

/-- A state that differs in the link alone. -/
theorem State.eq_relink {s t : State} (now : t.now = s.now) (bays : t.bays = s.bays) (arbiter : t.arbiter = s.arbiter)
    (scheduler : t.scheduler = s.scheduler) (motion : t.motion = s.motion) (supply : t.supply = s.supply)
    (transit : t.transit = s.transit) (faults : t.faults = s.faults) (store : t.store = s.store)
    (freeTick : t.freeTick = s.freeTick) (pending : t.pending = s.pending) : t = { s with link := t.link } := by
  cases s
  cases t
  subst now bays arbiter scheduler motion supply transit faults store freeTick pending
  rfl

theorem State.evaluate_of_relink {s t : State} (h : t = { s with link := t.link }) :
    t.evaluate.arbiter = s.evaluate.arbiter ∧ t.evaluate.bays = s.evaluate.bays := by
  rw [h, State.evaluate_relink]
  exact ⟨rfl, rfl⟩

theorem State.bays_eq_set {s t : State} {b : BayNo} {r : BayRec} (others : s.othersKept t b) (here : t.bay b = r) :
    t.bays = s.bays.set b.val r b.isLt := by
  have bay (x : BayNo) : t.bay x = (s.modBay b (fun _ => r)).bay x := by
    by_cases same : x = b
    · subst same; rw [here, State.bay_modBay_self]
    · rw [others x same, State.bay_modBay_ne _ _ same]
  exact Vector.ext fun i below => bay ⟨i, below⟩

/-! ### Spindles at rest (R49, R50) -/

/-- The bay STOPPED with speed 0 (R50). -/
def State.atRest (b : BayNo) (s : State) : State := (s.modBay b (fun r => { r with speed := some 0 })).enter b .stopped

/-- The bay at rest, back in the queue (R50). -/
def State.rejoined (b : BayNo) (s : State) : State := (s.atRest b).joinQueue b .spin

section

variable {b : BayNo} {s : State}

theorem State.reachStopped_eq (s : State) (b : BayNo) : s.reachStopped b =
    if (s.bay b).intent = .respin ∧ s.transit.mode = .normal then (s.rejoined b).evaluate else s.atRest b := by
  unfold State.reachStopped
  simp only [Bool.and_eq_true, decide_eq_true_eq]
  rfl

theorem State.alone_atRest (b : BayNo) (s : State) : s.Alone b (s.atRest b) :=
  (s.alone_modBay b _).trans (State.alone_enter b _ _)

theorem State.atRest_bay (s : State) (b : BayNo) : (s.atRest b).bay b =
    { s.bay b with
      state := .stopped, entryTime := caseClock s.now, speed := some 0, latched := none, intent := .none, armed := false,
      spen := none, hld := false, timers := Timers.stopped } := by
  rw [State.atRest, State.enter_bay_self, State.bay_modBay_self]
  rfl

theorem State.alone_rejoined (b : BayNo) (s : State) : s.Alone b (s.rejoined b) :=
  ((s.alone_atRest b).trans (State.alone_modArbiter b _ _)).trans (State.alone_enter b _ .queued)

theorem State.rejoined_bay (s : State) (b : BayNo) : (s.rejoined b).bay b =
    { s.bay b with
      state := .queued, entryTime := caseClock s.now, speed := some 0, latched := none, intent := .none, armed := false,
      spen := none, hld := false, timers := Timers.stopped } := by
  rw [State.rejoined, State.joinQueue, State.enter_bay_self, State.modArbiter_bay, State.atRest_bay]
  simp only [State.modArbiter_now]
  rw [State.atRest, State.enter_now]
  rfl

theorem State.rejoined_arbiter (s : State) (b : BayNo) : (s.rejoined b).arbiter =
    { s.arbiter with queue := s.arbiter.queue ++ [{ bay := b, kind := .spin, skip := 0 }] } := by
  simp [State.rejoined, State.joinQueue, State.atRest]

theorem State.rejoined_queuesMatch (q : s.queuesMatch) (state : (s.bay b).state = .spinningDown)
    (normal : s.transit.mode = .normal) : (s.rejoined b).queuesMatch := by
  have stopped : s.Keeps (s.atRest b) :=
    ((State.Leaves.refl (by rw [state]; rfl)).modBay _ rfl rfl id).keeps_enter rfl (by decide) (by decide) (by decide)
  refine (stopped.trans (State.keeps_joinQueue ?_ ?_ _)).queues q
  · rw [State.atRest_bay]; rfl
  · rw [(s.alone_atRest b).transit]; exact normal

theorem State.rejoined_entryKind (q : (s.rejoined b).queuesMatch) : (s.rejoined b).entryKind b = some .spin := by
  rw [State.entryKind_eq_some q.nodup, Arbiter.entries, State.rejoined_arbiter]
  simp

theorem State.notes_atRest (state : (s.bay b).state = .spinningDown) :
    (s.atRest b).Notes (.bay b) (fun n => n.events &&& BayEvent.stopped.bit = BayEvent.stopped.bit) :=
  State.notes_enter _ (by rw [State.bay_modBay_self]; simp [state, entryEvent])

theorem State.notes_rejoined (state : (s.bay b).state = .spinningDown) :
    (s.rejoined b).Notes (.bay b) (fun n => n.events &&& BayEvent.stopped.bit = BayEvent.stopped.bit) :=
  (State.event_joinQueue (D := fun _ => False) (s.atRest b) b .spin).notes (Notice.stable_events _) (State.notes_atRest state)

end

/-- The command that brings a spindle to rest (R49). -/
theorem exec_reachStopped {dt due : Nat} {b : BayNo} {s : State} {c : Instr} (state : (s.bay b).state = .spinningDown)
    (ends : c = .stopGapExpiry dt b ∧ (s.bay b).timers.stopGap = some due ∨
      c = .stopTimeoutExpiry dt b ∧ (s.bay b).timers.stopTimeout = some due) :
    ∃ u, s.At u (max (s.now + dt) due) ∧ exec c s = .next (u.reachStopped b).lineUp := by
  rcases ends with ⟨rfl, running⟩ | ⟨rfl, running⟩
  · exact State.takes_due (timer := fun s => (s.bay b).timers.stopGap) (fun _ => rfl) state running
  · exact State.takes_due (timer := fun s => (s.bay b).timers.stopTimeout) (fun _ => rfl) state running

/-- A TACH pulse in SPINNING_DOWN restarts the stop gap, whether or not it measures (R49). -/
theorem State.pulse_of_spinningDown {b : BayNo} {s : State} (state : (s.bay b).state = .spinningDown) :
    s.pulse b = (s.stampPulse b (s.measure b)).modBay b (fun r => { r with
      timers := { r.timers with stopGap := some (s.now + 1000000) } }) := by
  simp only [State.pulse, state]
  rfl

/-- Settles O18. -/
theorem spindleComesToRest : Obligations.SpindleComesToRest := by
  refine ⟨fun dt b s state => ?_, fun dt b s due c q state ends => ?_⟩
  · have step : exec (.tachPulse dt b) s = .next ((s.elapse dt).pulse b).lineUp := rfl
    rw [State.pulse_of_spinningDown (s := s.elapse dt) state] at step
    have alone := ((s.alone_elapse b dt).trans (State.alone_modBay b _ _)).trans (State.alone_modBay b
      ((s.elapse dt).stampPulse b ((s.elapse dt).measure b)) (fun r => { r with
        timers := { r.timers with stopGap := some (s.now + dt + 1000000) } }))
    refine ⟨_, step, ?_, ?_, alone.lineUp.others, ?_, ?_, ?_, alone.lineUp.case, State.nothingRaised_of_notices rfl⟩
    · simp [State.stampPulse]
    · simp [State.stampPulse]
    · simp [State.stampPulse]
    · simp [State.stampPulse]
    · simp [State.stampPulse]
  · obtain ⟨u, atDue, step⟩ := exec_reachStopped state ends
    rw [State.reachStopped_eq, atDue.bay, atDue.transit] at step
    have stateU : (u.bay b).state = .spinningDown := by rw [atDue.bay]; exact state
    by_cases respins : (s.bay b).intent = .respin ∧ s.transit.mode = .normal
    · rw [if_pos respins] at step
      have matched := State.rejoined_queuesMatch (atDue.queuesMatch q) stateU (by rw [atDue.transit]; exact respins.2)
      have kind := State.rejoined_entryKind matched
      have record := u.rejoined_bay b
      have arbiter := u.rejoined_arbiter b
      rw [atDue.bay, atDue.now] at record
      rw [atDue.arbiter] at arbiter
      have now : (u.rejoined b).evaluate.lineUp.now = max (s.now + dt) due := by
        simp [State.rejoined, State.joinQueue, State.atRest, atDue.now]
      have alone := (atDue.alone b).trans (u.alone_rejoined b)
      have scheduler : (u.rejoined b).scheduler = s.scheduler := by
        simp [State.rejoined, State.joinQueue, State.atRest, atDue.scheduler]
      have faults : (u.rejoined b).faults = s.faults := by
        simp [State.rejoined, State.joinQueue, State.atRest, atDue.faults]
      have joined :=
        State.eq_relink (t := u.rejoined b) (s := { s with
            now := max (s.now + dt) due, bays := s.bays.set b.val ((u.rejoined b).bay b) b.isLt,
            arbiter := { s.arbiter with queue := s.arbiter.queue ++ [{ bay := b, kind := .spin, skip := 0 }] } })
          (by simp [State.rejoined, State.joinQueue, State.atRest, atDue.now])
          (State.bays_eq_set alone.others rfl) arbiter scheduler alone.motion alone.supply alone.transit faults alone.store
          (by simp [State.rejoined, State.joinQueue, State.atRest, atDue.freeTick])
          (by simp [State.rejoined, State.joinQueue, State.atRest, atDue.pending])
      have queued := State.evaluate_queued matched kind
      have left : ((u.rejoined b).evaluate.bay b).speed = some 0 ∧ ((u.rejoined b).evaluate.bay b).intent = .none ∧
          ((u.rejoined b).evaluate.bay b).loadOnArrival = (s.bay b).loadOnArrival ∧
          ((u.rejoined b).evaluate.bay b).attempts = (s.bay b).attempts := by
        rcases queued with ⟨same, -⟩ | granted
        · rw [same, record]; exact ⟨rfl, rfl, rfl, rfl⟩
        · rw [granted, record]; exact ⟨rfl, rfl, rfl, rfl⟩
      obtain ⟨speed, intent, loadOnArrival, attempts⟩ := left
      refine ⟨_, step, now, (State.notes_rejoined stateU).evaluated (Notice.stable_events _), ?_, ?_, ?_,
        fun not => absurd respins not, fun _ _ => ⟨?_, ?_, ?_, ?_, ?_, fun x other notQueued => ?_, ?_, ?_, ?_⟩⟩
      · rw [State.lineUp_faults, State.evaluate_faults, faults]
      · exact ⟨by simp [alone.motion], by simp [alone.supply], by simp [alone.transit], by simp [alone.store]⟩
      · rw [State.lineUp_scheduler, State.evaluate_scheduler, scheduler]
      · rw [State.lineUp_bay, speed]
      · rw [State.lineUp_bay, intent]
      · rw [State.lineUp_bay, loadOnArrival]
      · rw [State.lineUp_bay, attempts]
      · rw [State.lineUp_bay]
        rcases queued with ⟨same, entry⟩ | granted
        · refine .inl ⟨by rw [same, record], ?_⟩
          rw [← entry]
          simp only [State.entryKind, State.entryOf, State.lineUp_arbiter]
        · exact .inr (by rw [granted]; rfl)
      · have same := alone.others x other
        rw [State.lineUp_bay, State.evaluate_bay matched (same ▸ notQueued), same]
      · rw [State.pass_lineUp, State.evaluate_pass]
      · rw [State.lineUp_arbiter, now, (State.evaluate_of_relink joined).1, record]
      · rw [State.lineUp_bays, now, (State.evaluate_of_relink joined).2, record]
    · rw [if_neg respins] at step
      have alone := ((atDue.alone b).trans (u.alone_atRest b)).lineUp
      have record := u.atRest_bay b
      rw [atDue.bay, atDue.now] at record
      have now : (u.atRest b).lineUp.now = max (s.now + dt) due := by simp [State.atRest, atDue.now]
      refine ⟨_, step, now, (State.notes_atRest stateU).lineUp, ?_, alone.case, ?_, fun _ => ⟨?_, alone.others, ?_⟩,
        fun intent mode => absurd ⟨intent, mode⟩ respins⟩
      · simp [State.atRest, atDue.faults]
      · simp [State.atRest, atDue.scheduler]
      · rw [State.lineUp_bay, record, now]
      · simp [State.atRest, atDue.arbiter]

end Sys2Proof.Machine
end

section
/-! PROOFS. Winding tests: their aborts, the offset reading and the end of the test pulse (chapter 8). -/

namespace Sys2Proof.Machine

section

variable {b : BayNo} {s : State}

/-! ### The converter after an evaluation -/

/-- An evaluation hands the converter to no bay but one with an entry in the queue (R154). -/
theorem State.evaluate_converter (s : State) : s.evaluate.arbiter.converter = s.arbiter.converter ∨
    ∃ x, s.evaluate.arbiter.converter.holder = some x ∧ x ∈ s.arbiter.bays := by
  have holds : s.evaluate.arbiter.entries ⊆ s.arbiter.entries ∧
      (s.evaluate.arbiter.converter = s.arbiter.converter ∨
        ∃ x, s.evaluate.arbiter.converter.holder = some x ∧ x ∈ s.arbiter.bays) := by
    refine State.evaluate_induct (P := fun t => t.arbiter.entries ⊆ s.arbiter.entries ∧
      (t.arbiter.converter = s.arbiter.converter ∨
        ∃ x, t.arbiter.converter.holder = some x ∧ x ∈ s.arbiter.bays)) (fun t p pass ⟨within, converter⟩ => ?_) s
      ⟨fun _ mem => mem, .inl rfl⟩
    have entries := t.raised_entries p
    have grants := (State.grants_of_pass pass).raised p
    have kept : (t.raised p).arbiter.converter = t.arbiter.converter := by rw [State.raised_eq]
    rw [State.carryOut_eq]
    refine ⟨?_, ?_⟩
    · rw [Arbiter.entries, State.grant_queue]
      exact fun e mem => within (entries ▸ (List.filter_sublist.map _).subset mem)
    · rw [State.grant_converter]
      cases p.granted.kind with
      | spin => dsimp only; rw [kept]; exact converter
      | test =>
        refine .inr ⟨_, rfl, ?_⟩
        rw [Arbiter.entries_bays]
        exact List.mem_map_of_mem (within (entries ▸ grants.entry))
  exact holds.2

/-- A bay that has given the converter back, and is not QUEUED, does not hold it after the evaluation. -/
theorem State.evaluate_holder (q : s.queuesMatch) (state : (s.bay b).state ≠ .queued)
    (free : s.arbiter.converter.holder = none) : s.evaluate.arbiter.converter.holder ≠ some b := by
  obtain ⟨-, queued, -, -⟩ := s.queuesMatch_iff.mp q
  rcases s.evaluate_converter with same | ⟨x, holder, mem⟩
  · rw [same, free]; exact Option.some_ne_none b |>.symm
  · rw [holder]
    intro here
    exact state ((queued b).mp (Option.some.inj here ▸ mem))

/-! ### Aborted tests (R156, R158) -/

theorem State.alone_abortTest (b : BayNo) (s : State) (st : BayState) : s.Alone b (s.abortTest b st) :=
  ((s.alone_releaseGrant b b).trans (State.alone_modBay b _ _)).trans (State.alone_enterAfter b _ _ st)

theorem State.abortTest_bay (s : State) (b : BayNo) (st : BayState) : (s.abortTest b st).bay b =
    BayRec.enter st (s.governing b) s.now { s.bay b with winding := .aborted, windingCurrent := none } := by
  rw [State.abortTest, State.enterAfter_bay_self, State.bay_modBay_self, State.governing_modBay _ b rfl]
  rfl

theorem State.abortTest_arbiter (state : (s.bay b).state = .diag) (st : BayState) : (s.abortTest b st).arbiter =
    { s.arbiter with
      held := s.arbiter.held - 1, grants := s.arbiter.grants - 1,
      converter := { holder := none, offsetDue := none, offset := none } } := by
  rw [State.abortTest, State.enterAfter_arbiter, State.modBay_arbiter, State.releaseGrant_of_diag state]

theorem State.notes_abortTest (state : (s.bay b).state = .diag) :
    (s.abortTest b .stopped).Notes (.bay b) (fun n => n.events &&& BayEvent.testDone.bit = BayEvent.testDone.bit ∧
      n.testDone = .aborted ∧ n.events &&& BayEvent.stopped.bit = BayEvent.stopped.bit) := by
  have notes := State.notes_enterAfter_testDone (b := b) (st := .stopped) (e := .stopped)
    ((s.releaseGrant b).modBay b (fun r => { r with winding := .aborted, windingCurrent := none }))
    (by rw [State.bay_modBay_self]; simp [entryEvent, state])
  rw [State.bay_modBay_self] at notes
  exact notes

theorem State.alone_startPulse (b : BayNo) (s : State) (reading : Nat) : s.Alone b (s.startPulse b reading) := by
  unfold State.startPulse
  exact (s.alone_modArbiter b _).trans (State.alone_modBay b _ _)

/-! ### The end of the test pulse (R155 to R157) -/

/-- The measured current and its result on the record, the grant given back. -/
def State.readPulse (b : BayNo) (current : Nat) (s : State) : State :=
  (s.releaseGrant b).modBay b (fun r => { r with winding := s.settings.classify current, windingCurrent := some current })

/-- The bay has left DIAG at the end of its test pulse, ahead of the evaluation. -/
def State.afterPulse (b : BayNo) (current : Nat) (s : State) : State :=
  if s.settings.classify current = .pass then (s.readPulse b current).enterAfter .testDone b .stopped
  else if BayFault.winding.maskedBy s.store.working.masks then
    ((s.readPulse b current).reportBay .winding b).enterAfter .testDone b .fenced
  else
    (((s.readPulse b current).reportBay .winding b).modBay b (fun r => { r with spindleOn := false })).enterAfter .testDone b
      .held

theorem State.endPulse_eq (s : State) (b : BayNo) (conversion : Nat) : s.endPulse b conversion =
    (s.afterPulse b (min 10000 (conversion - s.arbiter.converter.offset.getD 0))).evaluate := by
  unfold State.endPulse State.afterPulse
  dsimp only
  rw [State.answersHold_eq]
  cases BayFault.winding.maskedBy s.store.working.masks <;> rfl

theorem State.alone_readPulse (b : BayNo) (s : State) (current : Nat) : s.Alone b (s.readPulse b current) :=
  (s.alone_releaseGrant b b).trans (State.alone_modBay b _ _)

theorem State.alone_afterPulse (b : BayNo) (s : State) (current : Nat) : s.Alone b (s.afterPulse b current) := by
  have read := s.alone_readPulse b current
  unfold State.afterPulse
  split
  · exact read.trans (State.alone_enterAfter b _ _ _)
  · split
    · exact (read.trans (State.alone_reportBay b _ _)).trans (State.alone_enterAfter b _ _ _)
    · exact ((read.trans (State.alone_reportBay b _ _)).trans (State.alone_modBay b _ _)).trans
        (State.alone_enterAfter b _ _ _)

theorem State.readPulse_bay (s : State) (b : BayNo) (current : Nat) : (s.readPulse b current).bay b =
    { s.bay b with winding := s.settings.classify current, windingCurrent := some current } := by
  rw [State.readPulse, State.bay_modBay_self]
  rfl

/-- The record that the end of the test pulse leaves (R155, R157). -/
def BayRec.pulseEnded (res : WindingResult) (current : Nat) (masked : Bool) (p : Profile) (now : Nat) (r : BayRec) : BayRec :=
  let read : BayRec := { r with winding := res, windingCurrent := some current }
  if res = .pass then read.enter .stopped p now
  else if masked then (read.withReport .winding true).enter .fenced p now
  else (read.withReport .winding false).heldOff p now

theorem State.afterPulse_bay (s : State) (b : BayNo) (current : Nat) : (s.afterPulse b current).bay b =
    (s.bay b).pulseEnded (s.settings.classify current) current (BayFault.winding.maskedBy s.store.working.masks)
      (s.governing b) s.now := by
  have governing : (s.readPulse b current).governing b = s.governing b :=
    State.governing_of_latched_eq rfl (by rw [State.readPulse_bay])
  have reported : ((s.readPulse b current).reportBay .winding b).governing b = s.governing b := by
    rw [← governing]
    exact State.governing_of_latched_eq (State.reportBay_store _ _ _) (by rw [State.reportBay_withReport]; rfl)
  unfold State.afterPulse BayRec.pulseEnded
  split
  · rw [State.enterAfter_bay_self, governing, State.readPulse_bay]
    rfl
  · split
    · rename_i masked
      rw [State.enterAfter_bay_self, reported, State.reportBay_withReport, State.readPulse_bay, State.reportBay_now]
      rw [show (s.readPulse b current).store = s.store from rfl, masked]
      rfl
    · rename_i unmasked
      rw [State.enterAfter_bay_self, State.governing_modBay _ b rfl, reported, State.bay_modBay_self,
        State.reportBay_withReport, State.readPulse_bay, State.modBay_now, State.reportBay_now]
      rw [show (s.readPulse b current).store = s.store from rfl, eq_false_of_ne_true unmasked]
      rfl

theorem BayRec.pulseEnded_state (res : WindingResult) (current : Nat) (masked : Bool) (p : Profile) (now : Nat)
    (r : BayRec) : (r.pulseEnded res current masked p now).state =
      if res = .pass then .stopped else if masked then .fenced else .held := by
  unfold BayRec.pulseEnded
  dsimp only
  split
  · rfl
  · split <;> rfl

theorem State.afterPulse_not_queued (s : State) (b : BayNo) (current : Nat) :
    ((s.afterPulse b current).bay b).state ≠ .queued := by
  rw [State.afterPulse_bay, BayRec.pulseEnded_state]
  split
  · decide
  · split <;> decide

theorem State.afterPulse_queuesMatch (q : s.queuesMatch) (state : (s.bay b).state = .diag) (current : Nat) :
    (s.afterPulse b current).queuesMatch := by
  have leaves : s.Leaves b (s.readPulse b current) := (State.Leaves.of_releaseGrant (.inr state)).modBay _ rfl rfl id
  unfold State.afterPulse
  split
  · exact (leaves.keeps_enterAfter _ rfl (by decide) (by decide) (by decide)).queues q
  · split
    · exact ((leaves.reportBay .winding).keeps_enterAfter _ rfl (by decide) (by decide) (by decide)).queues q
    · rename_i unmasked
      refine ((((leaves.reportBay .winding).modBay _ rfl rfl id).turns_enterAfter _ rfl (fun _ => ?_)
        (not_loading_of (by decide) (by decide))).keeps).queues q
      rw [State.bay_modBay_self]
      refine State.reportBay_pending_ne_zero _ b ?_
      rw [State.answersHold_eq, show (s.readPulse b current).store = s.store from rfl]
      simpa using unmasked

theorem State.afterPulse_arbiter (state : (s.bay b).state = .diag) (current : Nat) : (s.afterPulse b current).arbiter =
    { s.arbiter with
      held := s.arbiter.held - 1, grants := s.arbiter.grants - 1,
      converter := { holder := none, offsetDue := none, offset := none } } := by
  rw [← State.releaseGrant_of_diag state]
  unfold State.afterPulse
  split
  · simp [State.readPulse]
  · split <;> simp [State.readPulse]

theorem State.afterPulse_now (s : State) (b : BayNo) (current : Nat) : (s.afterPulse b current).now = s.now := by
  unfold State.afterPulse
  split
  · simp [State.readPulse]
  · split <;> simp [State.readPulse]

theorem State.afterPulse_scheduler (s : State) (b : BayNo) (current : Nat) :
    (s.afterPulse b current).scheduler = s.scheduler := by
  unfold State.afterPulse
  split
  · simp [State.readPulse]
  · split <;> simp [State.readPulse]

theorem State.afterPulse_faults (s : State) (b : BayNo) (current : Nat) : (s.afterPulse b current).faults =
    if s.settings.classify current = .pass then s.faults else ((s.readPulse b current).reportBay .winding b).faults := by
  unfold State.afterPulse
  split
  · simp [State.readPulse]
  · split <;> simp

/-- The end of the test pulse raises TEST_DONE with the result, and what the state entered raises (R156). -/
theorem State.notes_afterPulse (s : State) (b : BayNo) (current : Nat) : (s.afterPulse b current).Notes (.bay b)
    (fun n => n.events &&& BayEvent.testDone.bit = BayEvent.testDone.bit ∧
      n.testDone = s.settings.classify current ∧
      (s.settings.classify current = .pass → (s.bay b).state = .diag →
        n.events &&& BayEvent.stopped.bit = BayEvent.stopped.bit)) := by
  have winding : (((s.readPulse b current).reportBay .winding b).bay b).winding = s.settings.classify current := by
    rw [State.reportBay_bay_self, State.readPulse_bay]
  unfold State.afterPulse
  split
  · rename_i pass
    have notes := State.notes_enterAfter_testDone (b := b) (st := .stopped) (s.readPulse b current) rfl
    rw [State.readPulse_bay] at notes
    refine notes.imp fun n ⟨done, result, event⟩ => ⟨done, result, fun _ diag => ?_⟩
    simpa [diag] using event
  · rename_i fault
    split
    · have notes := State.notes_enterAfter_testDone (b := b) (st := .fenced) ((s.readPulse b current).reportBay .winding b) rfl
      rw [winding] at notes
      exact notes.imp fun n ⟨done, result, _⟩ => ⟨done, result, fun pass => absurd pass fault⟩
    · have notes := State.notes_enterAfter_testDone (b := b) (st := .held)
        (((s.readPulse b current).reportBay .winding b).modBay b (fun r => { r with spindleOn := false })) rfl
      rw [State.bay_modBay_self, winding] at notes
      exact notes.imp fun n ⟨done, result, _⟩ => ⟨done, result, fun pass => absurd pass fault⟩

end

/-- Settles O14. -/
theorem tachPulseAbortsATest : Obligations.TachPulseAbortsATest := by
  intro dt b s q state
  have pulse : (s.elapse dt).pulse b =
      (((s.elapse dt).stampPulse b ((s.elapse dt).measure b)).abortTest b .stopped).evaluate := by
    have stateU : ((s.elapse dt).bay b).state = .diag := state
    simp only [State.pulse, stateU]
  have step : exec (.tachPulse dt b) s = .next ((s.elapse dt).pulse b).lineUp := rfl
  rw [pulse] at step
  generalize stamped : (s.elapse dt).stampPulse b ((s.elapse dt).measure b) = u at step
  obtain ⟨r, stamps, record⟩ : ∃ r : BayRec, u.bay b = r ∧ r = { s.bay b with lastPulse := r.lastPulse, speed := r.speed } :=
    ⟨_, rfl, by rw [← stamped, State.stampPulse, State.bay_modBay_self]; rfl⟩
  have stateU : (u.bay b).state = .diag := by rw [stamps, record]; exact state
  have aloneU : s.Alone b u := by
    rw [← stamped]; exact (s.alone_elapse b dt).trans (State.alone_modBay b _ _)
  have arbiterU : u.arbiter = s.arbiter := by rw [← stamped]; rfl
  have matchedU : u.queuesMatch := by
    rw [← stamped]
    exact (((s.keeps_elapse dt).trans (State.keeps_stampPulse _ b _)).queues q)
  have arbiter := State.abortTest_arbiter stateU .stopped
  have left : ((u.abortTest b .stopped).bay b).state ≠ .queued := by rw [State.abortTest_bay]; simp
  have matched := (State.keeps_abortTest stateU).queues matchedU
  have result := (aloneU.trans (u.alone_abortTest b .stopped)).evaluated matched left
  refine ⟨_, step, ?_, ?_, ?_, ?_, ?_, ?_, ?_, ?_, ?_, (State.notes_abortTest stateU).evaluated
    ((Notice.stable_events _).and ((Notice.stable_testDone _).and (Notice.stable_events _))), fun none => ?_, result.pass,
    result.others, result.case, ?_⟩
  iterate 5 rw [result.bay, State.abortTest_bay]; rfl
  iterate 3
    rw [result.bay, State.abortTest_bay, stamps, record]
    rfl
  · rw [State.lineUp_arbiter]
    exact State.evaluate_holder matched left (by rw [arbiter])
  · obtain ⟨same, -⟩ := result.empty (by rw [arbiter]; exact arbiterU ▸ none)
    rw [same, arbiter, arbiterU]
    exact ⟨rfl, rfl⟩
  · rw [State.lineUp_faults, State.evaluate_faults, State.abortTest, State.enterAfter_faults, ← stamped]
    rfl

/-- The offset reading of the converter's holder (R154). -/
theorem exec_offsetReadingComplete {dt due reading : Nat} {b : BayNo} {s : State} (state : (s.bay b).state = .diag)
    (holder : s.arbiter.converter.holder = some b) (running : s.arbiter.converter.offsetDue = some due) :
    ∃ u, s.At u (max (s.now + dt) due) ∧ exec (.offsetReadingComplete dt b reading) s = .next (u.startPulse b reading).lineUp := by
  refine ⟨_, s.at_due dt due, ?_⟩
  have stateU : ((s.elapse dt).bay b).state = .diag := state
  have holderU : (s.elapse dt).arbiter.converter.holder = some b := holder
  have runningU : (s.elapse dt).arbiter.converter.offsetDue = some due := running
  change Host.Outcome.next (State.lineUp (State.inState b .diag _ (s.elapse dt))) = _
  rw [State.inState, if_pos stateU, if_pos holderU, runningU]
  rfl

/-- Settles O24. -/
theorem windingTestRuns : Obligations.WindingTestRuns := by
  refine ⟨fun dt b reading s due state holder running => ?_, fun dt b conversion s due offset q state running reading => ?_⟩
  · obtain ⟨u, atDue, step⟩ := exec_offsetReadingComplete (dt := dt) (reading := reading) state holder running
    have alone : s.Alone b (u.startPulse b reading) :=
      (atDue.alone b).trans (u.alone_startPulse b reading)
    refine ⟨_, step, ?_, ?_, ?_, alone.lineUp.others, ?_, ?_, alone.lineUp.case, ?_⟩
    · rw [State.lineUp_now]; exact atDue.now
    · rw [State.lineUp_bay, State.lineUp_now, State.startPulse, State.bay_modBay_self, State.modArbiter_bay, atDue.bay,
        atDue.settings]
      rfl
    · rw [State.lineUp_arbiter, ← holder, ← atDue.arbiter]
      rfl
    · rw [State.lineUp_scheduler]; exact atDue.scheduler
    · rw [State.lineUp_faults]; exact atDue.faults
    · exact atDue.nothingRaised rfl
  · obtain ⟨u, atDue, step⟩ := State.takes_due (c := .testPulseEnd dt b conversion) (dt := dt)
      (timer := fun s => (s.bay b).timers.testPulse) (f := State.endPulse b conversion) (fun _ => rfl) state running
    rw [State.endPulse_eq, atDue.arbiter, reading, Option.getD_some] at step
    generalize min 10000 (conversion - offset) = current at step ⊢
    have stateU : (u.bay b).state = .diag := by rw [atDue.bay]; exact state
    have matched := State.afterPulse_queuesMatch (atDue.queuesMatch q) stateU current
    have left := u.afterPulse_not_queued b current
    have result := ((atDue.alone b).trans (u.alone_afterPulse b current)).evaluated matched left
    have arbiter := State.afterPulse_arbiter stateU current
    have record := u.afterPulse_bay b current
    have faults := u.afterPulse_faults b current
    have notes := u.notes_afterPulse b current
    rw [atDue.arbiter] at arbiter
    rw [atDue.bay, atDue.settings, atDue.store, atDue.governing, atDue.now] at record
    rw [atDue.settings, atDue.faults] at faults
    rw [atDue.settings] at notes
    have now : (u.afterPulse b current).evaluate.lineUp.now = max (s.now + dt) due := by
      rw [State.lineUp_now, State.evaluate_now, State.afterPulse_now, atDue.now]
    have faultsT : (u.afterPulse b current).evaluate.lineUp.faults = (u.afterPulse b current).faults := by
      rw [State.lineUp_faults, State.evaluate_faults]
    have masks : u.store.working.masks = s.store.working.masks := congrArg (·.working.masks) atDue.store
    have noticed := notes.evaluated ((Notice.stable_events _).and ((Notice.stable_testDone _).and
      (fun n m grown same h pass diag => Notice.stable_events (results := False) _ n m grown same (h pass diag))))
    refine ⟨_, step, now, ⟨fun low high => ?_, fun res classified => ?_⟩, ?_, result.pass, fun none => ?_, result.others, ?_,
      result.case, ?_⟩
    · have pass : s.settings.classify current = .pass := by
        rw [CaseSettings.classify, if_neg (Nat.not_lt.mpr low), if_neg (Nat.not_lt.mpr high)]
      rw [pass] at record faults noticed
      refine ⟨?_, State.noticed_imp noticed fun n ⟨done, result, event⟩ => ⟨done, result, event rfl stateU⟩, ?_⟩
      · rw [result.bay, record, now]
        rfl
      · rw [faultsT, faults, if_pos rfl]
    · obtain ⟨class_, notPass⟩ : s.settings.classify current = res ∧ res ≠ .pass := by
        rcases classified with ⟨low, rfl⟩ | ⟨notLow, high, rfl⟩
        · exact ⟨by rw [CaseSettings.classify, if_pos low], by decide⟩
        · exact ⟨by rw [CaseSettings.classify, if_neg (Nat.not_lt.mpr notLow), if_pos high], by decide⟩
      rw [class_] at record faults noticed
      rw [if_neg notPass] at faults
      refine ⟨fun masked => ⟨?_, ?_⟩, fun unmasked => ⟨?_, ?_⟩,
        State.noticed_imp noticed fun n ⟨done, result, _⟩ => ⟨done, result⟩⟩
      · rw [result.bay, record, now, BayRec.pulseEnded, if_neg notPass, masked]
        rfl
      · rw [faultsT, faults, State.reportBay_of_masked (by rw [State.readPulse]; exact masks ▸ masked)]
        exact atDue.faults
      · rw [result.bay, record, now, BayRec.pulseEnded, if_neg notPass, unmasked]
        rfl
      · rw [faultsT, faults]
        exact State.reportBay_attn (by rw [State.readPulse]; exact masks ▸ unmasked) b
    · rw [State.lineUp_arbiter]
      exact State.evaluate_holder matched left (by rw [arbiter])
    · obtain ⟨same, others⟩ := result.empty (by rw [arbiter]; exact none)
      exact ⟨same.trans arbiter, others⟩
    · rw [State.caseSetsKept, faultsT, faults]
      split
      · exact ⟨rfl, rfl⟩
      · rw [← atDue.faults]
        exact State.reportBay_caseSets (u.readPulse b current) _ b
    · rw [State.lineUp_scheduler, State.evaluate_scheduler, State.afterPulse_scheduler, atDue.scheduler]

end Sys2Proof.Machine
end

section
/-! PROOFS. Load admission and the deferred loads (R48, R57, R58): what one try leaves of its bay, and the tries of all
bays in a free order. -/

namespace Sys2Proof.Machine

/-! ### Holders of an unordered event, by their names -/

theorem freelyOrdered_map {α β : Type} (f : α → β) (choice : Nat → Nat) (l : List α) :
    freelyOrdered choice (l.map f) = (freelyOrdered choice l).map f := by
  induction l generalizing choice with
  | nil => rfl
  | cons a rest ih =>
    cases rest with
    | nil => rfl
    | cons b rest =>
      have inner := ih (fun k => choice (k + 1))
      rw [List.map_cons] at inner
      simp only [List.map_cons, freelyOrdered, inner, List.map_append, List.map_take, List.map_drop, List.length_map]

/-- The notice queue of an unordered event, by some order of the names of its holders. -/
theorem State.inFreeOrder_map_notices {α : Type} (s : State) (f : α → State → State) (names : List α) :
    ∃ order : List α, order.Perm names ∧
      (s.inFreeOrder (names.map f)).link.notices = (order.foldl (fun t a => f a t) s).link.notices := by
  refine ⟨freelyOrdered (Config.holderOrder (s.inTurn (names.map f)).freeTick) names, freelyOrdered_perm _ _, ?_⟩
  have link : (s.inFreeOrder (names.map f)).link.notices =
      (s.inTurn (freelyOrdered (Config.holderOrder (s.inTurn (names.map f)).freeTick) (names.map f))).link.notices := rfl
  rw [link, freelyOrdered_map, State.inTurn, List.foldl_map]

/-- Named holders in turn: what holds before the turn of one brings what holds after it. -/
theorem State.foldl_map_brings {α : Type} {f : α → State → State} {a : α} {P Q : State → Prop} {l : List α} (nodup : l.Nodup)
    (mem : a ∈ l) (before : ∀ x t, x ≠ a → P t → P (f x t)) (own : ∀ t, P t → Q (f a t))
    (after : ∀ x t, x ≠ a → Q t → Q (f x t)) {s : State} (h : P s) : Q (l.foldl (fun t x => f x t) s) := by
  have rest {R : State → Prop} (keeps : ∀ x t, x ≠ a → R t → R (f x t)) {m : List α} (absent : a ∉ m) {s : State}
      (h : R s) : R (m.foldl (fun t x => f x t) s) := by
    induction m generalizing s with
    | nil => exact h
    | cons x m ih =>
      obtain ⟨here, absent⟩ : a ≠ x ∧ a ∉ m := by simpa using absent
      exact ih absent (keeps x s (Ne.symm here) h)
  obtain ⟨first, last, split⟩ := List.append_of_mem mem
  rw [split] at nodup ⊢
  have notFirst : a ∉ first := fun h => (List.nodup_append.mp nodup).2.2 a h a List.mem_cons_self rfl
  have notLast : a ∉ last := (List.nodup_cons.mp (List.nodup_append.mp nodup).2.1).1
  rw [List.foldl_append, List.foldl_cons]
  exact rest after notLast (own _ (rest before notFirst h))

/-- An unordered event differs from its holders in turn in the link alone. -/
theorem State.SameCase.inFreeOrder {s t : State} {holders : List (State → State)} (h : t.SameCase (s.inTurn holders)) :
    t.SameCase (s.inFreeOrder holders) := ⟨h.now, h.motion, h.supply, h.transit, h.faults, h.store⟩

/-- What a named holder of an unordered event makes the notices of a source name, where the others pass on what it
needs, they name after the event. -/
theorem State.notes_inFreeOrder_map {α : Type} {s : State} {f : α → State → State} {a : α} {names : List α} {src : Source}
    {p : Notice → Prop} {P : State → Prop} (nodup : names.Nodup) (mem : a ∈ names)
    (before : ∀ x t, x ≠ a → P t → P (f x t)) (own : ∀ t, P t → (f a t).Notes src p)
    (after : ∀ x t, x ≠ a → t.Notes src p → (f x t).Notes src p) (h : P s) :
    (s.inFreeOrder (names.map f)).Notes src p := by
  obtain ⟨order, perm, notices⟩ := s.inFreeOrder_map_notices f names
  refine State.Notes.congr (s := order.foldl (fun t a => f a t) s) ?_ notices
  exact State.foldl_map_brings (perm.nodup_iff.mpr nodup) (perm.mem_iff.mpr mem) before own after h

/-! ### Admission (R57) -/

section

variable {b : BayNo} {s t : State}

theorem State.exposed_iff (s : State) (b : BayNo) : s.exposed b = true ↔ s.admission b = .exposed := by
  have reads : s.exposed b = true ↔ s.settings.exposureLimit ≠ 0 ∧ s.settings.exposureLimit ≤ (s.bay b).joltsLoaded := by
    simp [State.exposed]
  rw [reads, State.admission]
  split
  · rename_i exposed; simp [exposed]
  · rename_i not
    refine ⟨fun exposed => absurd exposed not, fun other => ?_⟩
    split at other
    · cases other
    · split at other
      · cases other
      · cases other

theorem State.admission_accepted : s.admission b = .accepted ↔
    s.admission b ≠ .exposed ∧ s.motion.cls = .still ∧ s.supply.cls ≠ .cut := by
  unfold State.admission
  split
  · simp
  · split
    · simp_all
    · split
      · simp_all
      · simp_all

/-- What admission reads. -/
theorem State.admission_congr (settings : t.settings = s.settings) (jolts : (t.bay b).joltsLoaded = (s.bay b).joltsLoaded)
    (motion : t.motion.cls = s.motion.cls) (supply : t.supply.cls = s.supply.cls) : t.admission b = s.admission b := by
  rw [State.admission, State.admission, settings, jolts, motion, supply]

/-! ### One try of a deferred load (R48) -/

/-- The record of a bay whose load starts (R58). -/
def State.loadStarted (s : State) (b : BayNo) : BayRec := (s.bay b).enter .loading (s.governing b) s.now

/-- The record that a try of the deferred load leaves (R48). -/
def State.deferred (s : State) (b : BayNo) : BayRec :=
  if (s.bay b).state = .spun ∧ (s.bay b).loadOnArrival = true then
    if s.admission b = .exposed then { s.bay b with loadOnArrival := false }
    else if s.admission b = .accepted ∧ s.transit.mode = .normal then s.loadStarted b
    else s.bay b
  else s.bay b

theorem State.tryDeferredLoad_of_exposed (spun : (s.bay b).state = .spun) (flag : (s.bay b).loadOnArrival = true)
    (exposed : s.admission b = .exposed) : s.tryDeferredLoad b = (s.setLoadOnArrival b false).addBayEvent b .loadRefused := by
  have limit := (s.exposed_iff b).mpr exposed
  simp [State.tryDeferredLoad, spun, flag, limit]

theorem State.tryDeferredLoad_of_admitted (spun : (s.bay b).state = .spun) (flag : (s.bay b).loadOnArrival = true)
    (admitted : s.admission b = .accepted) (normal : s.transit.mode = .normal) : s.tryDeferredLoad b = s.startLoad b := by
  obtain ⟨notExposed, still, supplied⟩ := State.admission_accepted.mp admitted
  have limit : s.exposed b = false := by simpa [← State.exposed_iff] using notExposed
  simp [State.tryDeferredLoad, spun, flag, limit, normal, still, supplied]

/-- The load waits on, or was not asked for. -/
theorem State.tryDeferredLoad_of_waits (waits : ¬ ((s.bay b).state = .spun ∧ (s.bay b).loadOnArrival = true) ∨
    s.admission b ≠ .exposed ∧ ¬ (s.admission b = .accepted ∧ s.transit.mode = .normal)) : s.tryDeferredLoad b = s := by
  unfold State.tryDeferredLoad
  split
  · rename_i asked
    have asked : (s.bay b).state = .spun ∧ (s.bay b).loadOnArrival = true := by simpa using asked
    obtain ⟨notExposed, notAdmitted⟩ := waits.resolve_left (fun not => not asked)
    rw [if_neg (fun limit => notExposed ((s.exposed_iff b).mp limit)), if_neg]
    simp only [Bool.and_eq_true, decide_eq_true_eq, and_assoc]
    rintro ⟨normal, still, supplied⟩
    exact notAdmitted ⟨State.admission_accepted.mpr ⟨notExposed, still, supplied⟩, normal⟩
  · rfl

theorem State.tryDeferredLoad_bay_self (s : State) (b : BayNo) : (s.tryDeferredLoad b).bay b = s.deferred b := by
  unfold State.deferred
  split
  · rename_i asked
    obtain ⟨spun, flag⟩ := asked
    split
    · rename_i exposed
      rw [State.tryDeferredLoad_of_exposed spun flag exposed, State.addBayEvent_bay, State.setLoadOnArrival,
        State.bay_modBay_self]
    · rename_i notExposed
      split
      · rename_i admitted
        rw [State.tryDeferredLoad_of_admitted spun flag admitted.1 admitted.2, State.startLoad, State.enter_bay_self]
        rfl
      · rename_i waits
        rw [State.tryDeferredLoad_of_waits (.inr ⟨notExposed, waits⟩)]
  · rename_i notAsked
    rw [State.tryDeferredLoad_of_waits (.inl notAsked)]

/-- A try changes its bay alone, and neither a block of the case nor time. -/
theorem State.alone_tryDeferredLoad (b : BayNo) (s : State) :
    s.Alone b (s.tryDeferredLoad b) ∧ s.SameCase (s.tryDeferredLoad b) ∧
      (s.tryDeferredLoad b).arbiter = s.arbiter ∧ (s.tryDeferredLoad b).scheduler = s.scheduler := by
  unfold State.tryDeferredLoad
  split
  · split
    · exact ⟨(s.alone_modBay b _).trans (State.alone_addBayEvent b b _ _), ⟨rfl, rfl, rfl, rfl, rfl, rfl⟩, rfl, rfl⟩
    · split
      · exact ⟨s.alone_enter b _, s.sameCase_enter b _, s.enter_arbiter b _, s.enter_scheduler b _⟩
      · exact ⟨.refl b s, .refl s, rfl, rfl⟩
  · exact ⟨.refl b s, .refl s, rfl, rfl⟩

theorem State.deferred_congr (same : s.SameCase t) (bay : t.bay b = s.bay b) : t.deferred b = s.deferred b := by
  have admission : t.admission b = s.admission b :=
    State.admission_congr (congrArg (·.working.case) same.store) (by rw [bay]) (by rw [same.motion]) (by rw [same.supply])
  have started : t.loadStarted b = s.loadStarted b := by
    rw [State.loadStarted, State.loadStarted, bay, State.governing_congr same.store bay, same.now]
  rw [State.deferred, State.deferred, bay, admission, same.transit, started]

/-- After its try a bay is SPUN or its load has started, or it stands. -/
theorem State.deferred_state (s : State) (b : BayNo) : (s.deferred b).state = (s.bay b).state ∨
    (s.bay b).state = .spun ∧ (s.deferred b).state = .loading := by
  unfold State.deferred
  split
  · rename_i asked
    split
    · exact .inl rfl
    · split
      · exact .inr ⟨asked.1, rfl⟩
      · exact .inl rfl
  · exact .inl rfl

/-- A try starts no tach-first timer. -/
theorem State.deferred_tachFirst (stopped : (s.bay b).timers.tachFirst = none) : (s.deferred b).timers.tachFirst = none := by
  unfold State.deferred
  split
  · split
    · exact stopped
    · split
      · rfl
      · exact stopped
  · exact stopped

/-! ### The tries of all bays -/

theorem State.tryDeferredLoads_bay (s : State) (b : BayNo) : s.tryDeferredLoads.bay b = s.deferred b := by
  have turns : (allBays.foldl (fun t x => State.tryDeferredLoad x t) s).bay b = s.deferred b :=
    State.foldl_brings (f := State.tryDeferredLoad) (b := b) (P := fun t => s.SameCase t ∧ t.bay b = s.bay b)
    (Q := fun t => t.bay b = s.deferred b) (s := s) nodup_allBays (mem_allBays b)
    (fun x t other ⟨same, bay⟩ => ⟨same.trans (t.alone_tryDeferredLoad x).2.1,
      ((t.alone_tryDeferredLoad x).1.others b (Ne.symm other)).trans bay⟩)
    (fun t ⟨same, bay⟩ => by rw [State.tryDeferredLoad_bay_self, State.deferred_congr same bay])
    (fun x t other bay => ((t.alone_tryDeferredLoad x).1.others b (Ne.symm other)).trans bay)
    ⟨.refl s, rfl⟩
  rw [State.tryDeferredLoads, State.inFreeOrder_bay, ← State.forBays_eq_inTurn, State.forBays]
  exact turns

theorem State.tryDeferredLoads_blocks (s : State) : s.SameCase s.tryDeferredLoads ∧
    s.tryDeferredLoads.arbiter = s.arbiter ∧ s.tryDeferredLoads.scheduler = s.scheduler := by
  have turns : s.SameCase (s.inTurn (allBays.map State.tryDeferredLoad)) ∧
      (s.inTurn (allBays.map State.tryDeferredLoad)).arbiter = s.arbiter ∧
      (s.inTurn (allBays.map State.tryDeferredLoad)).scheduler = s.scheduler := by
    refine State.inTurn_induct (P := fun t => s.SameCase t ∧ t.arbiter = s.arbiter ∧ t.scheduler = s.scheduler)
      (fun f mem t ⟨same, arbiter, scheduler⟩ => ?_) ⟨.refl s, rfl, rfl⟩
    obtain ⟨b, -, rfl⟩ := List.mem_map.mp mem
    obtain ⟨-, sameB, arbiterB, schedulerB⟩ := t.alone_tryDeferredLoad b
    exact ⟨same.trans sameB, arbiterB.trans arbiter, schedulerB.trans scheduler⟩
  obtain ⟨same, arbiter, scheduler⟩ := turns
  exact ⟨same.inFreeOrder, (State.inFreeOrder_arbiter _ _).trans arbiter, (State.inFreeOrder_scheduler _ _).trans scheduler⟩

/-- A refused load raises LOAD_REFUSED (R48). -/
theorem State.notes_tryDeferredLoads (spun : (s.bay b).state = .spun) (flag : (s.bay b).loadOnArrival = true)
    (exposed : s.admission b = .exposed) :
    s.tryDeferredLoads.Notes (.bay b) (fun n => n.events &&& BayEvent.loadRefused.bit = BayEvent.loadRefused.bit) := by
  refine State.notes_inFreeOrder_map (f := State.tryDeferredLoad) (a := b) (P := fun t => s.SameCase t ∧ t.bay b = s.bay b)
    nodup_allBays (mem_allBays b) (fun x t other ⟨same, bay⟩ => ⟨same.trans (t.alone_tryDeferredLoad x).2.1,
      ((t.alone_tryDeferredLoad x).1.others b (Ne.symm other)).trans bay⟩) (fun t ⟨same, bay⟩ => ?_)
    (fun x t _ notes => (State.event_tryDeferredLoad (D := fun _ => False) t x).notes (Notice.stable_events _) notes)
    ⟨.refl s, rfl⟩
  have admission : t.admission b = s.admission b :=
    State.admission_congr (congrArg (·.working.case) same.store) (by rw [bay]) (by rw [same.motion]) (by rw [same.supply])
  rw [State.tryDeferredLoad_of_exposed (bay ▸ spun) (bay ▸ flag) (admission.trans exposed)]
  exact State.notes_addBayEvent _ b _

end

end Sys2Proof.Machine
end

section
/-! PROOFS. TACH pulses: measurements, the at-speed count, the speed-loss detector, and a speed loss of a SPUN bay (R11 to
R14, R42, R47, R139). -/

namespace Sys2Proof.Machine

section

variable {b : BayNo} {s t u : State} {v dt : Nat}

/-! ### Measurements (R11) -/

theorem State.measure_of_measures (h : s.measures b (s.now + dt) v) : (s.elapse dt).measure b = some v := by
  obtain ⟨p, last, positive, within, rfl⟩ := h
  have lastU : ((s.elapse dt).bay b).lastPulse = some p := last
  have spanU : (s.elapse dt).now - p = s.now + dt - p := rfl
  rw [State.measure, lastU]
  dsimp only
  rw [spanU, if_neg (show ¬ tachLongest < _ from Nat.not_lt.mpr within), speedOf, if_neg (Nat.pos_iff_ne_zero.mp positive), State.elapse_governing]

theorem State.measure_of_fresh (h : (s.bay b).lastPulse = none ∨ ∃ p, (s.bay b).lastPulse = some p ∧ 1000000 < s.now - p) :
    s.measure b = none := by
  unfold State.measure
  rcases h with absent | ⟨p, last, late⟩
  · rw [absent]
  · rw [last]
    exact if_pos late

theorem speedOf_le (interval pulses : Nat) : speedOf interval pulses ≤ 65535 := by
  unfold speedOf
  split
  · exact Nat.min_le_left _ _
  · exact Nat.min_le_left _ _

theorem State.inWindow_iff (s : State) (b : BayNo) (v : Nat) : (s.governing b).inWindow v = true ↔ s.inSpeedWindow b v := by
  simp [Profile.inWindow, State.inSpeedWindow]

/-! ### What an event leaves of the pulse and the speed -/

/-- The pulse and the speed of a bay stand. -/
def State.TachKept (b : BayNo) (s t : State) : Prop :=
  (t.bay b).lastPulse = (s.bay b).lastPulse ∧ (t.bay b).speed = (s.bay b).speed

theorem State.TachKept.trans (h : s.TachKept b t) (g : t.TachKept b u) : s.TachKept b u :=
  ⟨g.1.trans h.1, g.2.trans h.2⟩

theorem State.TachKept.refl (b : BayNo) (s : State) : s.TachKept b s := ⟨rfl, rfl⟩

theorem State.tachKept_modBay (s : State) (b x : BayNo) (f : BayRec → BayRec)
    (h : ∀ r : BayRec, (f r).lastPulse = r.lastPulse ∧ (f r).speed = r.speed) : s.TachKept b (s.modBay x f) := by
  by_cases here : b = x
  · subst here; rw [State.TachKept, State.bay_modBay_self]; exact h _
  · rw [State.TachKept, State.bay_modBay_ne _ _ here]; exact ⟨rfl, rfl⟩

theorem State.tachKept_reportBay (s : State) (b : BayNo) (c : BayFault) : s.TachKept b (s.reportBay c b) := by
  rw [State.TachKept, State.reportBay_bay_self]; exact ⟨rfl, rfl⟩

theorem State.tachKept_evaluate (s : State) (b : BayNo) : s.TachKept b s.evaluate := by
  refine State.evaluate_induct (P := fun t => s.TachKept b t) (fun t p _ kept => kept.trans ?_) s (.refl b s)
  have raised : t.TachKept b (t.raised p) := by rw [State.raised_eq]; exact ⟨rfl, rfl⟩
  rw [State.carryOut_eq]
  refine raised.trans ?_
  by_cases here : b = p.granted.bay
  · subst here
    rw [State.TachKept, State.grant_bay_self]
    cases p.granted.kind <;> exact ⟨rfl, rfl⟩
  · rw [State.TachKept, State.grant_bay_ne _ _ here]
    exact ⟨rfl, rfl⟩

theorem BayRec.parked_tach (mode : TransitMode) (p : Profile) (now : Nat) (r : BayRec) :
    (r.parked mode p now).lastPulse = r.lastPulse ∧ (r.parked mode p now).speed = r.speed := by
  unfold BayRec.parked
  split
  · exact ⟨rfl, rfl⟩
  · exact ⟨rfl, rfl⟩
  · exact ⟨rfl, rfl⟩

theorem BayRec.unloadStarted_tach (mode : TransitMode) (p : Profile) (now : Nat) (r : BayRec) :
    (r.unloadStarted mode p now).lastPulse = r.lastPulse ∧ (r.unloadStarted mode p now).speed = r.speed := by
  unfold BayRec.unloadStarted
  split
  · exact BayRec.parked_tach mode p now (r.enter .unloading p now)
  · exact ⟨rfl, rfl⟩

theorem State.tachKept_startPass (s : State) (b : BayNo) : s.TachKept b s.startPass := by
  refine State.startPass_induct (P := fun t => s.TachKept b t) (fun t x rest _ kept => kept.trans ?_) s (.refl b s)
  by_cases here : b = x
  · subst here
    rw [State.TachKept, State.startUnload_bay_self]
    exact BayRec.unloadStarted_tach _ _ _ _
  · rw [State.TachKept, State.startUnload_bay_ne _ here]
    exact ⟨rfl, rfl⟩

theorem State.tachKept_emergencyPlacement (s : State) (b : BayNo) : s.TachKept b (s.emergencyPlacement b) := by
  rw [State.TachKept, State.emergencyPlacement_bay_self]
  split <;> exact ⟨rfl, rfl⟩

theorem State.tachKept_speedLoss (s : State) (b : BayNo) : s.TachKept b (s.speedLoss b) := by
  have reported : s.TachKept b ((s.modBay b BayRec.disarm).reportBay .speedLoss b) :=
    (s.tachKept_modBay b b BayRec.disarm fun _ => ⟨rfl, rfl⟩).trans (State.tachKept_reportBay _ b _)
  have intent (hold : Bool) := reported.trans (State.tachKept_modBay _ b b
    (fun r => { r with intent := r.intent.afterSpeedLoss hold }) fun _ => ⟨rfl, rfl⟩)
  unfold State.speedLoss
  dsimp only
  split
  · split
    · refine reported.trans ?_
      rw [State.TachKept, State.holdWith_bay_self]
      exact ⟨rfl, rfl⟩
    · refine reported.trans ?_
      rw [State.TachKept, State.spinDownWith_bay_self]
      exact ⟨rfl, rfl⟩
  iterate 3
    exact ((intent _).trans (State.tachKept_emergencyPlacement _ b)).trans (State.tachKept_startPass _ b)
  · exact intent _
  all_goals exact reported

theorem State.tachKept_tryDeferredLoad (s : State) (b : BayNo) : s.TachKept b (s.tryDeferredLoad b) := by
  rw [State.TachKept, State.tryDeferredLoad_bay_self, State.deferred]
  split
  · split
    · exact ⟨rfl, rfl⟩
    · split <;> exact ⟨rfl, rfl⟩
  · exact ⟨rfl, rfl⟩

/-! ### The stamp and the timers that every pulse handles -/

theorem State.stampPulse_bay (s : State) (b : BayNo) (m : Option Nat) : (s.stampPulse b m).bay b =
    { s.bay b with lastPulse := some s.now, speed := m.or (s.bay b).speed } := by
  rw [State.stampPulse, State.bay_modBay_self]
  cases m <;> rfl

/-- A pulse in SPINNING_UP, stamped: the tach-first timer has stopped (R42). -/
def State.tachStarted (b : BayNo) (s : State) : State :=
  (s.stampPulse b (s.measure b)).modBay b (fun r => { r with timers := { r.timers with tachFirst := none } })

/-- A pulse of an armed bay, stamped: the gap has started again (R14). -/
def State.gapStarted (b : BayNo) (s : State) : State :=
  (s.stampPulse b (s.measure b)).modBay b (fun r => { r with
    timers := { r.timers with gap := some (s.now + speedLossGapLength) } })

theorem State.tachStarted_bay (s : State) (b : BayNo) : (s.tachStarted b).bay b =
    { s.bay b with
      lastPulse := some s.now, speed := (s.measure b).or (s.bay b).speed,
      timers := { (s.bay b).timers with tachFirst := none } } := by
  rw [State.tachStarted, State.bay_modBay_self, State.stampPulse_bay]

theorem State.gapStarted_bay (s : State) (b : BayNo) : (s.gapStarted b).bay b =
    { s.bay b with
      lastPulse := some s.now, speed := (s.measure b).or (s.bay b).speed,
      timers := { (s.bay b).timers with gap := some (s.now + 500000) } } := by
  rw [State.gapStarted, State.bay_modBay_self, State.stampPulse_bay]
  rfl

theorem State.alone_tachStarted (b : BayNo) (s : State) : s.Alone b (s.tachStarted b) :=
  (s.alone_modBay b _).trans (State.alone_modBay b (s.stampPulse b (s.measure b)) _)

theorem State.alone_gapStarted (b : BayNo) (s : State) : s.Alone b (s.gapStarted b) :=
  (s.alone_modBay b _).trans (State.alone_modBay b (s.stampPulse b (s.measure b)) _)

theorem State.tachStarted_governing (s : State) (b : BayNo) : (s.tachStarted b).governing b = s.governing b :=
  State.governing_of_latched_eq rfl (by rw [State.tachStarted_bay])

theorem State.gapStarted_governing (s : State) (b : BayNo) : (s.gapStarted b).governing b = s.governing b :=
  State.governing_of_latched_eq rfl (by rw [State.gapStarted_bay])

theorem State.pulse_of_spinningUp (state : (s.bay b).state = .spinningUp) :
    s.pulse b = (s.tachStarted b).onMeasurement (s.measure b) (State.countAtSpeed b) := by
  simp only [State.pulse, state]
  rfl

/-- The states in which the speed-loss detector can be armed (R14). -/
theorem State.pulse_of_armed (state : (s.bay b).state = .spun ∨ (s.bay b).state.inLoadedCondition = true)
    (armed : (s.bay b).armed = true) :
    s.pulse b = (s.gapStarted b).onMeasurement (s.measure b) (State.countSpeedLoss b) := by
  unfold State.pulse
  cases here : (s.bay b).state with
  | spun | loading | loaded | parkQueued | unloading => exact if_pos armed
  | vacant | stopped | queued | spinningUp | spinningDown | diag | held | fenced =>
    rw [here] at state
    exact absurd state (by decide)

/-! ### The counts (R13, R14) -/

/-- Counted at speed: a measurement inside the window. -/
def State.counted (b : BayNo) (s : State) : State := s.modBay b (fun r => { r with atSpeed := r.atSpeed + 1 })

/-- Counted as outside the window. -/
def State.missed (b : BayNo) (s : State) : State := s.modBay b (fun r => { r with outside := r.outside + 1 })

theorem State.countAtSpeed_of_outside (h : ¬ s.inSpeedWindow b v) :
    s.countAtSpeed b v = s.modBay b (fun r => { r with atSpeed := 0 }) :=
  if_neg fun inside => h ((s.inWindow_iff b v).mp inside)

theorem State.countAtSpeed_of_inside (h : s.inSpeedWindow b v) :
    s.countAtSpeed b v = if 3 ≤ (s.bay b).atSpeed then (s.counted b).reachSpeed b else s.counted b := by
  rw [State.countAtSpeed, if_pos ((s.inWindow_iff b v).mpr h)]
  simp [State.counted]

theorem State.countSpeedLoss_of_inside (h : s.inSpeedWindow b v) :
    s.countSpeedLoss b v = s.modBay b (fun r => { r with outside := 0 }) :=
  if_pos ((s.inWindow_iff b v).mpr h)

theorem State.countSpeedLoss_of_outside (h : ¬ s.inSpeedWindow b v) :
    s.countSpeedLoss b v = if 3 ≤ (s.bay b).outside then (s.missed b).speedLoss b else s.missed b := by
  rw [State.countSpeedLoss, if_neg fun inside => h ((s.inWindow_iff b v).mp inside)]
  simp [State.missed]

theorem State.inSpeedWindow_congr (governing : t.governing b = s.governing b) : t.inSpeedWindow b v ↔ s.inSpeedWindow b v := by
  rw [State.inSpeedWindow, State.inSpeedWindow, governing]

/-- A pulse that only changes its bay's record raises nothing and leaves every block. -/
structure State.PulseOnly (b : BayNo) (s t : State) : Prop extends s.Alone b t where
  arbiter : t.arbiter = s.arbiter
  scheduler : t.scheduler = s.scheduler
  faults : t.faults = s.faults
  link : t.link = s.link

theorem State.PulseOnly.modBay (h : s.PulseOnly b t) (f : BayRec → BayRec) : s.PulseOnly b (t.modBay b f) :=
  ⟨h.toAlone.trans (t.alone_modBay b f), h.arbiter, h.scheduler, h.faults, h.link⟩

theorem State.pulseOnly_elapse (b : BayNo) (s : State) (dt : Nat) : s.PulseOnly b (s.elapse dt) :=
  ⟨s.alone_elapse b dt, rfl, rfl, rfl, rfl⟩

theorem State.pulseOnly_tachStarted (b : BayNo) (s : State) (dt : Nat) : s.PulseOnly b ((s.elapse dt).tachStarted b) :=
  ((s.pulseOnly_elapse b dt).modBay _).modBay _

theorem State.pulseOnly_gapStarted (b : BayNo) (s : State) (dt : Nat) : s.PulseOnly b ((s.elapse dt).gapStarted b) :=
  ((s.pulseOnly_elapse b dt).modBay _).modBay _

theorem State.keeps_tachStarted (s : State) (b : BayNo) : s.Keeps (s.tachStarted b) := by
  unfold State.tachStarted
  exact (s.keeps_stampPulse b _).trans (State.keeps_timers _ b fun _ => rfl)

theorem State.keeps_gapStarted (s : State) (b : BayNo) : s.Keeps (s.gapStarted b) := by
  unfold State.gapStarted
  exact (s.keeps_stampPulse b _).trans (State.keeps_timers _ b fun _ => rfl)

theorem State.keeps_counted (s : State) (b : BayNo) : s.Keeps (s.counted b) :=
  s.keeps_modBay (f := fun r => { r with atSpeed := r.atSpeed + 1 }) ⟨rfl, rfl, rfl, rfl, id⟩ fun _ h => h

theorem State.keeps_missed (s : State) (b : BayNo) : s.Keeps (s.missed b) :=
  s.keeps_modBay (f := fun r => { r with outside := r.outside + 1 }) ⟨rfl, rfl, rfl, rfl, id⟩ fun _ h => h

/-- What the statements say of an event that changes one record alone. -/
theorem State.PulseOnly.lineUp (h : s.PulseOnly b t) : s.othersKept t.lineUp b ∧ t.lineUp.arbiter = s.arbiter ∧
    t.lineUp.scheduler = s.scheduler ∧ t.lineUp.faults = s.faults ∧ s.caseKept t.lineUp ∧ s.nothingRaised t.lineUp :=
  ⟨h.toAlone.lineUp.others, t.lineUp_arbiter.trans h.arbiter, t.lineUp_scheduler.trans h.scheduler,
    t.lineUp_faults.trans h.faults, h.toAlone.lineUp.case, State.nothingRaised_of_notices (congrArg _ h.link)⟩

/-! ### The at-speed event (R13, R47, R48) -/

/-- The bay in SPUN, its grant given back. -/
def State.spunUp (b : BayNo) (s : State) : State :=
  ((s.releaseGrant b).modBay b (fun r => { r with lastSpinUp := some (s.clock - r.grantTime).toNat })).enter b .spun

theorem State.reachSpeed_eq (s : State) (b : BayNo) : s.reachSpeed b = ((s.spunUp b).tryDeferredLoad b).evaluate := rfl

theorem State.spunUp_bay (s : State) (b : BayNo) : (s.spunUp b).bay b = BayRec.enter .spun (s.governing b) s.now
    { s.bay b with lastSpinUp := some (s.clock - (s.bay b).grantTime).toNat } := by
  rw [State.spunUp, State.enter_bay_self, State.bay_modBay_self, State.governing_modBay _ b rfl]
  rfl

theorem State.alone_spunUp (b : BayNo) (s : State) : s.Alone b (s.spunUp b) :=
  ((s.alone_releaseGrant b b).trans (State.alone_modBay b _ _)).trans (State.alone_enter b _ .spun)

theorem State.spunUp_blocks (state : (s.bay b).state = .spinningUp) : (s.spunUp b).arbiter =
    { s.arbiter with held := s.arbiter.held - (s.governing b).surgeCost, grants := s.arbiter.grants - 1 } ∧
      (s.spunUp b).scheduler = s.scheduler ∧ (s.spunUp b).faults = s.faults ∧ (s.spunUp b).now = s.now := by
  rw [← State.releaseGrant_of_spinningUp state]
  simp [State.spunUp]

theorem State.notes_spunUp (s : State) (b : BayNo) :
    (s.spunUp b).Notes (.bay b) (fun n => n.events &&& BayEvent.spun.bit = BayEvent.spun.bit) := State.notes_enter _ rfl

theorem State.spunUp_queuesMatch (q : s.queuesMatch) (state : (s.bay b).state = .spinningUp) : (s.spunUp b).queuesMatch :=
  (((State.Leaves.of_releaseGrant (.inl state)).modBay _ rfl rfl id).keeps_enter rfl (by decide) (by decide)
    (by decide)).queues q

/-! ### The pulse as a whole -/

theorem State.tachKept_reachSpeed (s : State) (b : BayNo) : s.TachKept b (s.reachSpeed b) := by
  have spun : s.TachKept b (s.spunUp b) := by rw [State.TachKept, State.spunUp_bay]; exact ⟨rfl, rfl⟩
  rw [State.reachSpeed_eq]
  exact (spun.trans (State.tachKept_tryDeferredLoad _ b)).trans (State.tachKept_evaluate _ b)

theorem State.tachKept_countAtSpeed (s : State) (b : BayNo) (v : Nat) : s.TachKept b (s.countAtSpeed b v) := by
  have counted : s.TachKept b (s.counted b) := s.tachKept_modBay b b _ fun _ => ⟨rfl, rfl⟩
  by_cases inside : s.inSpeedWindow b v
  · rw [State.countAtSpeed_of_inside inside]
    split
    · exact counted.trans (State.tachKept_reachSpeed _ b)
    · exact counted
  · rw [State.countAtSpeed_of_outside inside]
    exact s.tachKept_modBay b b _ fun _ => ⟨rfl, rfl⟩

theorem State.tachKept_countSpeedLoss (s : State) (b : BayNo) (v : Nat) : s.TachKept b (s.countSpeedLoss b v) := by
  have missed : s.TachKept b (s.missed b) := s.tachKept_modBay b b _ fun _ => ⟨rfl, rfl⟩
  by_cases inside : s.inSpeedWindow b v
  · rw [State.countSpeedLoss_of_inside inside]
    exact s.tachKept_modBay b b _ fun _ => ⟨rfl, rfl⟩
  · rw [State.countSpeedLoss_of_outside inside]
    split
    · exact missed.trans (State.tachKept_speedLoss _ b)
    · exact missed

theorem State.tachKept_onMeasurement (s : State) (m : Option Nat) {f : Nat → State → State}
    (h : ∀ v, s.TachKept b (f v s)) : s.TachKept b (s.onMeasurement m f) := by
  unfold State.onMeasurement
  split
  · exact h _
  · exact .refl b s

theorem State.speedLoss_now (s : State) (b : BayNo) : (s.speedLoss b).now = s.now := by
  unfold State.speedLoss
  dsimp only
  split
  · split <;> simp [State.holdWith, State.spinDownWith, State.setIntent]
  iterate 3
    rw [State.startPass_now, (State.sameCase_emergencyPlacement _ b).now]
    simp
  all_goals simp

theorem State.countAtSpeed_now (s : State) (b : BayNo) (v : Nat) : (s.countAtSpeed b v).now = s.now := by
  by_cases inside : s.inSpeedWindow b v
  · rw [State.countAtSpeed_of_inside inside]
    split
    · rw [State.reachSpeed_eq, State.evaluate_now, (State.alone_tryDeferredLoad b _).2.1.now]
      simp [State.spunUp, State.counted]
    · rfl
  · rw [State.countAtSpeed_of_outside inside]
    rfl

theorem State.countSpeedLoss_now (s : State) (b : BayNo) (v : Nat) : (s.countSpeedLoss b v).now = s.now := by
  by_cases inside : s.inSpeedWindow b v
  · rw [State.countSpeedLoss_of_inside inside]
    rfl
  · rw [State.countSpeedLoss_of_outside inside]
    split
    · rw [State.speedLoss_now]
      rfl
    · rfl

theorem State.pulse_now (s : State) (b : BayNo) : (s.pulse b).now = s.now := by
  have measured (m : Option Nat) {u : State} {f : Nat → State → State} (kept : ∀ v, (f v u).now = u.now) :
      (u.onMeasurement m f).now = u.now := by
    unfold State.onMeasurement
    split
    · exact kept _
    · rfl
  unfold State.pulse
  dsimp only
  split
  · rw [measured _ fun v => State.countAtSpeed_now _ b v]; rfl
  · rw [State.evaluate_now, State.abortTest, State.enterAfter_now]; rfl
  · rfl
  iterate 5
    split
    · rw [measured _ fun v => State.countSpeedLoss_now _ b v]; rfl
    · rfl
  all_goals rfl

/-- The pulse of a bay that is in none of the states that watch the spindle is stamped alone. -/
theorem State.pulse_of_unwatched (state : (s.bay b).state = .stopped ∨ (s.bay b).state = .queued ∨
    (s.bay b).state = .held ∨ (s.bay b).state = .fenced ∨
    ((s.bay b).state = .spun ∨ (s.bay b).state.inLoadedCondition = true) ∧ (s.bay b).armed = false) :
    s.pulse b = s.stampPulse b (s.measure b) := by
  unfold State.pulse
  cases here : (s.bay b).state with
  | stopped | queued | held | fenced => rfl
  | spun | loading | loaded | parkQueued | unloading =>
    rw [here] at state
    have off : (s.bay b).armed = false := by simpa [BayState.inLoadedCondition] using state
    exact if_neg (by simp [off])
  | vacant | spinningUp | spinningDown | diag => rw [here] at state; simp [BayState.inLoadedCondition] at state

theorem State.pulse_of_diag (state : (s.bay b).state = .diag) :
    s.pulse b = ((s.stampPulse b (s.measure b)).abortTest b .stopped).evaluate := by
  simp only [State.pulse, state]

/-- The stamp and the speed that a pulse leaves in every state but VACANT (R11, R12). -/
theorem State.pulse_tach (present : (s.bay b).state ≠ .vacant) : ((s.pulse b).bay b).lastPulse = some s.now ∧
    ((s.pulse b).bay b).speed = (s.measure b).or (s.bay b).speed := by
  have stamped : (s.stampPulse b (s.measure b)).TachKept b (s.pulse b) := by
    have gap : (s.stampPulse b (s.measure b)).TachKept b (s.gapStarted b) := by
      rw [State.TachKept, State.gapStarted_bay, State.stampPulse_bay]; exact ⟨rfl, rfl⟩
    have watched (watches : (s.bay b).state = .spun ∨ (s.bay b).state.inLoadedCondition = true) :
        (s.stampPulse b (s.measure b)).TachKept b (s.pulse b) := by
      cases armed : (s.bay b).armed with
      | true =>
        rw [State.pulse_of_armed watches armed]
        exact gap.trans (State.tachKept_onMeasurement _ _ fun v => State.tachKept_countSpeedLoss _ b v)
      | false =>
        rw [State.pulse_of_unwatched (.inr (.inr (.inr (.inr ⟨watches, armed⟩))))]
        exact .refl b _
    cases here : (s.bay b).state with
    | vacant => exact absurd here present
    | spinningUp =>
      have started : (s.stampPulse b (s.measure b)).TachKept b (s.tachStarted b) := by
        rw [State.TachKept, State.tachStarted_bay, State.stampPulse_bay]; exact ⟨rfl, rfl⟩
      rw [State.pulse_of_spinningUp here]
      exact started.trans (State.tachKept_onMeasurement _ _ fun v => State.tachKept_countAtSpeed _ b v)
    | spinningDown =>
      rw [State.pulse_of_spinningDown here]
      exact State.tachKept_modBay _ b b _ fun _ => ⟨rfl, rfl⟩
    | diag =>
      rw [State.pulse_of_diag here]
      refine State.TachKept.trans ?_ (State.tachKept_evaluate _ b)
      rw [State.TachKept, State.abortTest_bay]
      exact ⟨rfl, rfl⟩
    | spun => exact watched (.inl here)
    | loading | loaded | parkQueued | unloading => exact watched (.inr (by rw [here]; rfl))
    | stopped | queued | held | fenced =>
      rw [State.pulse_of_unwatched (by simp [here])]
      exact .refl b _
  rw [stamped.1, stamped.2, State.stampPulse_bay]
  exact ⟨rfl, rfl⟩

end

/-- Settles O12. -/
theorem tachMeasuresSpeed : Obligations.TachMeasuresSpeed := by
  have taken (dt : Nat) (b : BayNo) (s : State) : exec (.tachPulse dt b) s = .next ((s.elapse dt).pulse b).lineUp := rfl
  refine ⟨fun dt b s present => ?_, fun dt b s v state measures low => ?_, fun dt b s state fresh => ?_,
    fun dt b s q state => ?_⟩
  · have tach := State.pulse_tach (s := s.elapse dt) present
    rw [← State.lineUp_bay] at tach
    obtain ⟨last, speed⟩ := tach
    refine ⟨_, taken dt b s, ?_, last, fun v measures => ?_, fun fresh => ?_, fun p stamp zero => ?_⟩
    · rw [State.lineUp_now, State.pulse_now]; rfl
    · rw [speed, State.measure_of_measures measures]
      rfl
    · rw [speed, State.measure_of_fresh (s := s.elapse dt) fresh]
      rfl
    · have measured : (s.elapse dt).measure b = some (speedOf 0 (s.governing b).pulsesPerRev) := by
        have stampU : ((s.elapse dt).bay b).lastPulse = some p := stamp
        have spanU : (s.elapse dt).now - p = 0 := zero
        rw [State.measure, stampU]
        dsimp only
        rw [spanU, if_neg (Nat.not_lt_zero _), State.elapse_governing]
      exact ⟨_, by rw [speed, measured]; rfl, speedOf_le _ _⟩
  · have only := s.pulseOnly_tachStarted b dt
    have step := taken dt b s
    rw [State.pulse_of_spinningUp (s := s.elapse dt) state, State.measure_of_measures measures] at step
    have record := (s.elapse dt).tachStarted_bay b
    rw [State.measure_of_measures measures] at record
    have window : ((s.elapse dt).tachStarted b).inSpeedWindow b v ↔ s.inSpeedWindow b v :=
      State.inSpeedWindow_congr ((s.elapse dt).tachStarted_governing b)
    by_cases inside : s.inSpeedWindow b v
    · have under : ¬ 3 ≤ (((s.elapse dt).tachStarted b).bay b).atSpeed := by
        rw [record]; exact Nat.not_le.mpr (low.resolve_left fun not => not inside)
      rw [State.onMeasurement, State.countAtSpeed_of_inside (window.mpr inside), if_neg under] at step
      have counted := State.PulseOnly.modBay only (fun r => { r with atSpeed := r.atSpeed + 1 })
      obtain ⟨others, arbiter, scheduler, faults, case, silent⟩ := counted.lineUp
      refine ⟨_, step, fun _ => ?_, fun not => absurd inside not, others, arbiter, scheduler, faults, case, silent⟩
      rw [State.lineUp_bay, State.counted, State.bay_modBay_self, record]
      rfl
    · rw [State.onMeasurement, State.countAtSpeed_of_outside (fun h => inside (window.mp h))] at step
      obtain ⟨others, arbiter, scheduler, faults, case, silent⟩ := (only.modBay (fun r => { r with atSpeed := 0 })).lineUp
      refine ⟨_, step, fun h => absurd h inside, fun _ => ?_, others, arbiter, scheduler, faults, case, silent⟩
      rw [State.lineUp_bay, State.bay_modBay_self, record]
      rfl
  · have step := taken dt b s
    rw [State.pulse_of_spinningUp (s := s.elapse dt) state, State.measure_of_fresh (s := s.elapse dt) fresh] at step
    have record := (s.elapse dt).tachStarted_bay b
    rw [State.measure_of_fresh (s := s.elapse dt) fresh] at record
    obtain ⟨others, arbiter, scheduler, faults, case, silent⟩ := (s.pulseOnly_tachStarted b dt).lineUp
    refine ⟨_, step, ?_, others, arbiter, scheduler, faults, case, silent⟩
    rw [State.onMeasurement, State.lineUp_bay, record]
    rfl
  · refine ⟨_, taken dt b s, ?_⟩
    rw [State.lineUp_bay, State.pulse_of_spinningUp (s := s.elapse dt) state]
    have record := (s.elapse dt).tachStarted_bay b
    generalize started : (s.elapse dt).tachStarted b = u at record ⊢
    have matched : u.queuesMatch := by
      rw [← started]
      exact ((s.keeps_elapse dt).trans (State.keeps_tachStarted _ b)).queues q
    unfold State.onMeasurement
    split
    · rename_i v _
      have stopped : (u.bay b).timers.tachFirst = none := by rw [record]
      have spinningUp : (u.bay b).state = .spinningUp := by rw [record]; exact state
      by_cases inside : u.inSpeedWindow b v
      · rw [State.countAtSpeed_of_inside inside]
        have counted : (u.counted b).bay b = { u.bay b with atSpeed := (u.bay b).atSpeed + 1 } := State.bay_modBay_self _ _ _
        split
        · have up : ((u.counted b).bay b).state = .spinningUp := by rw [counted]; exact spinningUp
          have spun := State.spunUp_queuesMatch ((u.keeps_counted b).queues matched) up
          rw [State.reachSpeed_eq, State.evaluate_bay ((State.keeps_tryDeferredLoad _ b).queues spun), State.tryDeferredLoad_bay_self]
          · exact State.deferred_tachFirst (by rw [State.spunUp_bay]; rfl)
          · rw [State.tryDeferredLoad_bay_self]
            rcases State.deferred_state ((u.counted b).spunUp b) b with same | ⟨-, loading⟩
            · rw [same, State.spunUp_bay]; simp
            · rw [loading]; decide
        · rw [counted]; exact stopped
      · rw [State.countAtSpeed_of_outside inside, State.bay_modBay_self]
        exact stopped
    · rw [record]

/-! ### The fourth measurement in a row (R13, R47) -/

/-- The fields that the at-speed event writes, and that a deferred load leaves. -/
structure BayRec.ReachedSpeed (r u : BayRec) (v surge : Nat) (now : Nat) : Prop where
  attempts : u.attempts = 0
  intent : u.intent = .none
  speed : u.speed = some v
  latched : u.latched = r.latched
  armed : u.armed = true
  outside : u.outside = 0
  lastSpinUp : u.lastSpinUp = some (caseClock now - r.grantTime).toNat
  spen : u.spen = some (surge * 250)
  gap : u.timers.gap = some (now + 500000)
  tachFirst : u.timers.tachFirst = none
  hold : u.timers.hold = none
  sticky : u.sticky = r.sticky
  pending : u.pending = r.pending

/-- A deferred load keeps what the at-speed event has written. -/
theorem BayRec.ReachedSpeed.deferred {b : BayNo} {w : State} {r : BayRec} {v now : Nat}
    (h : r.ReachedSpeed (w.bay b) v (w.governing b).surgeCost now) :
    r.ReachedSpeed (w.deferred b) v (w.governing b).surgeCost now := by
  have flag : r.ReachedSpeed { w.bay b with loadOnArrival := false } v (w.governing b).surgeCost now :=
    ⟨h.attempts, h.intent, h.speed, h.latched, h.armed, h.outside, h.lastSpinUp, h.spen, h.gap, h.tachFirst, h.hold,
      h.sticky, h.pending⟩
  have started : r.ReachedSpeed (w.loadStarted b) v (w.governing b).surgeCost now :=
    ⟨h.attempts, h.intent, h.speed, h.latched, h.armed, h.outside, h.lastSpinUp, rfl, h.gap, rfl, rfl, h.sticky, h.pending⟩
  unfold State.deferred
  split
  · split
    · exact flag
    · split
      · exact started
      · exact h
  · exact h

/-- The fourth measurement in a row inside the window, ahead of the at-speed event. -/
theorem exec_tachPulse_fourth {dt : Nat} {b : BayNo} {s : State} {v : Nat} (q : s.queuesMatch)
    (state : (s.bay b).state = .spinningUp) (measures : s.measures b (s.now + dt) v) (inside : s.inSpeedWindow b v)
    (third : (s.bay b).atSpeed = 3) :
    ∃ u, exec (.tachPulse dt b) s = .next (((u.spunUp b).tryDeferredLoad b).evaluate).lineUp ∧ s.PulseOnly b u ∧
      u.queuesMatch ∧ u.now = s.now + dt ∧ u.bay b = { s.bay b with
        lastPulse := some (s.now + dt), speed := some v, atSpeed := 4,
        timers := { (s.bay b).timers with tachFirst := none } } := by
  have step : exec (.tachPulse dt b) s = .next ((s.elapse dt).pulse b).lineUp := rfl
  have record := (s.elapse dt).tachStarted_bay b
  rw [State.measure_of_measures measures] at record
  rw [State.pulse_of_spinningUp (s := s.elapse dt) state, State.measure_of_measures measures, State.onMeasurement,
    State.countAtSpeed_of_inside ((State.inSpeedWindow_congr ((s.elapse dt).tachStarted_governing b)).mpr inside),
    if_pos (by rw [record]; exact Nat.le_of_eq third.symm), State.reachSpeed_eq] at step
  refine ⟨_, step, (s.pulseOnly_tachStarted b dt).modBay _,
    ((s.keeps_elapse dt).trans ((State.keeps_tachStarted _ b).trans (State.keeps_counted _ b))).queues q, rfl, ?_⟩
  rw [State.counted, State.bay_modBay_self, record, State.elapse_bay, third]
  rfl

/-- Settles O13. -/
theorem fourthMeasurementReachesSpeed : Obligations.FourthMeasurementReachesSpeed := by
  intro dt b s v q state measures inside third
  obtain ⟨u, step, only, matchedU, nowU, recordU⟩ := exec_tachPulse_fourth q state measures inside third
  have stateU : (u.bay b).state = .spinningUp := by rw [recordU]; exact state
  have governingU : u.governing b = s.governing b := State.governing_of_latched_eq only.store (by rw [recordU])
  obtain ⟨arbiter, scheduler, faults, now⟩ := State.spunUp_blocks stateU
  have record := u.spunUp_bay b
  rw [governingU, recordU, nowU, State.clock, nowU] at record
  have matched := State.spunUp_queuesMatch matchedU stateU
  have aloneW : s.Alone b (u.spunUp b) := only.toAlone.trans (u.alone_spunUp b)
  have raised := State.notes_spunUp u b
  generalize u.spunUp b = w at *
  have governing : w.governing b = s.governing b := State.governing_of_latched_eq aloneW.store (by rw [record]; rfl)
  have admission : w.admission b = s.admission b := State.admission_congr aloneW.settings (by rw [record]; rfl)
    (by rw [aloneW.motion]) (by rw [aloneW.supply])
  have spun : (w.bay b).state = .spun := by rw [record]; rfl
  have flag : (w.bay b).loadOnArrival = (s.bay b).loadOnArrival := by rw [record]; rfl
  have reached : (s.bay b).ReachedSpeed (w.bay b) v (w.governing b).surgeCost (s.now + dt) := by
    rw [record, governing]
    exact ⟨rfl, rfl, rfl, rfl, rfl, rfl, rfl, rfl, rfl, rfl, rfl, rfl, rfl⟩
  obtain ⟨aloneD, sameD, arbiterD, schedulerD⟩ := w.alone_tryDeferredLoad b
  have left : ((w.tryDeferredLoad b).bay b).state ≠ .queued := by
    rw [State.tryDeferredLoad_bay_self]
    rcases w.deferred_state b with same | ⟨-, loading⟩
    · rw [same, spun]; decide
    · rw [loading]; decide
  have result := (aloneW.trans aloneD).evaluated ((w.keeps_tryDeferredLoad b).queues matched) left
  have bay : ((w.tryDeferredLoad b).evaluate.lineUp).bay b = w.deferred b := by
    rw [result.bay, State.tryDeferredLoad_bay_self]
  have reachedT := reached.deferred
  rw [← bay, governing] at reachedT
  have asked (h : (s.bay b).loadOnArrival = true) : (w.bay b).state = .spun ∧ (w.bay b).loadOnArrival = true :=
    ⟨spun, flag.trans h⟩
  refine ⟨_, step, ?_, reachedT.attempts, reachedT.intent, reachedT.speed, reachedT.latched, reachedT.armed,
    reachedT.outside, reachedT.lastSpinUp, reachedT.spen, reachedT.gap, reachedT.tachFirst, reachedT.hold, reachedT.sticky,
    reachedT.pending, ?_, fun unset => ?_, fun set exposed => ?_, fun set accepted normal => ?_, fun set notExposed waits => ?_,
    fun none => ?_, result.pass, result.others, result.case, ?_, ?_⟩
  · rw [State.lineUp_now, State.evaluate_now, sameD.now, now, nowU]
  · exact ((State.event_tryDeferredLoad (D := fun _ => False) w b).notes (Notice.stable_events _) raised).evaluated
      (Notice.stable_events _)
  · have same : w.deferred b = w.bay b := if_neg fun ⟨_, set⟩ => by rw [flag, unset] at set; cases set
    rw [bay, same]
    exact ⟨spun, by rw [record]; rfl, flag.trans unset⟩
  · have same : w.deferred b = { w.bay b with loadOnArrival := false } := by
      rw [State.deferred, if_pos (asked set), if_pos (admission.trans exposed)]
    refine ⟨by rw [bay, same]; exact spun, by rw [bay, same], ?_⟩
    rw [State.tryDeferredLoad_of_exposed spun (flag.trans set) (admission.trans exposed)]
    exact (State.notes_addBayEvent _ b _).evaluated (Notice.stable_events _)
  · have same : w.deferred b = w.loadStarted b := by
      rw [State.deferred, if_pos (asked set), admission, accepted, if_neg (by decide),
        if_pos ⟨rfl, by rw [aloneW.transit]; exact normal⟩]
    rw [bay, same, State.loadStarted, governing, now, nowU]
    exact ⟨rfl, rfl, rfl, rfl⟩
  · have same : w.deferred b = w.bay b := by
      rw [State.deferred, if_pos (asked set), admission, if_neg notExposed, if_neg]
      rintro ⟨accepted, normal⟩
      rcases waits with not | safe
      · exact not accepted
      · rw [aloneW.transit, safe] at normal; cases normal
    rw [bay, same]
    exact ⟨spun, flag.trans set⟩
  · rw [← only.arbiter] at none
    obtain ⟨arbiterT, others⟩ := result.empty (by rw [arbiterD, arbiter]; exact none)
    rw [arbiterT, arbiterD, arbiter, only.arbiter, governingU]
    exact ⟨rfl, others⟩
  · rw [State.lineUp_scheduler, State.evaluate_scheduler, schedulerD, scheduler, only.scheduler]
  · rw [State.lineUp_faults, State.evaluate_faults, sameD.faults, faults, only.faults]

end Sys2Proof.Machine
end

section
/-! PROOFS. Speed losses (R14, R65, R67, R69, R73, R74, R139): what brings one, and what it makes of a SPUN bay and of a bay
in the loaded condition. -/

namespace Sys2Proof.Machine

/-! ### What brings a speed loss -/

/-- A state in which bay `b` has lost its speed, but for the report: its detector's fields aside, only the speed and the
pulse may have changed. -/
structure State.LosesSpeed (b : BayNo) (s u : State) (time : Nat) (speed pulse : Option Nat) : Prop
    extends s.PulseOnly b u where
  now : u.now = time
  bay : (u.bay b).disarm = { (s.bay b).disarm with speed := speed, lastPulse := pulse }
  queuesMatch : s.queuesMatch → u.queuesMatch

/-- The gap has ended, or the fourth measurement in a row lies outside the window. -/
def State.lossCause (s : State) (b : BayNo) (dt : Nat) (c : Instr) (time : Nat) (speed pulse : Option Nat) : Prop :=
  (∃ due, (s.bay b).timers.gap = some due ∧ c = .speedLossGapExpiry dt b ∧ time = max (s.now + dt) due ∧
      speed = (s.bay b).speed ∧ pulse = (s.bay b).lastPulse) ∨
    (∃ v, s.measures b (s.now + dt) v ∧ ¬ s.inSpeedWindow b v ∧ (s.bay b).outside = 3 ∧ c = .tachPulse dt b ∧
      time = s.now + dt ∧ speed = some v ∧ pulse = some (s.now + dt))

section

variable {b : BayNo} {s u : State} {dt time : Nat} {c : Instr} {speed pulse : Option Nat}

theorem exec_speedLoss (state : (s.bay b).state = .spun ∨ (s.bay b).state.inLoadedCondition = true)
    (armed : (s.bay b).armed = true) (cause : s.lossCause b dt c time speed pulse) :
    ∃ u, exec c s = .next (u.speedLoss b).lineUp ∧ s.LosesSpeed b u time speed pulse := by
  rcases cause with ⟨due, running, rfl, rfl, rfl, rfl⟩ | ⟨v, measures, outside, third, rfl, rfl, rfl, rfl⟩
  · refine ⟨(s.elapse dt).advanceTo due, ?_,
      ⟨⟨(s.alone_elapse b dt).trans (State.alone_advanceTo b _ _), rfl, rfl, rfl, rfl⟩, rfl, rfl, fun q => q⟩⟩
    have armedU : ((s.elapse dt).bay b).armed = true := armed
    have runningU : ((s.elapse dt).bay b).timers.gap = some due := running
    change Host.Outcome.next (State.lineUp (if ((s.elapse dt).bay b).armed then _ else _)) = _
    rw [if_pos armedU, runningU]
    rfl
  · have record := (s.elapse dt).gapStarted_bay b
    rw [State.measure_of_measures measures] at record
    refine ⟨((s.elapse dt).gapStarted b).missed b, ?_, ⟨(s.pulseOnly_gapStarted b dt).modBay _, rfl, ?_, fun q =>
      ((s.keeps_elapse dt).trans ((State.keeps_gapStarted _ b).trans (State.keeps_missed _ b))).queues q⟩⟩
    · have step : exec (.tachPulse dt b) s = .next ((s.elapse dt).pulse b).lineUp := rfl
      rw [State.pulse_of_armed (s := s.elapse dt) state armed, State.measure_of_measures measures, State.onMeasurement,
        State.countSpeedLoss_of_outside (fun inside => outside ((State.inSpeedWindow_congr
          ((s.elapse dt).gapStarted_governing b)).mp inside)), if_pos (by rw [record]; exact Nat.le_of_eq third.symm)] at step
      exact step
    · rw [State.missed, State.bay_modBay_self, record]
      rfl

/-! ### The report (R136) -/

/-- The loss reported, ahead of what the bay does by its state. -/
def State.lossReported (b : BayNo) (s : State) : State := (s.modBay b BayRec.disarm).reportBay .speedLoss b

theorem State.alone_lossReported (b : BayNo) (s : State) : s.Alone b (s.lossReported b) :=
  (s.alone_modBay b _).trans (State.alone_reportBay b _ _)

theorem State.lossReported_bay (s : State) (b : BayNo) : (s.lossReported b).bay b =
    (s.bay b).disarm.withReport .speedLoss (BayFault.speedLoss.maskedBy s.store.working.masks) := by
  rw [State.lossReported, State.reportBay_withReport, State.bay_modBay_self]
  rfl

theorem State.lossReported_governing (s : State) (b : BayNo) : (s.lossReported b).governing b = s.governing b :=
  State.governing_of_latched_eq (s.alone_lossReported b).store (by rw [State.lossReported_bay]; rfl)

theorem State.lossReported_blocks (s : State) (b : BayNo) : (s.lossReported b).now = s.now ∧
    (s.lossReported b).arbiter = s.arbiter ∧ (s.lossReported b).scheduler = s.scheduler ∧
      s.caseSetsKept (s.lossReported b) := by
  refine ⟨by simp [State.lossReported], by simp [State.lossReported], by simp [State.lossReported], ?_⟩
  exact State.reportBay_caseSets (s.modBay b BayRec.disarm) _ b

theorem State.speedLoss_of_spun (state : (s.bay b).state = .spun) : s.speedLoss b =
    if BayFault.speedLoss.maskedBy s.store.working.masks then (s.lossReported b).spinDownWith b .respin
    else (s.lossReported b).holdWith b false := by
  cases masked : BayFault.speedLoss.maskedBy s.store.working.masks with
  | true => simp only [State.speedLoss, state, State.answersHold_eq, masked]; rfl
  | false => simp only [State.speedLoss, state, State.answersHold_eq, masked]; rfl

/-- The loss of a bay in the loaded condition, reported and with the intent of the answer (R73, R74). -/
def State.lossAnswered (b : BayNo) (s : State) : State :=
  (s.lossReported b).modBay b (fun r => { r with intent := r.intent.afterSpeedLoss (s.answersHold .speedLoss) })

theorem Intent.afterSpeedLoss_eq (masked : Bool) (i : Intent) : i.afterSpeedLoss (!masked) =
    if masked then (if i = .none then .respin else i) else .holdAfter := by
  cases masked
  · rfl
  · cases i <;> rfl

theorem State.lossAnswered_bay (s : State) (b : BayNo) : (s.lossAnswered b).bay b =
    { (s.bay b).disarm.withReport .speedLoss (BayFault.speedLoss.maskedBy s.store.working.masks) with
      intent := if BayFault.speedLoss.maskedBy s.store.working.masks then
          (if (s.bay b).intent = .none then .respin else (s.bay b).intent) else .holdAfter } := by
  rw [State.lossAnswered, State.bay_modBay_self, State.lossReported_bay, State.answersHold_eq,
    ← Intent.afterSpeedLoss_eq]
  rfl

theorem State.alone_lossAnswered (b : BayNo) (s : State) : s.Alone b (s.lossAnswered b) :=
  (s.alone_lossReported b).trans (State.alone_modBay b (s.lossReported b) _)

theorem State.lossAnswered_governing (s : State) (b : BayNo) : (s.lossAnswered b).governing b = s.governing b :=
  State.governing_of_latched_eq (s.alone_lossAnswered b).store (by rw [State.lossAnswered_bay]; rfl)

theorem State.lossAnswered_blocks (s : State) (b : BayNo) : (s.lossAnswered b).now = s.now ∧
    (s.lossAnswered b).arbiter = s.arbiter ∧ (s.lossAnswered b).scheduler = s.scheduler ∧
      s.caseSetsKept (s.lossAnswered b) := s.lossReported_blocks b

theorem State.keeps_lossAnswered (s : State) (b : BayNo) : s.Keeps (s.lossAnswered b) :=
  ((s.keeps_disarm b).trans (State.keeps_reportBay _ .speedLoss b)).trans (State.keeps_intent _ b _)

theorem State.speedLoss_of_unloading (state : (s.bay b).state = .unloading) : s.speedLoss b = s.lossAnswered b := by
  simp only [State.speedLoss, state]
  rfl

theorem State.speedLoss_of_loaded
    (state : (s.bay b).state = .loading ∨ (s.bay b).state = .loaded ∨ (s.bay b).state = .parkQueued) :
    s.speedLoss b = ((s.lossAnswered b).emergencyPlacement b).startPass := by
  rcases state with state | state | state
  · simp only [State.speedLoss, state]; rfl
  · simp only [State.speedLoss, state]; rfl
  · simp only [State.speedLoss, state]; rfl

/-- A bay that is unloaded with its detector disarmed has it armed again by SPUN alone, with a fresh gap (R14). -/
theorem BayRec.unloadStarted_gap {r : BayRec} (off : r.armed = false) (mode : TransitMode) (p : Profile) (now : Nat)
    (armed : (r.unloadStarted mode p now).armed = true) : (r.unloadStarted mode p now).timers.gap = some (now + 500000) := by
  unfold BayRec.unloadStarted at armed ⊢
  split at armed
  · rename_i prk
    rw [if_pos prk]
    unfold BayRec.parked at armed ⊢
    split at armed
    · rfl
    · exact nomatch armed
    · exact nomatch armed
  · exact absurd (armed.symm.trans off) (by decide)

/-- The detector is disarmed by its report; where SPUN has armed it again in the same event, the gap runs from then. -/
theorem State.speedLoss_gap (q : s.queuesMatch) (armed : ((s.speedLoss b).bay b).armed = true) :
    ((s.speedLoss b).bay b).timers.gap = some (s.now + 500000) := by
  have reported : ((s.lossReported b).bay b).armed = false := by rw [State.lossReported_bay]; rfl
  have answered : ((s.lossAnswered b).bay b).armed = false := by rw [State.lossAnswered_bay]; rfl
  have loaded (state : (s.bay b).state = .loading ∨ (s.bay b).state = .loaded ∨ (s.bay b).state = .parkQueued) :
      ((s.speedLoss b).bay b).timers.gap = some (s.now + 500000) := by
    rw [State.speedLoss_of_loaded state] at armed ⊢
    have placed : (((s.lossAnswered b).emergencyPlacement b).bay b).armed = false := by
      rw [State.emergencyPlacement_bay_self]
      split
      · exact answered
      · exact answered
    have matched := ((s.keeps_lossAnswered b).trans (State.keeps_emergencyPlacement _ b)).queues q
    have now : ((s.lossAnswered b).emergencyPlacement b).now = s.now :=
      (State.sameCase_emergencyPlacement _ b).now.trans (s.lossAnswered_blocks b).1
    rcases (State.starts_startPass matched).bays b with same | ⟨-, started⟩
    · rw [same, placed] at armed
      exact nomatch armed
    · rw [started, now] at armed ⊢
      exact BayRec.unloadStarted_gap placed _ _ _ armed
  have off (same : ((s.speedLoss b).bay b).armed = false) : ((s.speedLoss b).bay b).timers.gap = some (s.now + 500000) :=
    absurd (armed.symm.trans same) (by decide)
  cases state : (s.bay b).state with
  | spun =>
    refine off ?_
    rw [State.speedLoss_of_spun state]
    split
    · rw [State.spinDownWith_bay_self]; rfl
    · rw [State.holdWith_bay_self]; rfl
  | loading => exact loaded (.inl state)
  | loaded => exact loaded (.inr (.inl state))
  | parkQueued => exact loaded (.inr (.inr state))
  | unloading => exact off (by rw [State.speedLoss_of_unloading state]; exact answered)
  | vacant | stopped | queued | spinningUp | spinningDown | diag | held | fenced =>
    refine off ?_
    have stands : s.speedLoss b = s.lossReported b := by simp only [State.speedLoss, state]; rfl
    rw [stands]
    exact reported

end

/-! ### A speed loss of a SPUN bay (R14, R139) -/

/-- Settles O15. -/
theorem speedLossOfASpunBay : Obligations.SpeedLossOfASpunBay := by
  have taken (dt : Nat) (b : BayNo) (s : State) : exec (.tachPulse dt b) s = .next ((s.elapse dt).pulse b).lineUp := rfl
  refine ⟨fun dt b s v state armed measures low => ?_, fun dt b s state armed => ⟨fun fresh => ?_, fun q => ?_⟩,
    fun dt b s c speed pulse state armed cause => ?_⟩
  · have only := s.pulseOnly_gapStarted b dt
    have step := taken dt b s
    rw [State.pulse_of_armed (s := s.elapse dt) state armed, State.measure_of_measures measures] at step
    have record := (s.elapse dt).gapStarted_bay b
    rw [State.measure_of_measures measures] at record
    have window : ((s.elapse dt).gapStarted b).inSpeedWindow b v ↔ s.inSpeedWindow b v :=
      State.inSpeedWindow_congr ((s.elapse dt).gapStarted_governing b)
    by_cases inside : s.inSpeedWindow b v
    · rw [State.onMeasurement, State.countSpeedLoss_of_inside (window.mpr inside)] at step
      obtain ⟨others, arbiter, scheduler, faults, case, silent⟩ := (only.modBay (fun r => { r with outside := 0 })).lineUp
      refine ⟨_, step, fun _ => ?_, fun not => absurd inside not, others, arbiter, scheduler, faults, case, silent⟩
      rw [State.lineUp_bay, State.bay_modBay_self, record]
      rfl
    · have under : ¬ 3 ≤ (((s.elapse dt).gapStarted b).bay b).outside := by
        rw [record]; exact Nat.not_le.mpr (low.resolve_left inside)
      rw [State.onMeasurement, State.countSpeedLoss_of_outside (fun h => inside (window.mp h)), if_neg under] at step
      have missed := State.PulseOnly.modBay only (fun r => { r with outside := r.outside + 1 })
      obtain ⟨others, arbiter, scheduler, faults, case, silent⟩ := missed.lineUp
      refine ⟨_, step, fun h => absurd h inside, fun _ => ?_, others, arbiter, scheduler, faults, case, silent⟩
      rw [State.lineUp_bay, State.missed, State.bay_modBay_self, record]
      rfl
  · have step := taken dt b s
    rw [State.pulse_of_armed (s := s.elapse dt) state armed, State.measure_of_fresh (s := s.elapse dt) fresh] at step
    have record := (s.elapse dt).gapStarted_bay b
    rw [State.measure_of_fresh (s := s.elapse dt) fresh] at record
    obtain ⟨others, arbiter, scheduler, faults, case, silent⟩ := (s.pulseOnly_gapStarted b dt).lineUp
    refine ⟨_, step, ?_, others, arbiter, scheduler, faults, case, silent⟩
    rw [State.onMeasurement, State.lineUp_bay, record]
    rfl
  · refine ⟨_, taken dt b s, ?_⟩
    rw [State.lineUp_bay, State.pulse_of_armed (s := s.elapse dt) state armed]
    have record := (s.elapse dt).gapStarted_bay b
    have matched := ((s.keeps_elapse dt).trans (State.keeps_gapStarted _ b)).queues q
    have now : ((s.elapse dt).gapStarted b).now = s.now + dt := rfl
    generalize (s.elapse dt).gapStarted b = u at *
    have gap : (u.bay b).timers.gap = some (s.now + dt + 500000) := by rw [record]; rfl
    unfold State.onMeasurement
    split
    · rename_i v _
      by_cases inside : u.inSpeedWindow b v
      · rw [State.countSpeedLoss_of_inside inside, State.bay_modBay_self]
        exact fun _ => gap
      · rw [State.countSpeedLoss_of_outside inside]
        split
        · rw [← now]
          exact State.speedLoss_gap (s := u.missed b) ((u.keeps_missed b).queues matched)
        · rw [State.missed, State.bay_modBay_self]
          exact fun _ => gap
    · exact fun _ => gap
  · obtain ⟨time, cause, onPulse, onGap⟩ : ∃ time, s.lossCause b dt c time speed pulse ∧
        (c = .tachPulse dt b → time = s.now + dt) ∧
        (∀ due, c = .speedLossGapExpiry dt b → (s.bay b).timers.gap = some due → time = max (s.now + dt) due) := by
      rcases cause with ⟨due, running, rfl, speed, pulse⟩ | ⟨v, measures, outside, third, rfl, speed, pulse⟩
      · refine ⟨_, .inl ⟨due, running, rfl, rfl, speed, pulse⟩, nofun, fun other _ here => ?_⟩
        rw [running] at here
        cases here
        rfl
      · exact ⟨_, .inr ⟨v, measures, outside, third, rfl, rfl, speed, pulse⟩, fun _ => rfl, nofun⟩
    obtain ⟨u, step, loses⟩ := exec_speedLoss (.inl state) armed cause
    have stateU : (u.bay b).state = .spun := (congrArg BayRec.state loses.bay).trans state
    rw [State.speedLoss_of_spun stateU, loses.store] at step
    have governing : (u.lossReported b).governing b = s.governing b := by
      rw [State.lossReported_governing]
      exact State.governing_of_latched_eq loses.store (congrArg BayRec.latched loses.bay :)
    have record := u.lossReported_bay b
    obtain ⟨now, arbiter, scheduler, sets⟩ := u.lossReported_blocks b
    rw [loses.bay, loses.store] at record
    rw [loses.now] at now
    have maskedU (m : Bool) (h : BayFault.speedLoss.maskedBy s.store.working.masks = m) :
        BayFault.speedLoss.maskedBy (u.modBay b BayRec.disarm).store.working.masks = m := by
      rw [State.modBay_store, loses.store]; exact h
    cases masked : BayFault.speedLoss.maskedBy s.store.working.masks with
    | true =>
      rw [masked] at step record
      rw [if_pos rfl] at step
      have alone := (loses.toAlone.trans (u.alone_lossReported b)).trans (State.alone_spinDownWith b _ .respin)
      have nowT : ((u.lossReported b).spinDownWith b .respin).lineUp.now = time := by
        simp [State.spinDownWith, State.setIntent, now]
      refine ⟨_, step, fun here => nowT.trans (onPulse here), fun due here running => nowT.trans (onGap due here running),
        fun _ => ⟨?_, ?_, ?_⟩, nofun, alone.lineUp.others, ?_, ?_, ?_, alone.lineUp.case⟩
      · rw [State.lineUp_bay, State.spinDownWith_bay_self, record, governing, now, nowT, BayRec.spunDown_eq]
        rfl
      · rw [← loses.faults, State.lossReported, State.reportBay_of_masked (maskedU _ masked)]
        simp [State.spinDownWith, State.setIntent]
      · refine State.nothingRaised_of_notices ?_
        rw [← loses.link, State.lossReported, State.reportBay_of_masked (maskedU _ masked)]
        rfl
      · simp [State.spinDownWith, State.setIntent, arbiter, loses.arbiter]
      · simp [State.spinDownWith, State.setIntent, scheduler, loses.scheduler]
      · rw [State.caseSetsKept, ← loses.faults]
        simpa [State.spinDownWith, State.setIntent, State.caseSetsKept] using sets
    | false =>
      rw [masked] at step record
      rw [if_neg (by decide)] at step
      have alone := (loses.toAlone.trans (u.alone_lossReported b)).trans (State.alone_holdWith b _ false)
      have nowT : ((u.lossReported b).holdWith b false).lineUp.now = time := by simp [State.holdWith, now]
      refine ⟨_, step, fun here => nowT.trans (onPulse here), fun due here running => nowT.trans (onGap due here running),
        nofun, fun _ => ⟨?_, ?_, ?_⟩, alone.lineUp.others, ?_, ?_, ?_, alone.lineUp.case⟩
      · rw [State.lineUp_bay, State.holdWith_bay_self, record, governing, now, nowT, BayRec.heldOff_eq]
        rfl
      · have attn : (u.lossReported b).faults.attn = true := State.reportBay_attn (maskedU _ masked) b
        simpa [State.holdWith] using attn
      · have reported := State.notes_reportBay (u.modBay b BayRec.disarm) b (maskedU _ masked)
        have held : ((u.lossReported b).holdWith b false).Notes (.bay b)
            (fun n => n.events &&& BayEvent.held.bit = BayEvent.held.bit) := State.notes_enter _ rfl
        exact (held.and ((State.event_holdWith (D := fun _ => False) (u.lossReported b) b false).notes
          (Notice.stable_faults _) reported)).lineUp
      · simp [State.holdWith, arbiter, loses.arbiter]
      · simp [State.holdWith, scheduler, loses.scheduler]
      · rw [State.caseSetsKept, ← loses.faults]
        simpa [State.holdWith, State.caseSetsKept] using sets

end Sys2Proof.Machine
end

section
/-! PROOFS. Starts, parks and placements at one bay (R59 to R71): late loads, parks, late unloads and a speed loss in the
loaded condition. -/

namespace Sys2Proof.Machine

section

variable {b : BayNo} {s t u x : State}

/-! ### Queues that a change of one bay leaves -/

/-- A bay that claims no place in a queue before and after its change. -/
theorem State.queuesMatch.change (q : s.queuesMatch) (others : s.othersKept t b)
    (before : (s.bay b).state ≠ .queued ∧ (s.bay b).state ≠ .parkQueued)
    (after : (t.bay b).state ≠ .queued ∧ (t.bay b).state ≠ .parkQueued) (arbiter : t.arbiter = s.arbiter)
    (waiting : t.scheduler.waiting = s.scheduler.waiting) : t.queuesMatch := by
  obtain ⟨nodup, queued, nodupWaiting, parked⟩ := s.queuesMatch_iff.mp q
  rw [State.queuesMatch_iff, arbiter, waiting]
  refine ⟨nodup, fun x => ?_, nodupWaiting, fun x => ?_⟩
  · by_cases here : x = b
    · subst here
      exact (queued x).trans ⟨fun h => absurd h before.1, fun h => absurd h after.1⟩
    · rw [others x here]; exact queued x
  · by_cases here : x = b
    · subst here
      exact (parked x).trans ⟨fun h => absurd h before.2, fun h => absurd h after.2⟩
    · rw [others x here]; exact parked x

theorem State.queuesMatch.not_waiting (q : s.queuesMatch) (state : (s.bay b).state ≠ .parkQueued) :
    b ∉ s.scheduler.emergency ∧ b ∉ s.scheduler.ordinary := by
  obtain ⟨-, -, -, parked⟩ := s.queuesMatch_iff.mp q
  have absent : b ∉ s.scheduler.waiting := fun mem => state ((parked b).mp mem)
  simpa [Scheduler.waiting] using absent

theorem State.queuesMatch.waits (q : s.queuesMatch) (state : (s.bay b).state = .parkQueued) :
    b ∈ s.scheduler.emergency ∨ b ∈ s.scheduler.ordinary := by
  obtain ⟨-, -, -, parked⟩ := s.queuesMatch_iff.mp q
  simpa [Scheduler.waiting] using (parked b).mpr state

/-! ### Parks, by the intent (R69, R70) -/

section

variable {r : BayRec} {mode : TransitMode} {p : Profile} {now : Nat}

theorem BayRec.parked_of_stops (h : r.intent = .stopAfter ∨ r.intent = .respin) :
    r.parked mode p now = r.spunDown r.intent p now := by
  rcases h with h | h
  · simp only [BayRec.parked, BayRec.afterPark, h]; rfl
  · simp only [BayRec.parked, BayRec.afterPark, h]; rfl

theorem BayRec.parked_of_none_normal (h : r.intent = .none) : r.parked .normal p now = r.enter .spun p now := by
  simp only [BayRec.parked, BayRec.afterPark, h]
  rfl

theorem BayRec.parked_of_none_safe (h : r.intent = .none) :
    r.parked .transitSafe p now = r.spunDown .stopAfter p now := by
  simp only [BayRec.parked, BayRec.afterPark, h]
  rfl

theorem BayRec.parked_of_hold (h : r.intent = .holdAfter) (pending : r.pending ≠ 0) : r.parked mode p now =
    BayRec.enter .held p now { r with spindleOn := r.armed && mode = .normal } := by
  simp only [BayRec.parked, BayRec.afterPark, h, if_neg pending]

theorem BayRec.parked_of_hold_empty (h : r.intent = .holdAfter) (pending : r.pending = 0) :
    r.parked mode p now = r.spunDown .stopAfter p now := by
  simp only [BayRec.parked, BayRec.afterPark, h, if_pos pending]
  rfl

theorem BayRec.unloadStarted_of_free (free : r.prk = false) : r.unloadStarted mode p now = r.enter .unloading p now := by
  rw [BayRec.unloadStarted, if_neg (by rw [free]; decide)]

theorem BayRec.unloadStarted_of_parked (parked : r.prk = true) :
    r.unloadStarted mode p now = (r.enter .unloading p now).parked mode p now := by
  rw [BayRec.unloadStarted, if_pos parked]

end

/-! ### What a park raises (R69) -/

/-- A park raises PARKED, and what the state entered raises. -/
theorem State.notes_leaveUnloading (s : State) (b : BayNo) : (s.leaveUnloading b).Notes (.bay b) (fun n =>
    n.events &&& BayEvent.parked.bit = BayEvent.parked.bit ∧
      ∀ e, entryEvent (s.bay b).state ((s.bay b).parked s.transit.mode (s.governing b) s.now).state = some e →
        n.events &&& e.bit = e.bit) := by
  have entered (t : State) (st : BayState) : (t.enterAfter .parked b st).Notes (.bay b) (fun n =>
      n.events &&& BayEvent.parked.bit = BayEvent.parked.bit ∧
        ∀ e, entryEvent (t.bay b).state st = some e → n.events &&& e.bit = e.bit) := by
    have first := State.notes_addBayEvent (t.enterQuietly b st) b .parked
    unfold State.enterAfter
    cases event : entryEvent (t.bay b).state st with
    | none => exact first.imp fun n parked => ⟨parked, nofun⟩
    | some e =>
      have added : ((t.enterQuietly b st).addBayEvent b .parked).Event (fun _ => True)
          (((t.enterQuietly b st).addBayEvent b .parked).addBayEvent b e) :=
        State.event_addBayEvent _ (.inr trivial)
      exact ((added.notes (Notice.stable_events _) first).and (State.notes_addBayEvent _ b e)).imp
        fun n ⟨parked, here⟩ => ⟨parked, fun e' same => Option.some.inj same ▸ here⟩
  unfold State.leaveUnloading
  rw [BayRec.parked_state]
  cases (s.bay b).afterPark s.transit.mode with
  | spun => exact entered s .spun
  | spinDown i => exact (entered (s.setIntent b i) .spinningDown).imp fun n ⟨parked, _⟩ => ⟨parked, nofun⟩
  | hold on =>
    exact (entered (s.modBay b (fun r => { r with spindleOn := on })) .held).imp
      fun n ⟨parked, events⟩ => ⟨parked, fun e held => events e held⟩

theorem Notice.stable_entry {results : Prop} (o : Option BayEvent) :
    Notice.Stable results (fun n => ∀ e, o = some e → n.events &&& e.bit = e.bit) :=
  fun n m grown same h e here => Notice.stable_events (results := results) _ n m grown same (h e here)

theorem State.notes_parkCore (s : State) (b : BayNo) : (s.parkCore b).Notes (.bay b) (fun n =>
    n.events &&& BayEvent.parked.bit = BayEvent.parked.bit ∧
      ∀ e, entryEvent (s.bay b).state ((s.bay b).parked s.transit.mode (s.governing b) s.now).state = some e →
        n.events &&& e.bit = e.bit) :=
  (State.event_markJolt (D := fun _ => False) (s.lowerUnloading.leaveUnloading b) .parked b).notes
    ((Notice.stable_events _).and (Notice.stable_entry _)) (State.notes_leaveUnloading s.lowerUnloading b)

/-! ### Starts -/

theorem State.startUnload_of_free (free : (s.bay b).prk = false) : s.startUnload b =
    (s.modScheduler (fun q => { q with unloading := q.unloading + 1 })).enter b .unloading := by
  rw [State.startUnload_eq]
  exact if_neg (by rw [free]; decide)

theorem State.startUnload_of_parked (parked : (s.bay b).prk = true) : s.startUnload b =
    ((s.modScheduler (fun q => { q with unloading := q.unloading + 1 })).enter b .unloading).parkCore b := by
  rw [State.startUnload_eq]
  exact if_pos parked

theorem State.startUnload_others (s : State) (b : BayNo) : s.othersKept (s.startUnload b) b :=
  fun _ h => State.startUnload_bay_ne s h

/-- A start with PRK asserted raises PARKED, and what the state entered raises (R65). -/
theorem State.notes_startUnload (parked : (s.bay b).prk = true) : (s.startUnload b).Notes (.bay b) (fun n =>
    n.events &&& BayEvent.parked.bit = BayEvent.parked.bit ∧
      ∀ e, entryEvent .unloading ((s.bay b).unloadStarted s.transit.mode (s.governing b) s.now).state = some e →
        n.events &&& e.bit = e.bit) := by
  have notes := State.notes_parkCore
    ((s.modScheduler (fun q => { q with unloading := q.unloading + 1 })).enter b .unloading) b
  rw [← State.parkCore_bay_self, ← State.startUnload_of_parked parked, State.startUnload_bay_self, State.enter_bay_self] at notes
  exact notes

theorem State.startPass_of_noHead (h : s.scheduler.popHead = none) : s.startPass = s := State.starts_of_none h _

theorem Scheduler.popHead_congr {q r : Scheduler} (emergency : r.emergency = q.emergency) (ordinary : r.ordinary = q.ordinary)
    (h : q.popHead = none) : r.popHead = none := by
  rw [Scheduler.popHead_eq_none] at h ⊢
  rwa [emergency, ordinary]

/-- The start pass of a queue with one entry, where there is room for it. -/
theorem State.startPass_of_sole (room : s.scheduler.unloading < s.settings.unloadWidth) {rest : Scheduler}
    (pop : s.scheduler.popHead = some (b, rest)) (sole : rest.popHead = none) :
    s.startPass = { s with scheduler := rest }.startUnload b := by
  rw [State.startPass_of_pop room pop]
  refine State.startPass_of_noHead ?_
  rw [State.startUnload_scheduler]
  split
  · exact sole
  · exact Scheduler.popHead_congr (q := rest) rfl rfl sole

/-! ### Emergency placements (R67) -/

/-- A LOADING or LOADED bay placed at the end of the emergency section. -/
theorem State.emergencyPlacement_of_loaded (state : (s.bay b).state = .loading ∨ (s.bay b).state = .loaded) :
    s.emergencyPlacement b =
      (s.modScheduler (fun q => { q with emergency := q.emergency ++ [b] })).enter b .parkQueued := by
  rcases state with state | state
  · simp only [State.emergencyPlacement, state]
  · simp only [State.emergencyPlacement, state]

/-- A placed bay stands in the emergency section alone; the count stands. -/
theorem State.emergencyPlacement_places (q : s.queuesMatch)
    (state : (s.bay b).state = .loading ∨ (s.bay b).state = .loaded ∨ (s.bay b).state = .parkQueued) :
    b ∈ (s.emergencyPlacement b).scheduler.emergency ∧ b ∉ (s.emergencyPlacement b).scheduler.ordinary ∧
      (s.emergencyPlacement b).scheduler.unloading = s.scheduler.unloading := by
  have loaded (h : (s.bay b).state = .loading ∨ (s.bay b).state = .loaded) :
      b ∈ (s.emergencyPlacement b).scheduler.emergency ∧ b ∉ (s.emergencyPlacement b).scheduler.ordinary ∧
        (s.emergencyPlacement b).scheduler.unloading = s.scheduler.unloading := by
    have absent := q.not_waiting (b := b) (by rcases h with h | h <;> rw [h] <;> decide)
    rw [State.emergencyPlacement_of_loaded h, State.enter_scheduler]
    exact ⟨List.mem_append_right _ List.mem_cons_self, absent.2, rfl⟩
  rcases state with state | state | state
  · exact loaded (.inl state)
  · exact loaded (.inr state)
  · obtain ⟨-, -, nodup, -⟩ := s.queuesMatch_iff.mp q
    simp only [State.emergencyPlacement, state]
    split
    · rename_i emergency
      have emergency : b ∈ s.scheduler.emergency := by simpa using emergency
      exact ⟨emergency, fun ordinary => (List.nodup_append.mp nodup).2.2 b emergency b ordinary rfl, rfl⟩
    · exact ⟨List.mem_append_right _ List.mem_cons_self, by simp [State.dropUnload], rfl⟩

theorem State.alone_emergencyPlacement (b : BayNo) (s : State) : s.Alone b (s.emergencyPlacement b) :=
  have same := s.sameCase_emergencyPlacement b
  ⟨fun _ h => State.emergencyPlacement_bay_ne s h, same.motion, same.supply, same.transit, same.store⟩

theorem State.emergencyPlacement_arbiter (s : State) (b : BayNo) : (s.emergencyPlacement b).arbiter = s.arbiter := by
  unfold State.emergencyPlacement
  split
  iterate 2 simp
  · split
    · rfl
    · rfl
  all_goals rfl

/-- The bay PARK_QUEUED and the unload queue empty: the state in which a placement into an empty queue starts at once. -/
def State.aboutToStart (b : BayNo) (s : State) : State :=
  ({ s with scheduler := { s.scheduler with emergency := [], ordinary := [] } } : State).enter b .parkQueued

theorem State.emergencyPlacement_starts (state : (s.bay b).state = .loading ∨ (s.bay b).state = .loaded)
    (room : s.scheduler.unloading < s.settings.unloadWidth) (emergency : s.scheduler.emergency = [])
    (ordinary : s.scheduler.ordinary = []) : (s.emergencyPlacement b).startPass = (s.aboutToStart b).startUnload b := by
  have scheduler : (s.emergencyPlacement b).scheduler = { s.scheduler with emergency := [b] } := by
    rw [State.emergencyPlacement_of_loaded state, State.enter_scheduler]
    simp [State.modScheduler, emergency]
  have pop : (s.emergencyPlacement b).scheduler.popHead = some (b, { s.scheduler with emergency := [], ordinary := [] }) := by
    rw [scheduler, Scheduler.popHead]
    simp [ordinary]
  rw [State.startPass_of_sole (by rw [scheduler, (s.alone_emergencyPlacement b).settings]; exact room) pop rfl,
    State.emergencyPlacement_of_loaded state]
  rfl

theorem State.aboutToStart_bay (s : State) (b : BayNo) :
    (s.aboutToStart b).bay b = (s.bay b).enter .parkQueued (s.governing b) s.now := by
  rw [State.aboutToStart, State.enter_bay_self]
  rfl

theorem State.alone_aboutToStart (b : BayNo) (s : State) : s.Alone b (s.aboutToStart b) := by
  unfold State.aboutToStart
  have emptied : s.Alone b { s with scheduler := { s.scheduler with emergency := [], ordinary := [] } } :=
    ⟨fun _ _ => rfl, rfl, rfl, rfl, rfl⟩
  exact emptied.trans (State.alone_enter b _ .parkQueued)

end

end Sys2Proof.Machine
end

section
/-! PROOFS. A speed loss in the loaded condition (R14, R65, R67, R69, R73, R74). -/

namespace Sys2Proof.Machine

/-- The intent that the answer to a speed loss leaves in the loaded condition (R73, R74). -/
def BayRec.lossIntent (masked : Bool) (r : BayRec) : Intent :=
  if masked then (if r.intent = .none then .respin else r.intent) else .holdAfter

/-- A state in which the speed loss of bay `b` is reported, and answered but for the placement. -/
structure State.AnswersLoss (b : BayNo) (s x : State) (time : Nat) (speed pulse : Option Nat) : Prop
    extends s.Alone b x where
  now : x.now = time
  bay : x.bay b =
    let masked := BayFault.speedLoss.maskedBy s.store.working.masks
    { (s.bay b).disarm.withReport .speedLoss masked with
      speed := speed, lastPulse := pulse, intent := (s.bay b).lossIntent masked }
  arbiter : x.arbiter = s.arbiter
  scheduler : x.scheduler = s.scheduler
  sets : s.caseSetsKept x
  queuesMatch : s.queuesMatch → x.queuesMatch

section

variable {b : BayNo} {s u x : State} {dt time : Nat} {c : Instr} {speed pulse : Option Nat}

theorem State.LosesSpeed.answers (loses : s.LosesSpeed b u time speed pulse) :
    s.AnswersLoss b (u.lossAnswered b) time speed pulse := by
  obtain ⟨now, arbiter, scheduler, sets⟩ := u.lossAnswered_blocks b
  have intent : (u.bay b).intent = (s.bay b).intent := (congrArg BayRec.intent loses.bay :)
  refine ⟨loses.toAlone.trans (u.alone_lossAnswered b), now.trans loses.now, ?_, arbiter.trans loses.arbiter,
    scheduler.trans loses.scheduler, ?_, fun q => (u.keeps_lossAnswered b).queues (loses.queuesMatch q)⟩
  · rw [State.lossAnswered_bay, loses.bay, loses.store, intent]
    rfl
  · rw [State.caseSetsKept, ← loses.faults]
    exact sets

theorem exec_lossAnswered (armed : (s.bay b).armed = true) (cause : s.lossCause b dt c time speed pulse)
    (state : (s.bay b).state.inLoadedCondition = true) : ∃ x, s.AnswersLoss b x time speed pulse ∧
      ((s.bay b).state = .unloading → exec c s = .next x.lineUp) ∧
      ((s.bay b).state = .loading ∨ (s.bay b).state = .loaded ∨ (s.bay b).state = .parkQueued →
        exec c s = .next ((x.emergencyPlacement b).startPass).lineUp) := by
  obtain ⟨u, step, loses⟩ := exec_speedLoss (.inr state) armed cause
  have stateU : (u.bay b).state = (s.bay b).state := (congrArg BayRec.state loses.bay :)
  refine ⟨_, loses.answers, fun unloading => ?_, fun loaded => ?_⟩
  · rw [step, State.speedLoss_of_unloading (stateU.trans unloading)]
  · rw [step, State.speedLoss_of_loaded (by rw [stateU]; exact loaded)]

theorem State.AnswersLoss.state (h : s.AnswersLoss b x time speed pulse) : (x.bay b).state = (s.bay b).state := by
  rw [h.bay]; rfl

theorem State.AnswersLoss.governing (h : s.AnswersLoss b x time speed pulse) : x.governing b = s.governing b :=
  State.governing_of_latched_eq h.store (by rw [h.bay]; rfl)

/-! ### Starts from PARK_QUEUED (R65) -/

theorem State.startUnload_blocks (s : State) (b : BayNo) : (s.startUnload b).supply = s.supply ∧
    (s.startUnload b).transit = s.transit ∧ (s.startUnload b).store = s.store := ⟨by simp, by simp, by simp⟩

theorem State.alone_startUnload (free : (s.bay b).prk = false) : s.Alone b (s.startUnload b) := by
  rw [State.startUnload_of_free free]
  exact (s.alone_modScheduler b _).trans (State.alone_enter b _ _)

/-- A bay that parks with its detector disarmed and an intent: its outputs are off in every case (R69, R70). -/
theorem BayRec.parked_disarmed {r : BayRec} (off : r.armed = false) (intent : r.intent ≠ .none) (mode : TransitMode)
    (p : Profile) (now : Nat) : (r.parked mode p now).speed = r.speed ∧ (r.parked mode p now).armed = false ∧
      (r.parked mode p now).hld = false ∧ (r.parked mode p now).spen = none ∧
      (r.parked mode p now).sticky = r.sticky ∧ (r.parked mode p now).pending = r.pending := by
  cases h : r.intent with
  | none => exact absurd h intent
  | stopAfter => rw [BayRec.parked_of_stops (.inl h)]; exact ⟨rfl, rfl, rfl, rfl, rfl, rfl⟩
  | respin => rw [BayRec.parked_of_stops (.inr h)]; exact ⟨rfl, rfl, rfl, rfl, rfl, rfl⟩
  | holdAfter =>
    by_cases pending : r.pending = 0
    · rw [BayRec.parked_of_hold_empty h pending]; exact ⟨rfl, rfl, rfl, rfl, rfl, rfl⟩
    · rw [BayRec.parked_of_hold h pending, off]; exact ⟨rfl, rfl, rfl, rfl, rfl, rfl⟩

theorem BayRec.lossIntent_ne_none (r : BayRec) (masked : Bool) : r.lossIntent masked ≠ .none := by
  unfold BayRec.lossIntent
  split
  · split
    · decide
    · rename_i other; exact other
  · decide

end

/-- Settles O16. -/
theorem speedLossOfALoadedBay : Obligations.SpeedLossOfALoadedBay := by
  intro dt b s c time speed pulse q armed cause
  refine ⟨fun unloading => ?_, fun loaded => ⟨fun full => ?_, fun room emergency ordinary => ?_⟩⟩
  · obtain ⟨x, answers, step, -⟩ := exec_lossAnswered armed cause (by rw [unloading]; rfl)
    have alone := answers.toAlone.lineUp
    refine ⟨_, step unloading, by simpa using answers.now, ?_, alone.others, by simpa using answers.arbiter,
      by simpa using answers.scheduler, ?_, alone.case⟩
    · rw [State.lineUp_bay, answers.bay]; rfl
    · simpa [State.caseSetsKept] using answers.sets
  all_goals
    have inLoaded : (s.bay b).state.inLoadedCondition = true := by rcases loaded with h | h | h <;> rw [h] <;> rfl
    obtain ⟨x, answers, -, step⟩ := exec_lossAnswered armed cause inLoaded
    replace step := step loaded
    have same := x.sameCase_emergencyPlacement b
    have alone := answers.toAlone.trans (x.alone_emergencyPlacement b)
  · obtain ⟨placed, absent, unloading⟩ := State.emergencyPlacement_places (answers.queuesMatch q)
      (by rw [answers.state]; exact loaded)
    rw [answers.scheduler] at unloading
    rw [State.startPass_of_full (by rw [alone.settings, unloading]; exact full)] at step
    have record := x.emergencyPlacement_bay_self b
    rw [answers.state, answers.bay] at record
    have kept : (x.emergencyPlacement b).lineUp.arbiter = s.arbiter ∧
        s.caseSetsKept (x.emergencyPlacement b).lineUp := by
      refine ⟨by rw [State.lineUp_arbiter, State.emergencyPlacement_arbiter, answers.arbiter], ?_⟩
      simpa [State.caseSetsKept, same.faults] using answers.sets
    by_cases entered : (s.bay b).state = .loading ∨ (s.bay b).state = .loaded
    · rw [if_pos entered] at record
      have notQueued : (s.bay b).state ≠ .parkQueued := by rcases entered with h | h <;> rw [h] <;> decide
      refine ⟨_, step, by simp [same.now, answers.now], ?_⟩
      simp only [State.lineUp_bay, State.lineUp_scheduler, record]
      exact ⟨rfl, rfl, rfl, rfl, rfl, rfl, rfl, fun _ => ⟨rfl, rfl⟩, fun h => absurd h notQueued, placed, absent, unloading,
        alone.lineUp.others, kept.1, kept.2, alone.lineUp.case⟩
    · rw [if_neg entered] at record
      have queued : (s.bay b).state = .parkQueued := (loaded.resolve_left (not_or.mp entered).1).resolve_left (not_or.mp entered).2
      refine ⟨_, step, by simp [same.now, answers.now], ?_⟩
      simp only [State.lineUp_bay, State.lineUp_scheduler, record]
      exact ⟨queued, trivial, trivial, rfl, rfl, rfl, rfl, fun h => absurd queued h, fun _ => ⟨rfl, rfl⟩, placed, absent, unloading,
        alone.lineUp.others, kept.1, kept.2, alone.lineUp.case⟩
  · have entered : (s.bay b).state = .loading ∨ (s.bay b).state = .loaded := by
      rcases loaded with h | h | h
      · exact .inl h
      · exact .inr h
      · have waits := q.waits h
        simp [emergency, ordinary] at waits
    rw [State.emergencyPlacement_starts (by rw [answers.state]; exact entered)
      (by rw [answers.scheduler, answers.toAlone.settings]; exact room) (by rw [answers.scheduler]; exact emergency)
      (by rw [answers.scheduler]; exact ordinary)] at step
    have record := x.aboutToStart_bay b
    rw [answers.bay] at record
    have before := answers.toAlone.trans (x.alone_aboutToStart b)
    have governing : (x.aboutToStart b).governing b = s.governing b :=
      State.governing_of_latched_eq before.store (by rw [record]; rfl)
    have scheduler : (x.aboutToStart b).scheduler = { s.scheduler with emergency := [], ordinary := [] } := by
      simp [State.aboutToStart, answers.scheduler]
    have now : ((x.aboutToStart b).startUnload b).lineUp.now = time := by simp [State.aboutToStart, answers.now]
    have arbiter : ((x.aboutToStart b).startUnload b).lineUp.arbiter = s.arbiter := by
      simp [State.aboutToStart, answers.arbiter]
    have sets : s.caseSetsKept ((x.aboutToStart b).startUnload b).lineUp := by
      simpa [State.aboutToStart, State.caseSetsKept] using answers.sets
    have nowY : (x.aboutToStart b).now = time := by simp [State.aboutToStart, answers.now]
    have started := State.startUnload_bay_self (x.aboutToStart b) b
    have queue := State.startUnload_scheduler (x.aboutToStart b) b
    have prk : ((x.aboutToStart b).bay b).prk = (s.bay b).prk := by rw [record]; rfl
    rw [governing, nowY] at started
    rw [prk, scheduler] at queue
    refine ⟨fun free => ?_, fun parked => ?_⟩
    · rw [BayRec.unloadStarted_of_free (prk.trans free), record] at started
      rw [if_neg (by rw [free]; decide)] at queue
      have alone := (before.trans (State.alone_startUnload (prk.trans free))).lineUp
      refine ⟨_, step, now, ?_⟩
      simp only [State.lineUp_bay, State.lineUp_scheduler, started, queue]
      exact ⟨rfl, rfl, rfl, rfl, rfl, rfl, rfl, rfl, trivial, trivial, trivial, alone.others, arbiter, sets, alone.case⟩
    · have raised := State.notes_startUnload (prk.trans parked)
      have stateT : ((x.aboutToStart b).bay b).unloadStarted (x.aboutToStart b).transit.mode
          ((x.aboutToStart b).governing b) (x.aboutToStart b).now = ((x.aboutToStart b).startUnload b).bay b :=
        (State.startUnload_bay_self _ b).symm
      rw [stateT] at raised
      rw [BayRec.unloadStarted_of_parked (prk.trans parked)] at started
      rw [if_pos parked] at queue
      have others : s.othersKept ((x.aboutToStart b).startUnload b).lineUp b := fun y other => by
        rw [State.lineUp_bay, State.startUnload_bay_ne _ other, before.others y other]
      obtain ⟨supply, transit, store⟩ := State.startUnload_blocks (x.aboutToStart b) b
      generalize unloading : ((x.aboutToStart b).bay b).enter .unloading (s.governing b) time = r at started
      rw [record] at unloading
      have intent : r.intent = (s.bay b).lossIntent (BayFault.speedLoss.maskedBy s.store.working.masks) := by
        rw [← unloading]; rfl
      obtain ⟨speed, off, hld, spen, sticky, pending⟩ := BayRec.parked_disarmed (r := r) (by rw [← unloading]; rfl)
        (by rw [intent]; exact BayRec.lossIntent_ne_none _ _) (x.aboutToStart b).transit.mode (s.governing b) time
      rw [← started] at speed off hld spen sticky pending
      refine ⟨_, step, now, (raised.imp fun n h => h.1).lineUp, ?_⟩
      simp only [State.lineUp_bay, State.lineUp_scheduler, queue]
      refine ⟨speed.trans ?_, off, hld, spen, sticky.trans ?_, pending.trans ?_, fun masked notHeld => ?_,
        fun masked => ?_, trivial, trivial, trivial, others, arbiter, sets, ?_, ?_, ?_⟩
      iterate 3 rw [← unloading]; rfl
      · have stops : r.intent = .stopAfter ∨ r.intent = .respin := by
          rw [intent, masked, BayRec.lossIntent, if_pos rfl]
          cases h : (s.bay b).intent with
          | none => exact .inr rfl
          | stopAfter => exact .inl rfl
          | respin => exact .inr rfl
          | holdAfter => exact absurd h notHeld
        rw [started, BayRec.parked_of_stops stops]
        exact ⟨rfl, intent⟩
      · have holds : r.intent = .holdAfter := by rw [intent, masked]; rfl
        have nonzero : r.pending ≠ 0 := by
          rw [← unloading]
          change (BayRec.withReport _ .speedLoss _).pending ≠ 0
          rw [masked]
          exact or_ne_zero_of_right BayFault.speedLoss.bit_ne_zero
        have held := BayRec.parked_of_hold (mode := (x.aboutToStart b).transit.mode) (p := s.governing b) (now := time)
          holds nonzero
        rw [← started] at held
        refine ⟨by rw [held]; rfl, ?_, by rw [held]; rfl, (raised.imp fun n h => h.2 .held ?_).lineUp⟩
        · rw [held, show r.armed = false from by rw [← unloading]; rfl]; rfl
        · rw [held]; rfl
      · rw [State.lineUp_supply, supply, before.supply]
      · rw [State.lineUp_transit, transit, before.transit]
      · rw [State.lineUp_store, store, before.store]

end Sys2Proof.Machine
end

section
/-! PROOFS. Late loads, parks and late unloads (R60, R64, R66, R69 to R72). -/

namespace Sys2Proof.Machine

section

variable {b : BayNo} {s t u : State}

/-! ### Ordinary unloads (R66) -/

theorem State.ordinaryUnload_of_room (room : s.scheduler.unloading < s.settings.unloadWidth)
    (emergency : s.scheduler.emergency = []) (ordinary : s.scheduler.ordinary = []) :
    s.ordinaryUnload b = s.startUnload b := by
  rw [State.ordinaryUnload, if_pos]
  simp [room, State.unloadQueueLength, emergency, ordinary]

/-- The bay at the tail of the ordinary section. -/
def State.ordinaryPlaced (b : BayNo) (s : State) : State :=
  (s.modScheduler (fun q => { q with ordinary := q.ordinary ++ [b] })).enter b .parkQueued

theorem State.alone_ordinaryPlaced (b : BayNo) (s : State) : s.Alone b (s.ordinaryPlaced b) :=
  (s.alone_modScheduler b _).trans (State.alone_enter b _ _)

theorem State.ordinaryUnload_of_full (full : s.settings.unloadWidth ≤ s.scheduler.unloading) :
    s.ordinaryUnload b = s.ordinaryPlaced b := by
  rw [State.ordinaryUnload, if_neg (by simp [Nat.not_lt.mpr full])]
  refine State.startPass_of_full ?_
  simpa [State.settings, State.modScheduler] using full

theorem BayRec.parked_kept (r : BayRec) (mode : TransitMode) (p : Profile) (now : Nat) :
    (r.parked mode p now).sticky = r.sticky ∧ (r.parked mode p now).pending = r.pending ∧
      (r.parked mode p now).latched = r.latched ∧ (r.parked mode p now).prk = r.prk ∧ (r.parked mode p now).hld = false ∧
      (r.parked mode p now).timers.unloadDeadline = none := by
  unfold BayRec.parked
  split
  · exact ⟨rfl, rfl, rfl, rfl, rfl, rfl⟩
  · exact ⟨rfl, rfl, rfl, rfl, rfl, rfl⟩
  · exact ⟨rfl, rfl, rfl, rfl, rfl, rfl⟩

/-! ### Late loads (R60) -/

/-- The late load reported, with the intent of the answer. -/
def State.lateAnswered (b : BayNo) (s : State) : State :=
  (s.reportBay .loadLate b).setIntent b (if s.answersHold .loadLate then .holdAfter else .none)

theorem State.alone_lateAnswered (b : BayNo) (s : State) : s.Alone b (s.lateAnswered b) := by
  unfold State.lateAnswered State.setIntent
  exact (s.alone_reportBay b .loadLate).trans (State.alone_modBay b _ _)

theorem State.lateAnswered_bay (s : State) (b : BayNo) : (s.lateAnswered b).bay b =
    { (s.bay b).withReport .loadLate (BayFault.loadLate.maskedBy s.store.working.masks) with
      intent := if BayFault.loadLate.maskedBy s.store.working.masks then .none else .holdAfter } := by
  rw [State.lateAnswered, State.setIntent, State.bay_modBay_self, State.reportBay_withReport, State.answersHold_eq]
  cases BayFault.loadLate.maskedBy s.store.working.masks <;> rfl

theorem State.lateAnswered_governing (s : State) (b : BayNo) : (s.lateAnswered b).governing b = s.governing b :=
  State.governing_of_latched_eq (s.alone_lateAnswered b).store (by rw [State.lateAnswered_bay]; rfl)

theorem State.lateAnswered_blocks (s : State) (b : BayNo) : (s.lateAnswered b).now = s.now ∧
    (s.lateAnswered b).arbiter = s.arbiter ∧ (s.lateAnswered b).scheduler = s.scheduler ∧
      s.caseSetsKept (s.lateAnswered b) := by
  refine ⟨by simp [State.lateAnswered, State.setIntent], by simp [State.lateAnswered, State.setIntent],
    by simp [State.lateAnswered, State.setIntent], s.reportBay_caseSets _ b⟩

theorem exec_loadLate {dt due : Nat} (state : (s.bay b).state = .loading) (running : (s.bay b).timers.load = some due) :
    ∃ u, s.At u (max (s.now + dt) due) ∧ exec (.loadTimerExpiry dt b) s =
      .next ((u.lateAnswered b).ordinaryUnload b).lineUp :=
  State.takes_due (timer := fun s => (s.bay b).timers.load) (f := State.loadLate b) (fun _ => rfl) state running

end

/-- Settles O20. -/
theorem lateLoadIsUnloaded : Obligations.LateLoadIsUnloaded := by
  intro dt b s due q loading running
  obtain ⟨u, atDue, step⟩ := exec_loadLate (dt := dt) loading running
  obtain ⟨now, arbiter, scheduler, sets⟩ := u.lateAnswered_blocks b
  have answered := (atDue.alone b).trans (u.alone_lateAnswered b)
  have record := u.lateAnswered_bay b
  have governing := (u.lateAnswered_governing b).trans (atDue.governing b)
  rw [atDue.bay, atDue.store] at record
  rw [atDue.now] at now
  rw [atDue.arbiter] at arbiter
  rw [atDue.scheduler] at scheduler
  rw [State.caseSetsKept, atDue.faults] at sets
  generalize u.lateAnswered b = x at *
  refine ⟨fun full => ?_, fun room emergency ordinary => ?_⟩
  · rw [State.ordinaryUnload_of_full (by rw [answered.settings, scheduler]; exact full)] at step
    have alone := (answered.trans (x.alone_ordinaryPlaced b)).lineUp
    have placed : (x.ordinaryPlaced b).bay b = (x.bay b).enter .parkQueued (x.governing b) x.now :=
      State.enter_bay_self _ _ _
    refine ⟨_, step, ?_⟩
    simp only [State.lineUp_bay, placed, record]
    refine ⟨rfl, rfl, rfl, rfl, rfl, rfl, rfl, rfl, ?_, alone.others, ?_, ?_, alone.case⟩
    · rw [State.lineUp_scheduler, State.ordinaryPlaced, State.enter_scheduler, State.modScheduler, scheduler]
    · rw [State.lineUp_arbiter, State.ordinaryPlaced, State.enter_arbiter]; exact arbiter
    · simpa [State.ordinaryPlaced, State.caseSetsKept] using sets
  · rw [State.ordinaryUnload_of_room (by rw [answered.settings, scheduler]; exact room)
      (by rw [scheduler]; exact emergency) (by rw [scheduler]; exact ordinary)] at step
    have prk : (x.bay b).prk = (s.bay b).prk := by rw [record]; rfl
    have others : s.othersKept (x.startUnload b).lineUp b := fun y other => by
      rw [State.lineUp_bay, State.startUnload_bay_ne _ other, answered.others y other]
    have arbiterT : (x.startUnload b).lineUp.arbiter = s.arbiter := by simp [arbiter]
    have setsT : s.caseSetsKept (x.startUnload b).lineUp := by simpa [State.caseSetsKept] using sets
    have queue := State.startUnload_scheduler x b
    have started := State.startUnload_bay_self x b
    rw [governing, now, answered.transit] at started
    rw [prk, scheduler] at queue
    have sections : (x.startUnload b).lineUp.scheduler.emergency = [] ∧ (x.startUnload b).lineUp.scheduler.ordinary = [] := by
      rw [State.lineUp_scheduler, queue]
      split
      · exact ⟨emergency, ordinary⟩
      · exact ⟨emergency, ordinary⟩
    cases here : (s.bay b).prk with
    | false =>
      rw [BayRec.unloadStarted_of_free (prk.trans here), record] at started
      rw [if_neg (by rw [here]; decide)] at queue
      refine ⟨_, step, ?_⟩
      simp only [State.lineUp_bay, started]
      refine ⟨rfl, rfl, others, arbiterT, setsT, sections.1, sections.2, fun _ => ⟨rfl, rfl, rfl, rfl, ?_⟩, nofun⟩
      rw [State.lineUp_scheduler, queue]
    | true =>
      have raised := State.notes_startUnload (prk.trans here)
      rw [← State.startUnload_bay_self] at raised
      rw [BayRec.unloadStarted_of_parked (prk.trans here)] at started
      rw [if_pos here] at queue
      generalize unloading : (x.bay b).enter .unloading (s.governing b) (max (s.now + dt) due) = r at started
      rw [record] at unloading
      obtain ⟨sticky, pending, -⟩ := r.parked_kept s.transit.mode (s.governing b) (max (s.now + dt) due)
      rw [← started] at sticky pending
      refine ⟨_, step, ?_⟩
      simp only [State.lineUp_bay]
      refine ⟨sticky.trans ?_, pending.trans ?_, others, arbiterT, setsT, sections.1, sections.2, nofun, fun _ =>
        ⟨(raised.imp fun n h => h.1).lineUp, ?_, fun masked normal => ?_, fun masked => ?_⟩⟩
      iterate 2 rw [← unloading]; rfl
      · rw [State.lineUp_scheduler, queue]
      · rw [started, normal, BayRec.parked_of_none_normal]
        · rfl
        · rw [← unloading]
          change (if _ then _ else _) = _
          rw [masked]; rfl
      · rw [started, BayRec.parked_of_hold]
        · rfl
        · rw [← unloading]
          change (if _ then _ else _) = _
          rw [masked]; rfl
        · rw [← unloading]
          change (BayRec.withReport _ .loadLate _).pending ≠ 0
          rw [masked]
          exact or_ne_zero_of_right BayFault.loadLate.bit_ne_zero

/-! ### The start pass that a bay leaves UNLOADING with (R64) -/

/-- A bay has left UNLOADING, and a start pass has run (R64). -/
structure State.PassedOn (b : BayNo) (s t : State) : Prop where
  ends : t.scheduler.emergency = [] ∧ t.scheduler.ordinary = [] ∨ s.settings.unloadWidth ≤ t.scheduler.unloading
  empty : s.scheduler.emergency = [] → s.scheduler.ordinary = [] →
    t.scheduler = { s.scheduler with unloading := s.scheduler.unloading - 1 } ∧ s.othersKept t b
  others : ∀ x, x ≠ b → (s.bay x).state ≠ .parkQueued → t.bay x = s.bay x

section

variable {b : BayNo} {s t u x : State}

theorem State.passedOn (q : x.queuesMatch) (others : s.othersKept x b) (store : x.store = s.store)
    (scheduler : x.scheduler = { s.scheduler with unloading := s.scheduler.unloading - 1 }) :
    s.PassedOn b x.startPass.lineUp where
  ends := by
    rw [State.lineUp_scheduler, ← show x.settings = s.settings from congrArg (·.working.case) store]
    exact x.startPass_ends
  empty emergency ordinary := by
    have none : x.scheduler.popHead = none := by
      rw [scheduler]
      exact Scheduler.popHead_eq_none.mpr ⟨emergency, ordinary⟩
    rw [State.startPass_of_noHead none]
    exact ⟨by rw [State.lineUp_scheduler, scheduler], fun y other => by rw [State.lineUp_bay, others y other]⟩
  others y other notQueued := by
    rw [State.lineUp_bay, State.startPass_bay q (by rw [others y other]; exact notQueued), others y other]

/-- A mark on the newest record is on it after the start pass too (R93). -/
theorem State.Marks.newest_of_marked {k : JoltMark} {m : State} {j : JoltRec} (newest : s.newestJolt = some j)
    (isOpen : j.isOpen = true) (awaits : j.awaits b = true) (motion : m.motion = (s.markJolt k b).motion) (h : m.Marks t) :
    ∃ j', t.newestJolt = some j' ∧ (j.mark k b).Marked j' := by
  obtain ⟨marked, here, first⟩ := State.newest_markJolt newest isOpen awaits k
  have same : m.newestJolt = some marked := by
    rw [← here, State.newestJolt, motion]
    rfl
  obtain ⟨later, there, second⟩ := h.newest same
  exact ⟨later, there, first.trans second⟩

/-! ### Parks (R69, R70) -/

/-- The park of an UNLOADING bay, ahead of its start pass. -/
def State.prkParked (b : BayNo) (s : State) : State := (s.modBay b (fun r => { r with prk := true })).parkCore b

theorem State.assertPrk_of_unloading (state : (s.bay b).state = .unloading) :
    s.assertPrk b = (s.prkParked b).startPass := by
  simp only [State.assertPrk, state]
  rfl

theorem State.prkParked_bay (s : State) (b : BayNo) : (s.prkParked b).bay b =
    BayRec.parked s.transit.mode (s.governing b) s.now { s.bay b with prk := true } := by
  rw [State.prkParked, State.parkCore_bay_self, State.bay_modBay_self, State.governing_modBay s b rfl]
  rfl

theorem State.prkParked_others (s : State) (b : BayNo) : s.othersKept (s.prkParked b) b := fun y other => by
  rw [State.prkParked, State.parkCore_bay_ne _ other, State.bay_modBay_ne _ _ other]

theorem State.keeps_prkParked (state : (s.bay b).state = .unloading) : s.Keeps (s.prkParked b) :=
  (s.keeps_idleBay (f := fun r => { r with prk := true }) ⟨rfl, rfl, rfl, rfl, id⟩ rfl).trans
    (State.keeps_parkCore (by rw [State.bay_modBay_self]; exact state))

theorem BayRec.parked_not_queued (r : BayRec) (mode : TransitMode) (p : Profile) (now : Nat) :
    (r.parked mode p now).state ≠ .parkQueued := by
  rw [BayRec.parked_state]
  split
  · decide
  · decide
  · decide

end

theorem State.modBay_modBay (s : State) (b : BayNo) (f g : BayRec → BayRec) :
    (s.modBay b f).modBay b g = s.modBay b (fun r => g (f r)) := by
  simp [State.modBay, State.bay]

theorem exec_park_of_unloading {b : BayNo} {s : State} (dt : Nat) (q : s.queuesMatch) (unloading : (s.bay b).state = .unloading) :
    ∃ t, exec (.park dt b) s = .next t ∧ t.now = s.now + dt ∧ s.PassedOn b t ∧
      t.bay b = BayRec.parked s.transit.mode (s.governing b) (s.now + dt) { s.bay b with prk := true } ∧
      t.noticed (.bay b) (fun n => n.events &&& BayEvent.parked.bit = BayEvent.parked.bit ∧
        ∀ e, entryEvent .unloading (t.bay b).state = some e → n.events &&& e.bit = e.bit) ∧
      (∀ j, s.newestJolt = some j → j.isOpen = true → j.awaits b = true →
        ∃ j', t.newestJolt = some j' ∧ inSet j'.parked b = true) ∧
      t.arbiter = s.arbiter ∧ t.faults = s.faults ∧ t.supply = s.supply ∧ t.transit = s.transit ∧ t.store = s.store := by
  have step : exec (.park dt b) s = .next ((s.elapse dt).prkParked b).startPass.lineUp :=
    congrArg (fun t => Host.Outcome.next (State.lineUp t)) (State.assertPrk_of_unloading (s := s.elapse dt) unloading)
  have record := (s.elapse dt).prkParked_bay b
  have matched := ((s.keeps_elapse dt).trans (State.keeps_prkParked (s := s.elapse dt) unloading)).queues q
  have passed : s.PassedOn b ((s.elapse dt).prkParked b).startPass.lineUp :=
    State.passedOn matched ((s.elapse dt).prkParked_others b) (by simp [State.prkParked]) (by simp [State.prkParked])
  have bay : ((s.elapse dt).prkParked b).startPass.lineUp.bay b = _ :=
    (State.lineUp_bay _ b).trans ((State.startPass_bay matched (by rw [record]; exact BayRec.parked_not_queued _ _ _ _)).trans
      record)
  have raised := State.notes_parkCore ((s.elapse dt).modBay b (fun r => { r with prk := true })) b
  rw [← State.parkCore_bay_self, ← State.prkParked, record, State.bay_modBay_self] at raised
  refine ⟨_, step, by simp [State.prkParked], passed, bay, ?_, fun j newest isOpen awaits => ?_, by simp [State.prkParked],
    by simp [State.prkParked], by simp [State.prkParked], by simp [State.prkParked], by simp [State.prkParked]⟩
  · rw [bay]
    have notes := (State.event_startPass (D := fun _ => False) ((s.elapse dt).prkParked b)).notes
      ((Notice.stable_events _).and (Notice.stable_entry _)) raised
    rw [show ((s.elapse dt).bay b).state = .unloading from unloading] at notes
    exact notes.lineUp
  · have motion : ((s.elapse dt).prkParked b).motion = ((s.elapse dt).markJolt .parked b).motion := by
      rw [State.prkParked, State.parkCore, State.markJolt_motion, State.markJolt_motion, State.leaveUnloading_motion,
        State.clock, State.leaveUnloading_now]
      rfl
    obtain ⟨j', here, marked⟩ := State.Marks.newest_of_marked (s := s.elapse dt) newest isOpen awaits motion
      (((s.elapse dt).prkParked b).marks_startPass.trans (.of_eq (State.lineUp_motion _)))
    exact ⟨j', here, marked.parked b (by simp [JoltRec.mark])⟩

/-- Settles O21. -/
theorem parkFollowsTheIntent : Obligations.ParkFollowsTheIntent := by
  intro dt b s
  refine ⟨fun q unloading => ?_, fun other => ?_⟩
  · obtain ⟨t, step, now, passed, bay, raised, marked, arbiter, faults, supply, transit, store⟩ :=
      exec_park_of_unloading dt q unloading
    generalize asserted : ({ s.bay b with prk := true } : BayRec) = r at bay
    obtain ⟨sticky, pending, latched, prk, hld, deadline⟩ := r.parked_kept s.transit.mode (s.governing b) (s.now + dt)
    have intent : r.intent = (s.bay b).intent := by rw [← asserted]
    have held : r.pending = (s.bay b).pending := by rw [← asserted]
    rw [← bay] at sticky pending latched prk hld deadline
    have stops {i : Intent} (h : t.bay b = r.spunDown i (s.governing b) (s.now + dt)) : (t.bay b).state = .spinningDown ∧
        (t.bay b).intent = i ∧ (t.bay b).spen = none ∧ (t.bay b).timers.stopGap = some (s.now + dt + 1000000) := by
      rw [h, BayRec.spunDown_eq]
      exact ⟨rfl, rfl, rfl, rfl⟩
    refine ⟨t, step, now, prk.trans (by rw [← asserted]), deadline, hld, State.noticed_imp raised fun _ h => h.1,
      latched.trans (by rw [← asserted]), sticky.trans (by rw [← asserted]), pending.trans held, fun none normal => ?_,
      fun none safe => ?_, fun either => ?_, fun holds nonzero => ?_, fun holds zero => ?_, passed.ends, passed.empty,
      marked, passed.others, arbiter, faults, supply, transit, store⟩
    · rw [normal, BayRec.parked_of_none_normal (intent.trans none)] at bay
      refine ⟨by rw [bay]; rfl, by rw [bay]; rfl, by rw [bay]; rfl, State.noticed_imp raised fun _ h => h.2 .spun ?_⟩
      rw [bay]; rfl
    · rw [safe, BayRec.parked_of_none_safe (intent.trans none)] at bay
      obtain ⟨state, intent, spen, -⟩ := stops bay
      exact ⟨state, intent, spen⟩
    · rw [BayRec.parked_of_stops (by rw [intent]; exact either), intent] at bay
      exact stops bay
    · rw [BayRec.parked_of_hold (intent.trans holds) (by rw [held]; exact nonzero)] at bay
      refine ⟨by rw [bay]; rfl, by rw [bay]; rfl, by rw [bay]; rfl, ?_, ?_, State.noticed_imp raised fun _ h => h.2 .held ?_⟩
      · rw [bay, ← asserted]; simp [BayRec.enter]
      · rw [bay]; simp [BayRec.enter, BayState.spenOnEntry]; split <;> simp_all
      · rw [bay]; rfl
    · rw [BayRec.parked_of_hold_empty (intent.trans holds) (by rw [held]; exact zero)] at bay
      exact ⟨(stops bay).1, (stops bay).2.1⟩
  · have taken : ∃ f : BayRec → BayRec, exec (.park dt b) s = .next ((s.elapse dt).modBay b f).lineUp ∧
        f (s.bay b) = { s.bay b with
          prk := true,
          timers := if (s.bay b).state = .loading then { (s.bay b).timers with settle := none }
            else (s.bay b).timers } := by
      have step : exec (.park dt b) s = .next ((s.elapse dt).assertPrk b).lineUp := rfl
      unfold State.assertPrk at step
      rw [show (s.elapse dt).bay b = s.bay b from rfl] at step
      cases state : (s.bay b).state with
      | unloading => exact absurd state other
      | loading =>
        rw [state] at step
        dsimp only at step
        rw [State.modBay_modBay] at step
        exact ⟨_, step, rfl⟩
      | vacant | stopped | queued | spinningUp | spun | loaded | parkQueued | spinningDown | diag | held | fenced =>
        rw [state] at step
        exact ⟨_, step, rfl⟩
    obtain ⟨f, step, record⟩ := taken
    have alone := ((s.alone_elapse b dt).trans (State.alone_modBay b (s.elapse dt) f)).lineUp
    refine ⟨_, step, ?_, alone.others, by simp, by simp, by simp, alone.case, State.nothingRaised_of_notices rfl⟩
    rw [State.lineUp_bay, State.bay_modBay_self]
    exact record

/-! ### Late unloads (R71) -/

section

variable {b : BayNo} {s t u : State}

/-- The late unload reported: the count has fallen and the record is marked. -/
def State.lateReported (b : BayNo) (s : State) : State := (s.lowerUnloading.markJolt .late b).reportBay .unloadLate b

/-- The bay after a late unload, ahead of the start pass: FENCED where the class is masked, else HELD. -/
def State.lateLeft (b : BayNo) (s : State) : State :=
  if BayFault.unloadLate.maskedBy s.store.working.masks then (s.lateReported b).enter b .fenced
  else (s.lateReported b).holdWith b false

theorem State.unloadLate_eq (s : State) (b : BayNo) : s.unloadLate b = (s.lateLeft b).startPass := by
  unfold State.unloadLate State.lateLeft
  rw [State.answersHold_eq]
  cases BayFault.unloadLate.maskedBy s.store.working.masks <;> rfl

theorem State.lateReported_bay (s : State) (b : BayNo) : (s.lateReported b).bay b =
    (s.bay b).withReport .unloadLate (BayFault.unloadLate.maskedBy s.store.working.masks) := by
  rw [State.lateReported, State.reportBay_withReport, State.markJolt_bay, State.markJolt_store]
  rfl

theorem State.lateReported_others (s : State) (b : BayNo) : s.othersKept (s.lateReported b) b := fun y other => by
  rw [State.lateReported, State.reportBay_bay_ne _ _ other, State.markJolt_bay]
  rfl

theorem State.lateReported_governing (s : State) (b : BayNo) : (s.lateReported b).governing b = s.governing b :=
  State.governing_of_latched_eq (by simp [State.lateReported]) (by rw [State.lateReported_bay]; rfl)

theorem State.lateLeft_bay (s : State) (b : BayNo) : (s.lateLeft b).bay b =
    if BayFault.unloadLate.maskedBy s.store.working.masks then
      ((s.bay b).withReport .unloadLate true).enter .fenced (s.governing b) s.now
    else ((s.bay b).withReport .unloadLate false).heldOff (s.governing b) s.now := by
  have now : (s.lateReported b).now = s.now := by simp [State.lateReported]
  have record := s.lateReported_bay b
  unfold State.lateLeft
  cases masked : BayFault.unloadLate.maskedBy s.store.working.masks with
  | true => rw [masked] at record; rw [if_pos rfl, if_pos rfl, State.enter_bay_self, record, State.lateReported_governing, now]
  | false =>
    rw [masked] at record
    rw [if_neg (by decide), if_neg (by decide), State.holdWith_bay_self, record, State.lateReported_governing, now]

theorem State.lateLeft_others (s : State) (b : BayNo) : s.othersKept (s.lateLeft b) b := fun y other => by
  unfold State.lateLeft
  split
  · rw [State.enter_bay_ne _ _ other, s.lateReported_others b y other]
  · rw [(State.alone_holdWith b _ false).others y other, s.lateReported_others b y other]

theorem State.lateLeft_blocks (s : State) (b : BayNo) : (s.lateLeft b).now = s.now ∧ (s.lateLeft b).arbiter = s.arbiter ∧
    (s.lateLeft b).scheduler = { s.scheduler with unloading := s.scheduler.unloading - 1 } ∧
    (s.lateLeft b).supply = s.supply ∧ (s.lateLeft b).transit = s.transit ∧ (s.lateLeft b).store = s.store ∧
    (s.lateLeft b).motion = (s.markJolt .late b).motion ∧ (s.lateLeft b).faults = (s.lateReported b).faults := by
  have motion : (s.lowerUnloading.markJolt .late b).motion = (s.markJolt .late b).motion := by
    rw [State.markJolt_motion, State.markJolt_motion]
    rfl
  unfold State.lateLeft
  split
  · simp [State.lateReported, motion]
    rfl
  · simp [State.lateReported, State.holdWith, motion]
    rfl

theorem exec_unloadLate {dt due : Nat} (state : (s.bay b).state = .unloading)
    (running : (s.bay b).timers.unloadDeadline = some due) : ∃ u, s.At u (max (s.now + dt) due) ∧
      exec (.unloadDeadlineExpiry dt b) s = .next (u.unloadLate b).lineUp :=
  State.takes_due (timer := fun s => (s.bay b).timers.unloadDeadline) (f := State.unloadLate b) (fun _ => rfl) state running

end

/-- Settles O22. -/
theorem lateUnloadFencesOrHolds : Obligations.LateUnloadFencesOrHolds := by
  intro dt b s due q unloading running
  obtain ⟨u, atDue, step⟩ := exec_unloadLate (dt := dt) unloading running
  rw [State.unloadLate_eq] at step
  have record := u.lateLeft_bay b
  obtain ⟨now, arbiter, scheduler, supply, transit, store, motion, faults⟩ := u.lateLeft_blocks b
  have others := u.lateLeft_others b
  have notQueued : ((u.lateLeft b).bay b).state ≠ .queued ∧ ((u.lateLeft b).bay b).state ≠ .parkQueued := by
    rw [record]
    split
    · exact ⟨by simp, by simp⟩
    · exact ⟨by simp [BayRec.heldOff], by simp [BayRec.heldOff]⟩
  have matched : (u.lateLeft b).queuesMatch := (atDue.queuesMatch q).change others
    (by rw [atDue.bay, unloading]; exact ⟨by decide, by decide⟩) notQueued arbiter (by rw [scheduler]; rfl)
  have passed : s.PassedOn b (u.lateLeft b).startPass.lineUp := State.passedOn matched
    (fun y other => by rw [others y other, atDue.bay]) (store.trans atDue.store) (by rw [scheduler, atDue.scheduler])
  have bay : (u.lateLeft b).startPass.lineUp.bay b = (u.lateLeft b).bay b := by
    rw [State.lineUp_bay, State.startPass_bay matched notQueued.2]
  have nowT : (u.lateLeft b).startPass.lineUp.now = max (s.now + dt) due := by simp [now, atDue.now]
  have faultsT : (u.lateLeft b).startPass.lineUp.faults = (u.lateReported b).faults := by simp [faults]
  have raised {e : BayEvent} (h : (u.lateLeft b).Notes (.bay b) (fun n => n.events &&& e.bit = e.bit)) :
      (u.lateLeft b).startPass.lineUp.bayRaised b e :=
    ((State.event_startPass (D := fun _ => False) (u.lateLeft b)).notes (Notice.stable_events _) h).lineUp
  rw [atDue.bay, atDue.store, atDue.governing, atDue.now] at record
  refine ⟨_, step, nowT, fun masked => ⟨?_, raised ?_, ?_⟩, fun unmasked => ⟨?_, raised ?_, ?_⟩, passed.ends, passed.empty,
    fun j newest isOpen awaits => ?_, passed.others, by simp [arbiter, atDue.arbiter], ?_, by simp [supply, atDue.supply],
    by simp [transit, atDue.transit], by simp [store, atDue.store]⟩
  · rw [bay, record, if_pos masked, nowT]
    rfl
  · rw [State.lateLeft, atDue.store, if_pos masked]
    exact State.notes_enter _ rfl
  · rw [faultsT, State.lateReported, State.reportBay_of_masked (by simpa [atDue.store] using masked)]
    simp [State.lowerUnloading, atDue.faults]
  · rw [bay, record, if_neg (by rw [unmasked]; decide), BayRec.heldOff_eq, nowT]
  · rw [State.lateLeft, atDue.store, if_neg (by rw [unmasked]; decide)]
    exact State.notes_enter _ rfl
  · rw [faultsT, State.lateReported]
    exact State.reportBay_attn (by simpa [atDue.store] using unmasked) b
  · have newestU : u.newestJolt = some j := by rw [State.newestJolt, atDue.motion]; exact newest
    obtain ⟨j', here, marked⟩ := State.Marks.newest_of_marked newestU isOpen awaits motion
      ((u.lateLeft b).marks_startPass.trans (.of_eq (State.lineUp_motion _)))
    exact ⟨j', here, marked.late b (by simp [JoltRec.mark])⟩
  · have sets := State.reportBay_caseSets (u.lowerUnloading.markJolt .late b) .unloadLate b
    rw [State.caseSetsKept, faultsT, ← atDue.faults]
    simpa [State.lateReported, State.caseSetsKept] using sets

end Sys2Proof.Machine
end

section
/-! PROOFS. Removal (R9, R10, R41). -/

namespace Sys2Proof.Machine

section

variable {b : BayNo} {s t u r : State}

/-! ### The sequencer's part -/

/-- The record of a bay whose drive is gone (R9, R159). -/
def BayRec.gone (now : Nat) (r : BayRec) : BayRec :=
  { r with
    state := .vacant, entryTime := caseClock now, presence := false, speed := none, latched := none, intent := .none,
    loadOnArrival := false, lastPulse := none, armed := false, spen := none, hld := false,
    timers := { Timers.stopped with debounce := some (now + 500000) },
    winding := if r.state = .diag then .aborted else r.winding,
    windingCurrent := if r.state = .diag then none else r.windingCurrent }

/-- The record that a removal leaves (R9, R10). -/
def BayRec.removed (masked : Bool) (now : Nat) (r : BayRec) : BayRec :=
  if r.state = .stopped ∨ r.state = .fenced then r.gone now else (r.gone now).withReport .pulled masked

theorem State.alone_vacate (b : BayNo) (s : State) : s.Alone b (s.vacate b) := by
  unfold State.vacate
  dsimp only
  split
  · exact ((s.alone_modBay b _).trans (State.alone_modBay b _ _)).trans (State.alone_enterAfter b _ _ _)
  · exact (s.alone_modBay b _).trans (State.alone_enter b _ _)

theorem State.vacate_blocks (s : State) (b : BayNo) : (s.vacate b).now = s.now ∧ (s.vacate b).arbiter = s.arbiter ∧
    (s.vacate b).scheduler = s.scheduler ∧ (s.vacate b).faults = s.faults := by
  unfold State.vacate
  dsimp only
  split
  · simp
  · simp

theorem State.vacate_bay (mark : s.now % 1000 = 0) (b : BayNo) : (s.vacate b).bay b = (s.bay b).gone s.now := by
  have whole : s.now / 1000 * 1000 = s.now := Nat.div_mul_cancel (Nat.dvd_of_mod_eq_zero mark)
  unfold State.vacate
  dsimp only
  split
  · rename_i diag
    rw [State.enterAfter_bay_self, State.bay_modBay_self, State.bay_modBay_self]
    simp [BayRec.enter, BayRec.gone, Timers.onEntry, whole, diag, BayState.dropsLatched, BayState.clearsIntent,
      BayState.clearsLoadOnArrival, BayState.armedOnEntry, BayState.spenOnEntry, BayState.hldOnEntry, debounceLength, ms]
  · rename_i other
    rw [State.enter_bay_self, State.bay_modBay_self]
    simp [BayRec.enter, BayRec.gone, Timers.onEntry, whole, other, BayState.dropsLatched, BayState.clearsIntent,
      BayState.clearsLoadOnArrival, BayState.armedOnEntry, BayState.spenOnEntry, BayState.hldOnEntry, debounceLength, ms]

/-- What the entry into VACANT names (R9, R159). -/
theorem State.notes_vacate (s : State) (b : BayNo) : (s.vacate b).Notes (.bay b) (fun n =>
    n.events &&& BayEvent.vacant.bit = BayEvent.vacant.bit ∧ ((s.bay b).state = .diag →
      n.events &&& BayEvent.testDone.bit = BayEvent.testDone.bit ∧ n.testDone = .aborted)) := by
  unfold State.vacate
  dsimp only
  split
  · refine (State.notes_enterAfter_testDone (e := .vacant) _ rfl).imp fun n ⟨done, result, vacant⟩ =>
      ⟨vacant, fun _ => ⟨done, ?_⟩⟩
    rw [result, State.bay_modBay_self]
  · rename_i other
    exact (State.notes_enter (e := .vacant) _ rfl).imp fun n vacant => ⟨vacant, fun diag => absurd diag other⟩

theorem BayState.reportsPulled_iff (st : BayState) : st.reportsPulled = true ↔ st ≠ .stopped ∧ st ≠ .vacant ∧ st ≠ .fenced := by
  cases st <;> simp [BayState.reportsPulled]

theorem State.alone_leaveBay (b : BayNo) (s : State) (st : BayState) : s.Alone b (s.leaveBay st b) := by
  unfold State.leaveBay
  split
  · exact (s.alone_vacate b).trans (State.alone_reportBay b _ _)
  · exact s.alone_vacate b

theorem State.leaveBay_blocks (s : State) (st : BayState) (b : BayNo) : (s.leaveBay st b).now = s.now ∧
    (s.leaveBay st b).arbiter = s.arbiter ∧ (s.leaveBay st b).scheduler = s.scheduler ∧
      s.caseSetsKept (s.leaveBay st b) := by
  obtain ⟨now, arbiter, scheduler, faults⟩ := s.vacate_blocks b
  unfold State.leaveBay
  split
  · have sets := (s.vacate b).reportBay_caseSets .pulled b
    rw [State.caseSetsKept, faults] at sets
    exact ⟨by simp [now], by simp [arbiter], by simp [scheduler], sets⟩
  · exact ⟨now, arbiter, scheduler, by simp [State.caseSetsKept, faults]⟩

theorem State.leaveBay_bay (mark : s.now % 1000 = 0) (occupied : (s.bay b).state ≠ .vacant) :
    (s.leaveBay (s.bay b).state b).bay b =
      (s.bay b).removed (BayFault.pulled.maskedBy s.store.working.masks) s.now := by
  unfold State.leaveBay BayRec.removed
  split
  · rename_i pulled
    obtain ⟨stopped, -, fenced⟩ := (BayState.reportsPulled_iff _).mp pulled
    rw [if_neg (not_or.mpr ⟨stopped, fenced⟩), State.reportBay_withReport, State.vacate_bay mark,
      (s.alone_vacate b).store]
  · rename_i quiet
    rw [BayState.reportsPulled_iff] at quiet
    have stands : (s.bay b).state = .stopped ∨ (s.bay b).state = .fenced := Classical.byContradiction fun other =>
      quiet ⟨(not_or.mp other).1, occupied, (not_or.mp other).2⟩
    rw [if_pos stands, State.vacate_bay mark]

/-- What a removal names (R9, R10, R159). -/
def Notice.tellsRemoval (st : BayState) (masked : Bool) (n : Notice) : Prop :=
  n.events &&& BayEvent.vacant.bit = BayEvent.vacant.bit ∧
    (st = .diag → n.events &&& BayEvent.testDone.bit = BayEvent.testDone.bit ∧ n.testDone = .aborted) ∧
    (st ≠ .stopped → st ≠ .fenced → masked = false → n.faults &&& BayFault.pulled.bit = BayFault.pulled.bit)

theorem Notice.stable_tellsRemoval (st : BayState) (masked : Bool) :
    Notice.Stable False (Notice.tellsRemoval st masked) :=
  fun n m grown same ⟨vacant, test, pulled⟩ =>
    ⟨Notice.stable_events (results := False) _ n m grown same vacant,
      fun diag => ⟨Notice.stable_events (results := False) _ n m grown same (test diag).1,
        Notice.stable_testDone _ n m grown same (test diag).2⟩,
      fun stopped fenced unmasked => Notice.stable_faults (results := False) _ n m grown same (pulled stopped fenced unmasked)⟩

theorem State.notes_leaveBay (occupied : (s.bay b).state ≠ .vacant) : (s.leaveBay (s.bay b).state b).Notes (.bay b)
    (Notice.tellsRemoval (s.bay b).state (BayFault.pulled.maskedBy s.store.working.masks)) := by
  have vacated : (s.vacate b).Notes (.bay b) (Notice.tellsRemoval (s.bay b).state true) :=
    (s.notes_vacate b).imp fun n ⟨vacant, test⟩ => ⟨vacant, test, fun _ _ unmasked => nomatch unmasked⟩
  unfold State.leaveBay
  split
  · have reported := (State.event_reportBay (D := fun _ => False) (s.vacate b) .pulled b).notes
      (Notice.stable_tellsRemoval _ _) vacated
    cases masked : BayFault.pulled.maskedBy s.store.working.masks with
    | true => exact reported
    | false =>
      have pulled := (s.vacate b).notes_reportBay b (c := .pulled) (by rw [(s.alone_vacate b).store]; exact masked)
      exact (reported.and pulled).imp fun n ⟨⟨vacant, test, _⟩, fault⟩ => ⟨vacant, test, fun _ _ _ => fault⟩
  · rename_i quiet
    rw [BayState.reportsPulled_iff] at quiet
    exact vacated.imp fun n ⟨vacant, test, _⟩ =>
      ⟨vacant, test, fun stopped fenced => absurd ⟨stopped, occupied, fenced⟩ quiet⟩

/-! ### The three that take a removal (R10) -/

/-- The blocks that take a removal: the sequencer, the Motion Monitor and the Unload Scheduler. -/
def State.removalPart (st : BayState) (b : BayNo) : Fin 3 → State → State
  | 0 => State.leaveBay st b
  | 1 => State.markJolt .pulled b
  | 2 => State.passAfterRemoval st

/-- The claim released and the bay VACANT. -/
def State.withdrawn (b : BayNo) (s : State) : State := (s.releaseClaim b).leaveBay (s.bay b).state b

/-- The removal taken by all, ahead of the evaluation. -/
def State.taken (b : BayNo) (s : State) : State :=
  (s.releaseClaim b).inFreeOrder ([0, 1, 2].map (State.removalPart (s.bay b).state b))

theorem State.remove_eq (s : State) (b : BayNo) : s.remove b = (s.taken b).evaluateAfterRemoval (s.bay b).state := rfl

/-- But for the link, the listed order. -/
theorem State.taken_eq (s : State) (b : BayNo) : s.taken b =
    { ((s.withdrawn b).markJolt .pulled b).passAfterRemoval (s.bay b).state with
      link := (s.taken b).link, freeTick := (s.taken b).freeTick } := rfl

theorem State.alone_withdrawn (b : BayNo) (s : State) : s.Alone b (s.withdrawn b) := by
  have released : s.Alone b (s.releaseClaim b) := ⟨fun x _ => by simp, by simp, by simp, by simp, by simp⟩
  exact released.trans (State.alone_leaveBay b _ _)

theorem State.withdrawn_blocks (s : State) (b : BayNo) : (s.withdrawn b).now = s.now ∧
    (s.withdrawn b).arbiter = (s.releaseClaim b).arbiter ∧ (s.withdrawn b).scheduler = (s.releaseClaim b).scheduler ∧
      s.caseSetsKept (s.withdrawn b) := by
  obtain ⟨now, arbiter, scheduler, sets⟩ := (s.releaseClaim b).leaveBay_blocks (s.bay b).state b
  refine ⟨now.trans (by simp), arbiter, scheduler, ?_⟩
  rw [State.caseSetsKept, State.releaseClaim_faults] at sets
  exact sets

theorem State.withdrawn_bay (mark : s.now % 1000 = 0) (occupied : (s.bay b).state ≠ .vacant) :
    (s.withdrawn b).bay b = (s.bay b).removed (BayFault.pulled.maskedBy s.store.working.masks) s.now := by
  have record := State.leaveBay_bay (s := s.releaseClaim b) (b := b) (by simpa using mark) (by simpa using occupied)
  simpa [State.withdrawn] using record

theorem State.withdrawn_queuesMatch (q : s.queuesMatch) (b : BayNo) : (s.withdrawn b).queuesMatch :=
  (s.keeps_leaveBay _ b).queues q

/-- The sequencer names the removal whatever the order, as the start pass starts none but PARK_QUEUED bays. -/
theorem State.notes_taken (q : s.queuesMatch) (occupied : (s.bay b).state ≠ .vacant) : (s.taken b).Notes (.bay b)
    (Notice.tellsRemoval (s.bay b).state (BayFault.pulled.maskedBy s.store.working.masks)) := by
  refine State.notes_inFreeOrder_map (a := 0)
    (P := fun t => t.bay b = s.bay b ∧ t.store = s.store ∧ ((s.bay b).state = .unloading → t.queuesMatch))
    (by decide) (by decide) (fun x t other ⟨bay, store, matched⟩ => ?_) (fun t ⟨bay, store, _⟩ => ?_)
    (fun x t other has => ?_) ⟨by simp, by simp, fun unloading => ?_⟩
  · match x with
    | 0 => exact absurd rfl other
    | 1 =>
      exact ⟨by rw [State.removalPart, State.markJolt_bay, bay], by rw [State.removalPart, State.markJolt_store, store],
        fun unloading => (t.keeps_markJolt _ b).queues (matched unloading)⟩
    | 2 =>
      refine ⟨?_, ?_, fun unloading => (t.keeps_passAfterRemoval _).queues (matched unloading)⟩
      · rw [State.removalPart, State.passAfterRemoval]
        split
        · rename_i unloading
          rw [State.startPass_bay (matched unloading) (by rw [bay, unloading]; decide), bay]
        · exact bay
      · rw [State.removalPart, State.passAfterRemoval]
        split
        · rw [State.startPass_store, store]
        · exact store
  · rw [← bay, ← store]
    exact State.notes_leaveBay (by rw [bay]; exact occupied)
  · match x with
    | 0 => exact absurd rfl other
    | 1 => exact (t.event_markJolt (D := fun _ => False) .pulled b).notes (Notice.stable_tellsRemoval _ _) has
    | 2 => exact (t.event_passAfterRemoval (D := fun _ => False) _).notes (Notice.stable_tellsRemoval _ _) has
  · rw [State.releaseClaim_of_unloading unloading]
    exact q

theorem State.passAfterRemoval_of_other {st : BayState} (h : st ≠ .unloading) (s : State) : s.passAfterRemoval st = s :=
  if_neg h

theorem State.evaluateAfterRemoval_eq (s : State) (st : BayState) : s.evaluateAfterRemoval st =
    if st = .queued ∨ st = .spinningUp ∨ st = .diag then s.evaluate else s := by
  cases st <;> simp [State.evaluateAfterRemoval]

theorem State.taken_bay (q : s.queuesMatch) (mark : s.now % 1000 = 0) (occupied : (s.bay b).state ≠ .vacant) :
    (s.taken b).bay b = (s.bay b).removed (BayFault.pulled.maskedBy s.store.working.masks) s.now := by
  have matched := ((s.withdrawn b).keeps_markJolt .pulled b).queues (State.withdrawn_queuesMatch q b)
  have record : ((s.withdrawn b).markJolt .pulled b).bay b = _ :=
    (State.markJolt_bay _ _ _ _).trans (State.withdrawn_bay mark occupied)
  have vacant : (((s.withdrawn b).markJolt .pulled b).bay b).state = .vacant := by
    rw [record, BayRec.removed]
    split
    · rfl
    · rfl
  change (((s.withdrawn b).markJolt .pulled b).passAfterRemoval (s.bay b).state).bay b = _
  rw [← record, State.passAfterRemoval]
  split
  · rw [State.startPass_bay matched (by rw [vacant]; decide)]
  · rfl

theorem State.taken_blocks (s : State) (b : BayNo) : (s.taken b).now = s.now ∧
    (s.taken b).arbiter = (s.releaseClaim b).arbiter ∧ s.caseSetsKept (s.taken b) ∧ (s.taken b).supply = s.supply ∧
      (s.taken b).transit = s.transit ∧ (s.taken b).store = s.store := by
  obtain ⟨now, arbiter, -, sets⟩ := s.withdrawn_blocks b
  have alone := s.alone_withdrawn b
  rw [s.taken_eq b]
  unfold State.passAfterRemoval
  split
  · exact ⟨by simp [now], by simp [arbiter], by simpa [State.caseSetsKept] using sets, by simp [alone.supply],
      by simp [alone.transit], by simp [alone.store]⟩
  · exact ⟨by simp [now], by simp [arbiter], by simpa [State.caseSetsKept] using sets, by simp [alone.supply],
      by simp [alone.transit], by simp [alone.store]⟩

theorem State.marks_taken (s : State) (b : BayNo) : ((s.withdrawn b).markJolt .pulled b).Marks (s.taken b) := by
  have passed : ((s.withdrawn b).markJolt .pulled b).Marks
      (((s.withdrawn b).markJolt .pulled b).passAfterRemoval (s.bay b).state) := by
    unfold State.passAfterRemoval
    split
    · exact State.marks_startPass _
    · exact .of_eq rfl
  exact passed.trans (.of_eq rfl)

theorem State.taken_of_other (other : (s.bay b).state ≠ .unloading) : s.othersKept (s.taken b) b ∧
    (s.taken b).scheduler = (s.releaseClaim b).scheduler := by
  obtain ⟨-, -, scheduler, -⟩ := s.withdrawn_blocks b
  rw [s.taken_eq b, State.passAfterRemoval_of_other other]
  refine ⟨fun x hx => ?_, by rw [← scheduler]; exact State.markJolt_scheduler _ _ _⟩
  exact (State.markJolt_bay _ _ _ _).trans ((s.alone_withdrawn b).others x hx)

theorem State.taken_of_unloading (q : s.queuesMatch) (unloading : (s.bay b).state = .unloading) :
    ((s.taken b).scheduler.emergency = [] ∧ (s.taken b).scheduler.ordinary = [] ∨
      s.settings.unloadWidth ≤ (s.taken b).scheduler.unloading) ∧
    (s.scheduler.emergency = [] → s.scheduler.ordinary = [] →
      (s.taken b).scheduler.unloading = s.scheduler.unloading - 1) := by
  obtain ⟨-, -, scheduler, -⟩ := s.withdrawn_blocks b
  have alone := s.alone_withdrawn b
  rw [State.releaseClaim_of_unloading unloading] at scheduler
  have passed : s.PassedOn b ((s.withdrawn b).markJolt .pulled b).startPass.lineUp := State.passedOn
    (((s.withdrawn b).keeps_markJolt .pulled b).queues (State.withdrawn_queuesMatch q b))
    (fun x hx => (State.markJolt_bay _ _ _ _).trans (alone.others x hx))
    (by simp [alone.store]) (by rw [State.markJolt_scheduler, scheduler]; rfl)
  have same : (s.taken b).scheduler = ((s.withdrawn b).markJolt .pulled b).startPass.lineUp.scheduler := by
    rw [s.taken_eq b, State.passAfterRemoval, if_pos unloading, State.lineUp_scheduler]
  rw [same]
  exact ⟨passed.ends, fun emergency ordinary => by rw [(passed.empty emergency ordinary).1]⟩

theorem State.keeps_taken (s : State) (b : BayNo) : s.Keeps (s.taken b) := by
  have turned := ((s.keeps_leaveBay (s.bay b).state b).trans (State.keeps_markJolt _ .pulled b)).trans
    (State.keeps_passAfterRemoval _ (s.bay b).state)
  exact turned.trans (State.keeps_of_blocks rfl rfl rfl rfl rfl rfl rfl rfl)

theorem BayRec.removed_state (r : BayRec) (masked : Bool) (now : Nat) : (r.removed masked now).state = .vacant := by
  unfold BayRec.removed
  split
  · rfl
  · rfl

theorem State.remove_bay (q : s.queuesMatch) (mark : s.now % 1000 = 0) (occupied : (s.bay b).state ≠ .vacant) :
    (s.remove b).bay b = (s.bay b).removed (BayFault.pulled.maskedBy s.store.working.masks) s.now := by
  have record := State.taken_bay q mark occupied
  rw [State.remove_eq, State.evaluateAfterRemoval_eq]
  split
  · rw [State.evaluate_bay ((s.keeps_taken b).queues q) (by rw [record, BayRec.removed_state]; decide), record]
  · exact record

theorem State.remove_blocks (s : State) (b : BayNo) : (s.remove b).now = s.now ∧ s.caseSetsKept (s.remove b) ∧
    (s.remove b).supply = s.supply ∧ (s.remove b).transit = s.transit ∧ (s.remove b).store = s.store ∧
      (s.remove b).motion = (s.taken b).motion ∧ (s.remove b).scheduler = (s.taken b).scheduler := by
  obtain ⟨now, -, sets, supply, transit, store⟩ := s.taken_blocks b
  rw [State.remove_eq, State.evaluateAfterRemoval_eq]
  split
  · simp [now, supply, transit, store, State.caseSetsKept]
    exact sets
  · exact ⟨now, sets, supply, transit, store, rfl, rfl⟩

theorem State.notes_remove (q : s.queuesMatch) (occupied : (s.bay b).state ≠ .vacant) : (s.remove b).Notes (.bay b)
    (Notice.tellsRemoval (s.bay b).state (BayFault.pulled.maskedBy s.store.working.masks)) :=
  (State.event_evaluateAfterRemoval (D := fun _ => False) _ _).notes (Notice.stable_tellsRemoval _ _)
    (State.notes_taken q occupied)

theorem State.releaseClaim_arbiter_of_other (queued : (s.bay b).state ≠ .queued) (spinningUp : (s.bay b).state ≠ .spinningUp)
    (diag : (s.bay b).state ≠ .diag) : (s.releaseClaim b).arbiter = s.arbiter := by
  unfold State.releaseClaim
  split
  · exact absurd ‹_› spinningUp
  · exact absurd ‹_› diag
  · exact absurd ‹_› queued
  all_goals rfl

theorem State.remove_of_other (queued : (s.bay b).state ≠ .queued) (spinningUp : (s.bay b).state ≠ .spinningUp)
    (diag : (s.bay b).state ≠ .diag) : s.remove b = s.taken b := by
  rw [State.remove_eq, State.evaluateAfterRemoval_eq, if_neg (by simp [queued, spinningUp, diag])]

theorem State.remove_of_claim (claim : (s.bay b).state = .queued ∨ (s.bay b).state = .spinningUp ∨ (s.bay b).state = .diag) :
    s.remove b = (s.taken b).evaluate := by
  rw [State.remove_eq, State.evaluateAfterRemoval_eq, if_pos claim]

/-- A deasserted sample moves on to the next mark (log 3). -/
theorem State.at_mark (s : State) (dt : Nat) :
    s.At ((s.elapse dt).toMark readingPeriod 0) ((s.now + dt + 999) / 1000 * 1000) :=
  ⟨by simp [markAt_reading], rfl, rfl, rfl, rfl, rfl, rfl, rfl, rfl, rfl, rfl, rfl⟩

theorem exec_remove {dt : Nat} {c : Instr} (occupied : (s.bay b).state ≠ .vacant)
    (sample : c = .removal dt b ∨ c = .presenceDebounceRestart dt b) :
    ∃ u, s.At u ((s.now + dt + 999) / 1000 * 1000) ∧ exec c s = .next (u.remove b).lineUp := by
  refine ⟨_, s.at_mark dt, ?_⟩
  rw [exec_removal_sample sample s, State.presDeasserted]
  exact congrArg (fun t => Host.Outcome.next (State.lineUp t)) (if_neg occupied)

end

/-- Settles O11. -/
theorem removalVacatesTheBay : Obligations.RemovalVacatesTheBay := by
  intro dt b s c q occupied sample
  obtain ⟨u, at', step⟩ := exec_remove occupied sample
  have qU := at'.queuesMatch q
  have occupiedU : (u.bay b).state ≠ .vacant := by rw [at'.bay]; exact occupied
  have record := State.remove_bay (b := b) qU (by rw [at'.now]; exact Nat.mul_mod_left _ _) occupiedU
  have matched := (u.keeps_remove b).queues qU
  obtain ⟨now, sets, supply, transit, store, motion, scheduler⟩ := u.remove_blocks b
  have vacant : ((u.remove b).bay b).state = .vacant := by rw [record, BayRec.removed_state]
  have raised := (State.notes_remove qU occupiedU).lineUp
  have arbiter : (u.taken b).arbiter = (u.releaseClaim b).arbiter := (u.taken_blocks b).2.1
  rw [at'.bay, at'.store, at'.now] at record
  rw [at'.bay, at'.store] at raised
  rw [at'.now] at now
  have stands (queued : (s.bay b).state ≠ .queued) (spinningUp : (s.bay b).state ≠ .spinningUp)
      (diag : (s.bay b).state ≠ .diag) : u.remove b = u.taken b ∧ (u.releaseClaim b).arbiter = s.arbiter := by
    rw [← at'.bay] at queued spinningUp diag
    exact ⟨State.remove_of_other queued spinningUp diag,
      (State.releaseClaim_arbiter_of_other queued spinningUp diag).trans at'.arbiter⟩
  refine ⟨_, step, by rw [State.lineUp_now, now], ?_, fun e mem => ?_, ?_, ?_, fun diag => ?_, raised,
    fun j newest isOpen awaits => ?_, ?_, ?_, ?_, ?_, fun queued spinningUp diag => ?_,
    fun queued spinningUp diag unloading => ?_, fun grant empty => ?_, fun claim => ?_, fun unloading => ?_,
    fun unloading => ?_⟩
  · rw [State.lineUp_bay, State.lineUp_now, now, record]
    rfl
  · obtain ⟨-, queued, -, -⟩ := State.queuesMatch_iff _ |>.mp matched
    rw [State.lineUp_arbiter] at mem
    intro here
    exact absurd (vacant.symm.trans ((queued b).mp (List.mem_map.mpr ⟨e, mem, here⟩))) (by decide)
  · rw [State.lineUp_scheduler]
    exact (matched.not_waiting (by rw [vacant]; decide)).1
  · rw [State.lineUp_scheduler]
    exact (matched.not_waiting (by rw [vacant]; decide)).2
  · have diagU : (u.bay b).state = .diag := by rw [at'.bay]; exact diag
    have gone : ((u.taken b).bay b).state ≠ .queued := by
      rw [State.taken_bay qU (by rw [at'.now]; exact Nat.mul_mod_left _ _) occupiedU, BayRec.removed_state]
      decide
    rw [State.lineUp_arbiter, State.remove_of_claim (.inr (.inr diagU))]
    refine State.evaluate_holder ((u.keeps_taken b).queues qU) gone ?_
    rw [arbiter, State.releaseClaim_holder, if_pos diagU]
  · have newestU : u.newestJolt = some j := by rw [State.newestJolt, at'.motion]; exact newest
    have marked : ((u.withdrawn b).markJolt .pulled b).motion = (u.markJolt .pulled b).motion := by
      rw [State.markJolt_motion, State.markJolt_motion, (u.alone_withdrawn b).motion, State.clock,
        (u.withdrawn_blocks b).1]
      rfl
    obtain ⟨j', here, marks⟩ := State.Marks.newest_of_marked newestU isOpen awaits marked
      ((u.marks_taken b).trans (.of_eq ((State.lineUp_motion _).trans motion)))
    exact ⟨j', here, marks.pulled b (by simp [JoltRec.mark])⟩
  · rw [State.caseSetsKept, ← at'.faults, State.lineUp_faults]
    exact sets
  · rw [State.lineUp_supply, supply, at'.supply]
  · rw [State.lineUp_transit, transit, at'.transit]
  · rw [State.lineUp_store, store, at'.store]
  · obtain ⟨same, kept⟩ := stands queued spinningUp diag
    rw [State.lineUp_arbiter, same, arbiter, kept]
  · obtain ⟨same, -⟩ := stands queued spinningUp diag
    intro x other
    rw [State.lineUp_bay, same, (State.taken_of_other (by rw [at'.bay]; exact unloading)).1 x other, at'.bay]
  · have grantU : (u.bay b).state = .spinningUp ∨ (u.bay b).state = .diag := by rw [at'.bay]; exact grant
    have released : (u.releaseClaim b).arbiter = { s.arbiter with
        held := s.arbiter.held - (if (s.bay b).state = .diag then 1 else (s.governing b).surgeCost)
        grants := s.arbiter.grants - 1
        converter := if (s.bay b).state = .diag then { holder := none, offsetDue := none, offset := none }
          else s.arbiter.converter } := by
      rcases grantU with spinningUp | diag
      · have notDiag : (s.bay b).state ≠ .diag := by rw [← at'.bay, spinningUp]; decide
        rw [State.releaseClaim_of_spinningUp spinningUp, State.releaseGrant_of_spinningUp spinningUp, at'.arbiter,
          at'.governing, if_neg notDiag, if_neg notDiag]
      · have diagS : (s.bay b).state = .diag := by rw [← at'.bay, diag]
        rw [State.releaseClaim_of_diag diag, State.releaseGrant_of_diag diag, at'.arbiter, if_pos diagS, if_pos diagS]
    rw [State.lineUp_arbiter, State.remove_of_claim (.inr grantU), State.evaluate_of_empty, arbiter, released]
    rw [arbiter, released]
    exact empty
  · rw [State.pass_lineUp, State.remove_of_claim (by rw [at'.bay]; exact claim), State.evaluate_pass]
  · rw [State.lineUp_scheduler, scheduler, ← at'.settings]
    exact (State.taken_of_unloading qU (by rw [at'.bay]; exact unloading)).1
  · intro emergency ordinary
    rw [State.lineUp_scheduler, scheduler, ← at'.scheduler]
    exact (State.taken_of_unloading qU (by rw [at'.bay]; exact unloading)).2 (by rw [at'.scheduler]; exact emergency)
      (by rw [at'.scheduler]; exact ordinary)

end Sys2Proof.Machine
end

section
/-! PROOFS. Samples (R79, R80, R82, R83, R85 to R87): what each stage of a sample leaves of the Motion Monitor. -/

namespace Sys2Proof.Machine

section

variable {s t u : State} {a : Accel}

/-! ### What jolts, sweeps and exposures leave of the monitor -/

/-- The Motion Monitor stands but for its jolt records. -/
structure State.JoltsOnly (s t : State) : Prop where
  now : t.now = s.now
  cls : t.motion.cls = s.motion.cls
  dwellStart : t.motion.dwellStart = s.motion.dwellStart
  lost : t.motion.lost = s.motion.lost
  missing : t.motion.missing = s.motion.missing
  nextSample : t.motion.nextSample = s.motion.nextSample
  ring : t.motion.ring = s.motion.ring
  lastSamples : t.motion.lastSamples = s.motion.lastSamples
  supply : t.supply = s.supply
  transit : t.transit = s.transit
  store : t.store = s.store

theorem State.JoltsOnly.refl (s : State) : s.JoltsOnly s := ⟨rfl, rfl, rfl, rfl, rfl, rfl, rfl, rfl, rfl, rfl, rfl⟩

theorem State.JoltsOnly.trans (h : s.JoltsOnly t) (g : t.JoltsOnly u) : s.JoltsOnly u where
  now := g.now.trans h.now
  cls := g.cls.trans h.cls
  dwellStart := g.dwellStart.trans h.dwellStart
  lost := g.lost.trans h.lost
  missing := g.missing.trans h.missing
  nextSample := g.nextSample.trans h.nextSample
  ring := g.ring.trans h.ring
  lastSamples := g.lastSamples.trans h.lastSamples
  supply := g.supply.trans h.supply
  transit := g.transit.trans h.transit
  store := g.store.trans h.store

theorem State.JoltsOnly.of_motion (now : t.now = s.now)
    (motion : ∃ jolts opened lastJolt, t.motion = { s.motion with jolts := jolts, opened := opened, lastJolt := lastJolt })
    (supply : t.supply = s.supply) (transit : t.transit = s.transit) (store : t.store = s.store) : s.JoltsOnly t := by
  obtain ⟨jolts, opened, lastJolt, motion⟩ := motion
  refine ⟨now, ?_, ?_, ?_, ?_, ?_, ?_, ?_, supply, transit, store⟩ <;> rw [motion]

theorem State.SameCase.joltsOnly (h : s.SameCase t) : s.JoltsOnly t :=
  ⟨h.now, by rw [h.motion], by rw [h.motion], by rw [h.motion], by rw [h.motion], by rw [h.motion], by rw [h.motion],
    by rw [h.motion], h.supply, h.transit, h.store⟩

theorem State.joltsOnly_startPass (s : State) : s.JoltsOnly s.startPass := by
  obtain ⟨f, -, motion⟩ := s.marks_startPass
  exact .of_motion (by simp) ⟨_, _, _, motion⟩ (by simp) (by simp) (by simp)

theorem State.joltsOnly_sweep (k : SweepKind) (s : State) : s.JoltsOnly (s.sweep k) :=
  (s.sameCase_walked k).joltsOnly.trans (State.joltsOnly_startPass _)

theorem State.joltsOnly_sweep? (k : Option SweepKind) (s : State) : s.JoltsOnly (s.sweep? k) := by
  cases k with
  | none => exact .refl s
  | some k => exact s.joltsOnly_sweep k

theorem State.joltsOnly_openJolt (s : State) (before : MotionClass) (d : Nat) : s.JoltsOnly (s.openJolt before d) := by
  have motion := s.openJolt_motion before d
  refine .of_motion ?_ ⟨_, _, _, motion⟩ ?_ ?_ ?_
  iterate 4
    unfold State.openJolt
    dsimp only
    split
    · simp
    · simp

theorem State.joltsOnly_testJolt (s : State) (before : MotionClass) (d : Nat) : s.JoltsOnly (s.testJolt before d).1 := by
  unfold State.testJolt
  split
  · dsimp only
    split
    · exact .of_motion rfl ⟨_, _, _, rfl⟩ rfl rfl rfl
    · exact (s.joltsOnly_openJolt before d).trans (.of_motion rfl ⟨_, _, _, rfl⟩ rfl rfl rfl)
  · exact .refl s

theorem State.joltsOnly_exposeToRolling (s : State) : s.JoltsOnly s.exposeToRolling := .of_motion rfl ⟨_, _, _, rfl⟩ rfl rfl rfl

theorem State.joltsOnly_lineUp (s : State) : s.JoltsOnly s.lineUp :=
  .of_motion s.lineUp_now ⟨_, _, _, s.lineUp_motion⟩ s.lineUp_supply s.lineUp_transit s.lineUp_store

/-! ### Class changes (R87) -/

/-- The state in which the grants of a class change are evaluated. -/
def State.classChanged (new : MotionClass) (s : State) : State :=
  (s.modMotion (fun m => { m with
    cls := new
    dwellStart := if new = .unsettled then s.now else m.dwellStart })).addCaseEvent .motionChanged

theorem State.changeClass_eq (new : MotionClass) (s : State) : s.changeClass new =
    if new = .still then (s.classChanged new).evaluate.tryDeferredLoads else (s.classChanged new).evaluate := rfl

theorem State.changeClass_blocks (new : MotionClass) (s : State) : (s.changeClass new).now = s.now ∧
    (s.changeClass new).motion = { s.motion with
      cls := new, dwellStart := if new = .unsettled then s.now else s.motion.dwellStart } ∧
    (s.changeClass new).faults = s.faults ∧ (s.changeClass new).scheduler = s.scheduler ∧
    (s.changeClass new).supply = s.supply ∧
    (s.changeClass new).transit = s.transit ∧ (s.changeClass new).store = s.store := by
  rw [State.changeClass_eq]
  split
  · obtain ⟨same, -, scheduler⟩ := (s.classChanged new).evaluate.tryDeferredLoads_blocks
    rw [same.now, same.motion, same.faults, scheduler, same.supply, same.transit, same.store]
    simp [State.classChanged]
  · simp [State.classChanged]

theorem State.pass_of_alike (arbiter : t.arbiter = s.arbiter) (same : s.SameCase t)
    (diag : ∀ x, (t.bay x).state = .diag ↔ (s.bay x).state = .diag) : t.pass = s.pass :=
  State.pass_congr arbiter same.store (by rw [same.supply]) (by rw [same.motion]) (by rw [same.transit]) diag

theorem State.tryDeferredLoads_pass (s : State) : s.tryDeferredLoads.pass = s.pass := by
  obtain ⟨same, arbiter, -⟩ := s.tryDeferredLoads_blocks
  refine State.pass_of_alike arbiter same fun x => ?_
  rw [State.tryDeferredLoads_bay]
  rcases s.deferred_state x with stands | ⟨spun, loading⟩
  · rw [stands]
  · rw [spun, loading]
    exact ⟨nofun, nofun⟩

theorem State.changeClass_pass (new : MotionClass) (s : State) : (s.changeClass new).pass = none := by
  rw [State.changeClass_eq]
  split
  · rw [State.tryDeferredLoads_pass, State.evaluate_pass]
  · exact State.evaluate_pass _

theorem State.notes_changeClass (new : MotionClass) (s : State) : (s.changeClass new).Notes .theCase
    (fun n => n.events &&& CaseEvent.motionChanged.bit = CaseEvent.motionChanged.bit) := by
  have changed : (s.classChanged new).evaluate.Notes .theCase
      (fun n => n.events &&& CaseEvent.motionChanged.bit = CaseEvent.motionChanged.bit) :=
    (State.event_evaluate (D := fun _ => False) _).notes (Notice.stable_events _) (State.notes_addCaseEvent _ _)
  rw [State.changeClass_eq]
  split
  · exact (State.event_tryDeferredLoads (D := fun _ => False) _).notes (Notice.stable_events _) changed
  · exact changed

/-! ### The stages of a valid sample -/

/-- The sample entered in the ring, with the restart of the dwell timer. -/
def State.sampled (a : Accel) (s : State) : State :=
  (s.enterRing a (s.motion.deviation a)).restartDwell (s.motion.deviation a)

/-- The class that the sample settles. -/
def State.sampleClass (a : Accel) (s : State) : MotionClass := (s.sampled a).settledClass (s.motion.deviation a)

/-- The sample with its class settled, ahead of the jolt test. -/
def State.reclassed (a : Accel) (s : State) : State := ((s.sampled a).settleClass (s.motion.deviation a)).1

/-- The sweep that the class change hands. -/
def State.rollingSweep (a : Accel) (s : State) : Option SweepKind := ((s.sampled a).settleClass (s.motion.deviation a)).2

/-- The sample with its jolt test, ahead of the sweeps. -/
def State.jolted (a : Accel) (s : State) : State := ((s.reclassed a).testJolt s.motion.cls (s.motion.deviation a)).1

/-- The sweep that the jolt test hands. -/
def State.joltSweep (a : Accel) (s : State) : Option SweepKind :=
  ((s.reclassed a).testJolt s.motion.cls (s.motion.deviation a)).2

theorem State.validSample_eq (here : s.motion.lost = false) (a : Accel) :
    s.validSample a = ((s.jolted a).sweep? (s.rollingSweep a)).sweep? (s.joltSweep a) := by
  rw [State.validSample, if_neg (by rw [here]; decide)]
  rfl

theorem State.sampled_motion (a : Accel) (s : State) : (s.sampled a).motion = { s.motion with
    missing := 0
    ring := pushKeeping 64 s.motion.ring (s.motion.deviation a)
    lastSamples := pushKeeping 8 s.motion.lastSamples a
    dwellStart := if s.motion.cls = .unsettled ∧ s.settings.rollThreshold ≤ s.motion.deviation a then s.now
      else s.motion.dwellStart } := by
  unfold State.sampled State.restartDwell
  by_cases restarts : s.motion.cls = .unsettled ∧ s.settings.rollThreshold ≤ s.motion.deviation a
  · rw [if_pos restarts, if_pos]
    · rfl
    · simp only [Bool.and_eq_true, decide_eq_true_eq]; exact restarts
  · rw [if_neg restarts, if_neg]
    · rfl
    · simp only [Bool.and_eq_true, decide_eq_true_eq]; exact restarts

/-- A sample that settles no class changes the Motion Monitor alone. -/
theorem State.sampled_eq (a : Accel) (s : State) : s.sampled a = { s with motion := (s.sampled a).motion } := by
  unfold State.sampled State.restartDwell
  split
  · rfl
  · rfl

theorem State.sampled_blocks (a : Accel) (s : State) : (s.sampled a).now = s.now ∧ (s.sampled a).bays = s.bays ∧
    (s.sampled a).arbiter = s.arbiter ∧ (s.sampled a).scheduler = s.scheduler ∧ (s.sampled a).faults = s.faults ∧
    (s.sampled a).supply = s.supply ∧ (s.sampled a).transit = s.transit ∧ (s.sampled a).store = s.store ∧
    (s.sampled a).motion.cls = s.motion.cls := by
  refine ⟨?_, ?_, ?_, ?_, ?_, ?_, ?_, ?_, by rw [State.sampled_motion]⟩ <;> rw [State.sampled_eq]

theorem State.settleClass_eq (d : Nat) (s : State) : s.settleClass d =
    if s.settledClass d = s.motion.cls then (s, none)
    else if s.settledClass d = .rolling then
      ((s.changeClass .rolling).exposeToRolling, s.settings.rollingPolicy.sweepKind)
    else (s.changeClass (s.settledClass d), none) := by
  unfold State.settleClass
  dsimp only
  split
  · rfl
  · split
    · rename_i rolling; rw [rolling]
    · rfl

theorem State.reclassed_of_same (same : s.sampleClass a = s.motion.cls) :
    s.reclassed a = s.sampled a ∧ s.rollingSweep a = none := by
  rw [State.reclassed, State.rollingSweep, State.settleClass_eq, if_pos (by rw [(s.sampled_blocks a).2.2.2.2.2.2.2.2]; exact same)]
  exact ⟨rfl, rfl⟩

theorem State.reclassed_of_rolling (changed : s.motion.cls ≠ .rolling) (new : s.sampleClass a = .rolling) :
    s.reclassed a = ((s.sampled a).changeClass .rolling).exposeToRolling ∧
      s.rollingSweep a = s.settings.rollingPolicy.sweepKind := by
  obtain ⟨-, -, -, -, -, -, -, store, cls⟩ := s.sampled_blocks a
  have differs : (s.sampled a).settledClass (s.motion.deviation a) ≠ (s.sampled a).motion.cls := by
    rw [cls]
    exact fun same => changed (same.symm.trans new)
  rw [State.reclassed, State.rollingSweep, State.settleClass_eq, if_neg differs]
  rw [if_pos (show (s.sampled a).settledClass (s.motion.deviation a) = .rolling from new)]
  exact ⟨rfl, congrArg (fun w => RollingPolicy.sweepKind w.working.case.rollingPolicy) store⟩

theorem State.reclassed_of_other (changed : s.sampleClass a ≠ s.motion.cls) (new : s.sampleClass a ≠ .rolling) :
    s.reclassed a = (s.sampled a).changeClass (s.sampleClass a) ∧ s.rollingSweep a = none := by
  obtain ⟨-, -, -, -, -, -, -, -, cls⟩ := s.sampled_blocks a
  have differs : (s.sampled a).settledClass (s.motion.deviation a) ≠ (s.sampled a).motion.cls := by rw [cls]; exact changed
  rw [State.reclassed, State.rollingSweep, State.settleClass_eq, if_neg differs]
  rw [if_neg (show (s.sampled a).settledClass (s.motion.deviation a) ≠ .rolling from new)]
  exact ⟨rfl, rfl⟩

theorem State.reclassed_blocks (a : Accel) (s : State) : (s.reclassed a).now = s.now ∧
    (s.reclassed a).motion = { (s.sampled a).motion with
      cls := s.sampleClass a
      dwellStart := if s.sampleClass a ≠ s.motion.cls ∧ s.sampleClass a = .unsettled then s.now
        else (s.sampled a).motion.dwellStart } ∧
    (s.reclassed a).faults = s.faults ∧ (s.reclassed a).scheduler = s.scheduler ∧
    (s.reclassed a).supply = s.supply ∧ (s.reclassed a).transit = s.transit ∧ (s.reclassed a).store = s.store := by
  obtain ⟨now, -, -, scheduler, faults, supply, transit, store, cls⟩ := s.sampled_blocks a
  by_cases same : s.sampleClass a = s.motion.cls
  · rw [(State.reclassed_of_same same).1]
    refine ⟨now, ?_, faults, scheduler, supply, transit, store⟩
    rw [if_neg (fun h => h.1 same), same, ← cls]
  · by_cases rolling : s.sampleClass a = .rolling
    · have changed : s.motion.cls ≠ .rolling := fun h => same (rolling.trans h.symm)
      obtain ⟨now', motion', faults', scheduler', supply', transit', store'⟩ := (s.sampled a).changeClass_blocks .rolling
      rw [(State.reclassed_of_rolling changed rolling).1, rolling, if_neg (fun h => nomatch h.2)]
      refine ⟨now'.trans now, motion'.trans ?_, faults'.trans faults, scheduler'.trans scheduler, supply'.trans supply,
        transit'.trans transit, store'.trans store⟩
      rw [if_neg (by decide)]
    · obtain ⟨now', motion', faults', scheduler', supply', transit', store'⟩ :=
        (s.sampled a).changeClass_blocks (s.sampleClass a)
      rw [(State.reclassed_of_other same rolling).1]
      refine ⟨now'.trans now, motion'.trans ?_, faults'.trans faults, scheduler'.trans scheduler, supply'.trans supply,
        transit'.trans transit, store'.trans store⟩
      rw [now]
      simp [same]

/-- The Motion Monitor after a valid sample, but for its jolt records. -/
theorem State.joltsOnly_validSample (here : s.motion.lost = false) (a : Accel) :
    (s.reclassed a).JoltsOnly (s.validSample a) := by
  rw [State.validSample_eq here]
  exact ((State.joltsOnly_testJolt _ _ _).trans (State.joltsOnly_sweep? _ _)).trans (State.joltsOnly_sweep? _ _)

end

/-! ### Marks of a sample (R79) -/

section

variable {s : State}

/-- The state in which a sample is taken: time on its mark, and the next mark due one period later (R79). -/
def State.atSample (now : Nat) (s : State) : State :=
  { s with now := now, motion := { s.motion with nextSample := now + 2500 } }

/-- A sample is taken on a 2.5 ms mark (log 3). -/
theorem State.toSample_eq (dt : Nat) (s : State) : ∃ now, now % 2500 = 0 ∧ s.now + dt ≤ now ∧ s.motion.nextSample ≤ now ∧
    (s.elapse dt).toSample = s.atSample now := by
  refine ⟨markAt samplePeriod (max (s.now + dt) s.motion.nextSample), ?_, ?_, ?_, rfl⟩
  · simp [markAt, samplePeriod]
  · simp only [markAt, samplePeriod]; omega
  · simp only [markAt, samplePeriod]; omega

end

/-- A sample that counts as valid, as its axes say (R79). -/
theorem sampleValid_iff (ready : Bool) (x y z : Int) : sampleValid ready { x := x, y := y, z := z } = true ↔
    ready = true ∧ -16000 ≤ x ∧ x ≤ 16000 ∧ -16000 ≤ y ∧ y ≤ 16000 ∧ -16000 ≤ z ∧ z ≤ 16000 := by
  simp [sampleValid, axisValid, and_assoc]

theorem exec_sample {dt : Nat} {ready : Bool} {x y z : Int} {s : State} : exec (.motionSample dt ready x y z) s =
    .next (if sampleValid ready { x := x, y := y, z := z } then (s.elapse dt).toSample.validSample { x := x, y := y, z := z }
      else (s.elapse dt).toSample.missingSample).lineUp := rfl

section

variable {s : State}

/-- The state after a recovery (R81). -/
theorem State.recover_blocks (a : Accel) (s : State) : (s.recover a).now = s.now ∧
    (s.recover a).motion = { s.motion with
      lost := false, missing := 0, ring := [0], lastSamples := [a], cls := .unsettled, dwellStart := s.now } ∧
    (s.recover a).faults = s.faults := by
  obtain ⟨now, motion, faults, -, -, -, -⟩ := (s.modMotion (fun m => { m with
    lost := false, missing := 0, ring := [], lastSamples := [] })).changeClass_blocks .unsettled
  rw [State.recover]
  refine ⟨now, ?_, faults⟩
  rw [State.enterRing, State.modMotion, motion]
  rfl

/-- The state in which the loss of the sensor is reported (R80). -/
def State.sensorFlagged (s : State) : State :=
  let flagged := s.modMotion (fun m => { m with lost := true })
  if s.motion.cls = .rolling then flagged else (flagged.changeClass .rolling).exposeToRolling

theorem State.loseSensor_eq (s : State) : s.loseSensor = (s.sensorFlagged.reportCase .sensorLost).sweep .sensorLost := rfl

theorem State.sensorFlagged_blocks (s : State) : s.sensorFlagged.now = s.now ∧
    s.sensorFlagged.motion = { s.motion with lost := true, cls := .rolling } ∧ s.sensorFlagged.faults = s.faults ∧
    s.sensorFlagged.supply = s.supply ∧ s.sensorFlagged.transit = s.transit ∧ s.sensorFlagged.store = s.store := by
  unfold State.sensorFlagged
  dsimp only
  split
  · rename_i rolling
    exact ⟨rfl, by rw [← rolling]; rfl, rfl, rfl, rfl, rfl⟩
  · obtain ⟨now, motion, faults, -, supply, transit, store⟩ :=
      (s.modMotion (fun m => { m with lost := true })).changeClass_blocks .rolling
    exact ⟨now, motion, faults, supply, transit, store⟩

theorem State.joltsOnly_loseSensor (s : State) : s.sensorFlagged.JoltsOnly s.loseSensor := by
  have reported : s.sensorFlagged.JoltsOnly (s.sensorFlagged.reportCase .sensorLost) :=
    .of_motion (by simp) ⟨_, _, _, State.reportCase_motion _ _⟩ (by simp) (by simp) (by simp)
  exact reported.trans (State.joltsOnly_sweep _ _)

/-- A missing sample counted. -/
def State.missCounted (s : State) : State := s.modMotion (fun m => { m with missing := m.missing + 1 })

theorem State.missingSample_of_few (h : s.motion.lost = true ∨ s.motion.missing + 1 < 20) :
    s.missingSample = s.missCounted := by
  unfold State.missingSample
  dsimp only
  rw [if_neg]
  · rfl
  · simp only [Bool.and_eq_true, decide_eq_true_eq, Bool.not_eq_true', not_and, Bool.not_eq_false]
    intro many
    rcases h with lost | few
    · exact lost
    · exact absurd few (Nat.not_lt.mpr many)

theorem State.missingSample_of_many (lost : s.motion.lost = false) (many : 19 ≤ s.motion.missing) :
    s.missingSample = s.missCounted.loseSensor := by
  unfold State.missingSample
  dsimp only
  rw [if_pos]
  · rfl
  · simp only [Bool.and_eq_true, decide_eq_true_eq, Bool.not_eq_true']
    exact ⟨Nat.succ_le_succ many, lost⟩

/-- No sample moves time or the next mark. -/
theorem State.sample_mark (valid : Bool) (a : Accel) (s : State) :
    (if valid then s.validSample a else s.missingSample).now = s.now ∧
      (if valid then s.validSample a else s.missingSample).motion.nextSample = s.motion.nextSample := by
  cases valid with
  | true =>
    rw [if_pos rfl]
    cases lost : s.motion.lost with
    | true =>
      obtain ⟨now, motion, -⟩ := s.recover_blocks a
      rw [State.validSample, if_pos lost]
      exact ⟨now, by rw [motion]⟩
    | false =>
      obtain ⟨now, motion, -⟩ := s.reclassed_blocks a
      have after := State.joltsOnly_validSample lost a
      exact ⟨after.now.trans now, after.nextSample.trans (by rw [motion, State.sampled_motion])⟩
  | false =>
    rw [if_neg (by decide)]
    by_cases few : s.motion.lost = true ∨ s.motion.missing + 1 < 20
    · rw [State.missingSample_of_few few]
      exact ⟨rfl, rfl⟩
    · obtain ⟨lost, many⟩ := not_or.mp few
      rw [State.missingSample_of_many (Bool.eq_false_iff.mpr lost) (by omega)]
      obtain ⟨now, motion, -⟩ := s.missCounted.sensorFlagged_blocks
      have after := s.missCounted.joltsOnly_loseSensor
      exact ⟨after.now.trans now, after.nextSample.trans (by rw [motion]; rfl)⟩

end

/-- Settles O25. -/
theorem sampleAccounting : Obligations.SampleAccounting := by
  intro dt ready x y z s
  obtain ⟨now, mark, later, due, taken⟩ := State.toSample_eq dt s
  have step := exec_sample (dt := dt) (ready := ready) (x := x) (y := y) (z := z) (s := s)
  rw [taken] at step
  obtain ⟨nowT, next⟩ := State.sample_mark (sampleValid ready { x := x, y := y, z := z }) { x := x, y := y, z := z }
    (s.atSample now)
  refine ⟨_, step, ?_, ?_, ?_, ?_, fun valid lost => ?_, fun invalid few => ?_⟩
  · rw [State.lineUp_now, nowT]; exact mark
  · rw [State.lineUp_now, nowT]; exact later
  · rw [State.lineUp_now, nowT]; exact due
  · rw [State.lineUp_now, nowT, State.lineUp_motion, next]; rfl
  · rw [if_pos ((sampleValid_iff ready x y z).mpr valid), State.lineUp_motion]
    have after := State.joltsOnly_validSample (s := s.atSample now) lost { x := x, y := y, z := z }
    rw [after.missing, after.ring, after.lastSamples, (State.reclassed_blocks _ _).2.1, State.sampled_motion]
    refine ⟨rfl, ?_, rfl⟩
    have deviation : s.motion.deviation { x := x, y := y, z := z } = if s.motion.lastSamples.length < 8 then 0
        else (s.motion.lastSamples.head?.map (fun o =>
          max (x - o.x).natAbs (max (y - o.y).natAbs (z - o.z).natAbs))).getD 0 := by
      unfold Motion.deviation
      split
      · rfl
      · cases s.motion.lastSamples <;> rfl
    rw [← deviation]
    rfl
  · rw [if_neg (fun h => invalid ((sampleValid_iff ready x y z).mp h)), State.missingSample_of_few (s := s.atSample now) few]
    refine ⟨?_, State.lineUp_bays _, State.lineUp_arbiter _, State.lineUp_scheduler _, State.lineUp_faults _,
      State.lineUp_supply _, State.lineUp_transit _, State.lineUp_store _, State.nothingRaised_of_notices rfl⟩
    rw [State.lineUp_motion, State.lineUp_now]
    rfl

end Sys2Proof.Machine
end

section
/-! PROOFS. What evaluations and sweeps leave of every bay: the exposure counters, the loads and the passes (R23, R34, R106). -/

namespace Sys2Proof.Machine

section

variable {s t u : State} {b x : BayNo} {k : SweepKind}

/-! ### Exposure counters (R23) -/

/-- The exposure counters of a bay stand. -/
structure BayRec.SameCounters (r u : BayRec) : Prop where
  joltsLoaded : u.joltsLoaded = r.joltsLoaded
  joltsParked : u.joltsParked = r.joltsParked
  joltsStopped : u.joltsStopped = r.joltsStopped
  rollsLoaded : u.rollsLoaded = r.rollsLoaded

theorem BayRec.SameCounters.refl (r : BayRec) : r.SameCounters r := ⟨rfl, rfl, rfl, rfl⟩

theorem BayRec.SameCounters.trans {r u v : BayRec} (h : r.SameCounters u) (g : u.SameCounters v) : r.SameCounters v :=
  ⟨g.joltsLoaded.trans h.joltsLoaded, g.joltsParked.trans h.joltsParked, g.joltsStopped.trans h.joltsStopped,
    g.rollsLoaded.trans h.rollsLoaded⟩

theorem BayRec.sameCounters_enter (r : BayRec) (st : BayState) (p : Profile) (now : Nat) :
    r.SameCounters (r.enter st p now) := ⟨rfl, rfl, rfl, rfl⟩

theorem BayRec.sameCounters_granted (r : BayRec) (k : EntryKind) (p : Profile) (now : Nat) :
    r.SameCounters (r.granted k p now) := by
  cases k
  · exact ⟨rfl, rfl, rfl, rfl⟩
  · exact ⟨rfl, rfl, rfl, rfl⟩

theorem BayRec.sameCounters_parked (r : BayRec) (mode : TransitMode) (p : Profile) (now : Nat) :
    r.SameCounters (r.parked mode p now) := by
  unfold BayRec.parked
  split
  · exact ⟨rfl, rfl, rfl, rfl⟩
  · exact ⟨rfl, rfl, rfl, rfl⟩
  · exact ⟨rfl, rfl, rfl, rfl⟩

theorem BayRec.sameCounters_unloadStarted (r : BayRec) (mode : TransitMode) (p : Profile) (now : Nat) :
    r.SameCounters (r.unloadStarted mode p now) := by
  unfold BayRec.unloadStarted
  split
  · exact (r.sameCounters_enter _ _ _).trans (BayRec.sameCounters_parked _ _ _ _)
  · exact r.sameCounters_enter _ _ _

theorem BayRec.sameCounters_sweptIntent (r : BayRec) (k : SweepKind) : r.SameCounters (r.sweptIntent k) := by
  unfold BayRec.sweptIntent
  split
  · exact ⟨rfl, rfl, rfl, rfl⟩
  · exact .refl r

/-- The exposure counters of every bay stand. -/
def State.SameCounters (s t : State) : Prop := ∀ x, (s.bay x).SameCounters (t.bay x)

theorem State.SameCounters.trans (h : s.SameCounters t) (g : t.SameCounters u) : s.SameCounters u :=
  fun x => (h x).trans (g x)

theorem State.SameCounters.of_bays (h : t.bays = s.bays) : s.SameCounters t := fun x => by
  rw [State.bay_of_bays h x]; exact .refl _

/-- A change of one bay that leaves its counters. -/
theorem State.SameCounters.of_bay (others : s.othersKept t b) (own : (s.bay b).SameCounters (t.bay b)) : s.SameCounters t :=
  fun x => by
    by_cases here : x = b
    · rw [here]; exact own
    · rw [others x here]; exact .refl _

theorem State.sameCounters_evaluate (s : State) : s.SameCounters s.evaluate := by
  refine State.evaluate_induct (P := fun t => s.SameCounters t) (fun t p _ h => h.trans ?_) s (.of_bays rfl)
  have bays (x : BayNo) : (t.raised p).bay x = t.bay x := by rw [State.raised_eq]; rfl
  rw [State.carryOut_eq]
  refine .of_bay (b := p.granted.bay) (fun x other => (State.grant_bay_ne _ _ other).trans (bays x)) ?_
  rw [State.grant_bay_self, bays]
  exact BayRec.sameCounters_granted _ _ _ _

theorem State.sameCounters_spinDownWith (s : State) (b : BayNo) (i : Intent) : s.SameCounters (s.spinDownWith b i) :=
  .of_bay (fun _ other => State.spinDownWith_bay_ne s i other) (by rw [State.spinDownWith_bay_self]; exact ⟨rfl, rfl, rfl, rfl⟩)

theorem State.sameCounters_emergencyPlacement (s : State) (b : BayNo) : s.SameCounters (s.emergencyPlacement b) := by
  refine .of_bay (fun _ other => State.emergencyPlacement_bay_ne s other) ?_
  rw [State.emergencyPlacement_bay_self]
  split
  · exact BayRec.sameCounters_enter _ _ _ _
  · exact .refl _

theorem State.sameCounters_sweepIntent (s : State) (k : SweepKind) (b : BayNo) : s.SameCounters (s.sweepIntent k b) :=
  .of_bay (fun _ other => State.sweepIntent_bay_ne s k other)
    (by rw [State.sweepIntent_bay_self]; exact BayRec.sameCounters_sweptIntent _ k)

theorem State.sameCounters_abortSpinUp (s : State) (b : BayNo) (i : Intent) : s.SameCounters (s.abortSpinUp b i) :=
  (State.sameCounters_spinDownWith (s.releaseGrant b) b i).trans (State.sameCounters_evaluate _)

theorem State.sameCounters_sweepBay (s : State) (k : SweepKind) (b : BayNo) : s.SameCounters (s.sweepBay k b) := by
  unfold State.sweepBay
  split
  iterate 3 exact (s.sameCounters_emergencyPlacement b).trans (State.sameCounters_sweepIntent _ k b)
  · exact s.sameCounters_sweepIntent k b
  · split
    · exact s.sameCounters_spinDownWith b _
    · exact .of_bays rfl
  · split
    · exact s.sameCounters_abortSpinUp b _
    · exact .of_bays rfl
  all_goals exact .of_bays rfl

theorem State.sameCounters_startPass (s : State) : s.SameCounters s.startPass := by
  refine State.startPass_induct (P := fun t => s.SameCounters t) (fun t b rest _ h => h.trans ?_) s (.of_bays rfl)
  refine .of_bay (fun x other => State.startUnload_bay_ne { t with scheduler := rest } other) ?_
  rw [State.startUnload_bay_self]
  exact BayRec.sameCounters_unloadStarted _ _ _ _

theorem State.sameCounters_sweep (s : State) (k : SweepKind) : s.SameCounters (s.sweep k) := by
  have walked : s.SameCounters (s.walked k) :=
    State.walked_induct (P := fun t => s.SameCounters t) (fun t b h => h.trans (t.sameCounters_sweepBay k b))
      (fun _ _ _ h => h.trans (.of_bays rfl)) (.of_bays rfl)
  exact walked.trans (State.sameCounters_startPass _)

theorem State.sameCounters_sweep? (s : State) (k : Option SweepKind) : s.SameCounters (s.sweep? k) := by
  cases k with
  | none => exact .of_bays rfl
  | some k => exact s.sameCounters_sweep k

/-! ### Sweeps leave no bay LOADING or LOADED (R106) -/

/-- A bay that neither loads nor is LOADED. -/
def BayRec.unloadable (r : BayRec) : Prop := r.state ≠ .loading ∧ r.state ≠ .loaded

theorem BayRec.unloadStarted_unloadable (mode : TransitMode) (p : Profile) (now : Nat) (r : BayRec) :
    (r.unloadStarted mode p now).unloadable := by
  unfold BayRec.unloadable
  rcases r.unloadStarted_state mode p now with h | h | h | h <;> rw [h] <;> decide

theorem State.evaluate_unloadable (q : s.queuesMatch) (h : (s.bay x).unloadable) : (s.evaluate.bay x).unloadable := by
  rcases (State.admits_evaluate q).bays x with same | ⟨k, -, granted⟩
  · rw [same]; exact h
  · rw [granted]
    exact ⟨BayRec.granted_state_ne _ _ _ _ (by decide) (by decide), BayRec.granted_state_ne _ _ _ _ (by decide) (by decide)⟩

/-- The turn of another bay starts no load. -/
theorem State.sweepBay_unloadable (q : s.queuesMatch) (other : x ≠ b) (h : (s.bay x).unloadable) :
    ((s.sweepBay k b).bay x).unloadable := by
  by_cases queued : (s.bay x).state = .queued
  · unfold State.sweepBay
    split
    iterate 3
      rw [State.sweepIntent_bay_ne _ k other, State.emergencyPlacement_bay_ne _ other]
      exact h
    · rw [State.sweepIntent_bay_ne _ k other]; exact h
    · split
      · rw [State.spinDownWith_bay_ne _ _ other]; exact h
      · exact h
    · rename_i spinning
      split
      · rw [State.abortSpinUp]
        exact State.evaluate_unloadable (q.aborted spinning _)
          (by rw [State.spinDownWith_bay_ne _ _ other]; exact h)
      · exact h
    all_goals exact h
  · rw [State.sweepBay_bay_ne q k other queued]; exact h

theorem State.walked_unloadable (q : s.queuesMatch) (k : SweepKind) (x : BayNo) : ((s.walked k).bay x).unloadable := by
  have walk := State.foldl_brings (f := fun b s => s.sweepBay k b) (b := x) (P := fun t => t.queuesMatch)
    (Q := fun t => t.queuesMatch ∧ (t.bay x).unloadable) (nodup_walkFrom s.scheduler.origin) (mem_walkFrom _ x)
    (fun y t _ q => (t.keeps_sweepBay k y).queues q)
    (fun t q => ⟨(t.keeps_sweepBay k x).queues q, by
      rw [State.sweepBay_bay_self q, BayRec.unloadable, BayRec.swept_state]
      cases state : (t.bay x).state <;> simp
      all_goals split <;> simp⟩)
    (fun y t other ⟨q, h⟩ => ⟨(t.keeps_sweepBay k y).queues q, State.sweepBay_unloadable q (Ne.symm other) h⟩)
    (s := s.modScheduler (fun q => { q with pointer := q.origin })) ((s.keeps_turnPointer _ Scheduler.origin).queues q)
  rw [State.walked, State.modScheduler_bay]
  exact walk.2

theorem State.sweep_unloadable (q : s.queuesMatch) (k : SweepKind) (x : BayNo) : ((s.sweep k).bay x).unloadable := by
  rcases State.sweep_bay q k x with stands | ⟨-, started⟩
  · rw [stands]; exact State.walked_unloadable q k x
  · rw [started]; exact BayRec.unloadStarted_unloadable _ _ _ _

/-- A bay outside the loaded condition that is not QUEUED: a sweep takes it up in its walk alone. -/
theorem State.sweep_bay_of_empty (q : s.queuesMatch) (k : SweepKind) (queued : (s.bay x).state ≠ .queued)
    (empty : (s.bay x).state.inLoadedCondition = false) :
    (s.sweep k).bay x = (s.bay x).swept k (s.governing x) s.now := by
  rw [← State.walked_bay q k queued]
  rcases State.sweep_bay q k x with stands | ⟨waits, -⟩
  · exact stands
  · rw [State.walked_bay q k queued, BayRec.swept_state] at waits
    cases state : (s.bay x).state <;> simp [state, BayState.inLoadedCondition] at empty waits
    all_goals split at waits <;> simp at waits

/-! ### Passes after a sweep -/

theorem State.emergencyPlacement_diag (s : State) (b x : BayNo) :
    ((s.emergencyPlacement b).bay x).state = .diag ↔ (s.bay x).state = .diag := by
  by_cases here : x = b
  · subst here
    rw [State.emergencyPlacement_bay_self]
    split
    · rename_i loaded
      rcases loaded with h | h <;> simp [h]
    · rfl
  · rw [State.emergencyPlacement_bay_ne _ here]

theorem State.sweepIntent_blocks (s : State) (k : SweepKind) (b : BayNo) : (s.sweepIntent k b).arbiter = s.arbiter ∧
    ∀ x, ((s.sweepIntent k b).bay x).state = (s.bay x).state := by
  refine ⟨?_, fun x => ?_⟩
  · unfold State.sweepIntent
    split
    · rfl
    · rfl
  · by_cases here : x = b
    · rw [here, State.sweepIntent_bay_self, BayRec.sweptIntent_state]
    · rw [State.sweepIntent_bay_ne _ k here]

theorem State.sweepBay_pass (h : s.pass = none) (k : SweepKind) (b : BayNo) : (s.sweepBay k b).pass = none := by
  have intent (t : State) : (t.sweepIntent k b).pass = t.pass :=
    State.pass_of_alike (t.sweepIntent_blocks k b).1 (t.sameCase_sweepIntent k b)
      fun x => by rw [(t.sweepIntent_blocks k b).2 x]
  have placed : (s.emergencyPlacement b).pass = none := by
    rw [State.pass_of_alike (s.emergencyPlacement_arbiter b) (s.sameCase_emergencyPlacement b) (s.emergencyPlacement_diag b), h]
  unfold State.sweepBay
  split
  iterate 3 rw [intent]; exact placed
  · rw [intent]; exact h
  · rename_i spun
    split
    · rw [State.pass_of_alike _ (s.sameCase_spinDownWith b _) fun x => ?_, h]
      · simp [State.spinDownWith, State.setIntent]
      · by_cases here : x = b
        · rw [here, State.spinDownWith_bay_self, spun]; simp [BayRec.spunDown]
        · rw [State.spinDownWith_bay_ne _ _ here]
    · exact h
  · split
    · rw [State.abortSpinUp]; exact State.evaluate_pass _
    · exact h
  all_goals exact h

theorem State.startPass_pass (q : s.queuesMatch) : s.startPass.pass = s.pass := by
  obtain ⟨-, -, -, parked⟩ := s.queuesMatch_iff.mp q
  refine State.pass_congr (by simp) (by simp) (by simp) s.marks_startPass.cls (by simp) fun x => ?_
  rcases (State.starts_startPass q).bays x with same | ⟨waits, started⟩
  · rw [same]
  · rw [started, (parked x).mp waits]
    rcases BayRec.unloadStarted_state s.transit.mode (s.governing x) s.now (s.bay x) with h | h | h | h <;> rw [h] <;> decide

theorem State.sweep_pass (q : s.queuesMatch) (h : s.pass = none) (k : SweepKind) : (s.sweep k).pass = none := by
  rw [State.sweep_eq, State.startPass_pass ((s.keeps_walked k).queues q)]
  refine State.walked_induct (P := fun t => t.pass = none) (fun t b h => State.sweepBay_pass h k b)
    (fun t pointer origin h => ?_) h
  rw [State.pass_of_alike (by rfl) (t.sameCase_modScheduler _) fun x => by rfl, h]

theorem State.sweep?_pass (q : s.queuesMatch) (h : s.pass = none) (k : Option SweepKind) : (s.sweep? k).pass = none := by
  cases k with
  | none => exact h
  | some k => exact State.sweep_pass q h k

end

end Sys2Proof.Machine
end

section
/-! PROOFS. Entries into ROLLING, and the lost sensor (R80, R81, R88). -/

namespace Sys2Proof.Machine

section

variable {s t u : State} {b x : BayNo}

/-! ### Entries into ROLLING (R87, R88) -/

/-- The class changed to ROLLING, with the exposures of the entry. -/
def State.rolledInto (s : State) : State := (s.changeClass .rolling).exposeToRolling

theorem State.rolledInto_eq (s : State) : s.rolledInto = (s.classChanged .rolling).evaluate.modBays BayRec.exposeToRolling := rfl

theorem State.keeps_rolledInto (s : State) : s.Keeps s.rolledInto :=
  (s.keeps_changeClass _).trans (State.keeps_exposeToRolling _)

theorem State.classChanged_queuesMatch (q : s.queuesMatch) (new : MotionClass) : (s.classChanged new).queuesMatch :=
  (((s.keeps_modMotion (f := fun m => { m with
    cls := new, dwellStart := if new = .unsettled then s.now else m.dwellStart }) fun m => m)).trans
      (State.keeps_addCaseEvent _ _)).queues q

theorem State.rolledInto_bay (q : s.queuesMatch) (queued : (s.bay x).state ≠ .queued) :
    s.rolledInto.bay x = (s.bay x).exposeToRolling := by
  rw [State.rolledInto_eq, State.bay_modBays, State.evaluate_bay (State.classChanged_queuesMatch q _) queued]
  rfl

theorem BayRec.exposeToRolling_state (r : BayRec) : r.exposeToRolling.state = r.state := by
  unfold BayRec.exposeToRolling
  split
  · rfl
  · rfl

theorem BayRec.exposeToRolling_eq (r : BayRec) : r.exposeToRolling = { r with
    rollsLoaded := if r.state.inLoadedCondition = true then min 65535 (r.rollsLoaded + 1) else r.rollsLoaded } := by
  unfold BayRec.exposeToRolling
  split
  · rfl
  · rfl

/-- The bays that an evaluation takes out of the queue are outside the loaded condition before and after it. -/
theorem State.evaluate_inLoaded (q : s.queuesMatch) (x : BayNo) :
    (s.evaluate.bay x).state.inLoadedCondition = (s.bay x).state.inLoadedCondition := by
  rcases (State.admits_evaluate q).bays x with same | ⟨k, mem, granted⟩
  · rw [same]
  · have queued : (s.bay x).state = .queued := (q.entry_iff x).mp ⟨k, (State.entryKind_eq_some q.nodup).mpr mem⟩
    rw [granted, queued, BayRec.granted_state]
    cases k
    · rfl
    · rfl

/-- The exposure of an entry into ROLLING reads the bays as they stood (R88). -/
theorem State.rolledInto_counters (q : s.queuesMatch) (x : BayNo) :
    (s.rolledInto.bay x).rollsLoaded =
        (if (s.bay x).state.inLoadedCondition = true then min 65535 ((s.bay x).rollsLoaded + 1)
          else (s.bay x).rollsLoaded) ∧
      (s.rolledInto.bay x).joltsLoaded = (s.bay x).joltsLoaded ∧
      (s.rolledInto.bay x).joltsParked = (s.bay x).joltsParked ∧
      (s.rolledInto.bay x).joltsStopped = (s.bay x).joltsStopped := by
  have counters := (s.classChanged .rolling).sameCounters_evaluate x
  have loaded := State.evaluate_inLoaded (State.classChanged_queuesMatch q .rolling) x
  rw [State.rolledInto_eq, State.bay_modBays, BayRec.exposeToRolling_eq]
  exact ⟨by rw [loaded, counters.rollsLoaded]; rfl, counters.joltsLoaded, counters.joltsParked, counters.joltsStopped⟩

theorem State.exposeToRolling_pass (s : State) : s.exposeToRolling.pass = s.pass :=
  State.pass_of_alike rfl ⟨rfl, rfl, rfl, rfl, rfl, rfl⟩ fun x => by
    rw [State.exposeToRolling, State.bay_modBays, BayRec.exposeToRolling_state]

theorem State.rolledInto_pass (s : State) : s.rolledInto.pass = none := by
  rw [State.rolledInto, State.exposeToRolling_pass, State.changeClass_pass]

theorem State.notes_rolledInto (s : State) : s.rolledInto.Notes .theCase
    (fun n => n.events &&& CaseEvent.motionChanged.bit = CaseEvent.motionChanged.bit) :=
  State.Notes.congr (s.notes_changeClass .rolling) rfl

/-! ### The lost sensor (R80) -/

/-- The sensor's flag. -/
def State.flagLost (s : State) : State := s.modMotion (fun m => { m with lost := true })

theorem State.sensorFlagged_of_rolling (h : s.motion.cls = .rolling) : s.sensorFlagged = s.flagLost := if_pos h

theorem State.sensorFlagged_of_other (h : s.motion.cls ≠ .rolling) : s.sensorFlagged = s.flagLost.rolledInto := if_neg h

theorem State.keeps_sensorFlagged (s : State) : s.Keeps s.sensorFlagged := by
  have flagged : s.Keeps s.flagLost := s.keeps_modMotion fun m => m
  by_cases rolling : s.motion.cls = .rolling
  · rw [State.sensorFlagged_of_rolling rolling]; exact flagged
  · rw [State.sensorFlagged_of_other rolling]; exact flagged.trans (State.keeps_rolledInto _)

theorem State.flagLost_queuesMatch (q : s.queuesMatch) : s.flagLost.queuesMatch :=
  (s.keeps_modMotion (f := fun m => { m with lost := true }) fun m => m).queues q

theorem State.reportCase_pass (s : State) (c : CaseFault) : (s.reportCase c).pass = s.pass :=
  State.pass_congr (by simp) (by simp) (by simp) (by simp) (by simp) fun x => by rw [State.reportCase_bay]

/-- The loss of the sensor, whole (R80). -/
theorem State.loseSensor_result (q : s.queuesMatch) (missing : 20 ≤ s.motion.missing) :
    s.loseSensor.lineUp.motion.lost = true ∧ s.loseSensor.lineUp.motion.cls = .rolling ∧
      20 ≤ s.loseSensor.lineUp.motion.missing ∧ s.loseSensor.lineUp.motion.ring = s.motion.ring ∧
      s.caseReported s.loseSensor.lineUp .sensorLost ∧
      (s.motion.cls ≠ .rolling → s.loseSensor.lineUp.caseRaised .motionChanged ∧ s.loseSensor.lineUp.pass = none) ∧
      (∀ b, (s.loseSensor.lineUp.bay b).state ≠ .loading ∧ (s.loseSensor.lineUp.bay b).state ≠ .loaded) ∧
      (∀ b, (s.bay b).state = .spun → (s.loseSensor.lineUp.bay b).state = .spun) ∧
      (∀ b, (s.loseSensor.lineUp.bay b).rollsLoaded =
        if s.motion.cls ≠ .rolling ∧ (s.bay b).state.inLoadedCondition = true then
          min 65535 ((s.bay b).rollsLoaded + 1)
        else (s.bay b).rollsLoaded) ∧
      s.loseSensor.lineUp.supply = s.supply ∧ s.loseSensor.lineUp.transit = s.transit ∧
        s.loseSensor.lineUp.store = s.store := by
  obtain ⟨-, motion, faults, supply, transit, store⟩ := s.sensorFlagged_blocks
  have after := s.joltsOnly_loseSensor.trans (State.joltsOnly_lineUp _)
  have flagged := s.keeps_sensorFlagged.queues q
  have reported := (State.keeps_reportCase s.sensorFlagged .sensorLost).queues flagged
  have faultsT : s.loseSensor.lineUp.faults = (s.sensorFlagged.reportCase .sensorLost).faults := by
    rw [State.lineUp_faults, State.loseSensor_eq, State.sweep_eq, State.startPass_faults, (State.sameCase_walked _ _).faults]
  have spun (b : BayNo) (h : (s.bay b).state = .spun) : (s.sensorFlagged.bay b).state = .spun := by
    by_cases rolling : s.motion.cls = .rolling
    · rw [State.sensorFlagged_of_rolling rolling]; exact h
    · rw [State.sensorFlagged_of_other rolling, State.rolledInto_bay (State.flagLost_queuesMatch q)
        (by rw [show s.flagLost.bay b = s.bay b from rfl, h]; decide), BayRec.exposeToRolling_state]
      exact h
  refine ⟨?_, ?_, ?_, ?_, ?_, fun other => ?_, fun b => ?_, fun b h => ?_, fun b => ?_, ?_, ?_, ?_⟩
  · rw [after.lost, motion]
  · rw [after.cls, motion]
  · rw [after.missing, motion]; exact missing
  · rw [after.ring, motion]
  · obtain ⟨sticky, pending, -⟩ := s.sensorFlagged.reportCase_faults .sensorLost
    rw [faults, store] at pending
    rw [faults] at sticky
    rw [State.caseReported, faultsT]
    exact ⟨sticky, pending⟩
  · have rolled := State.sensorFlagged_of_other other
    refine ⟨?_, ?_⟩
    · have notes := State.notes_rolledInto s.flagLost
      rw [← rolled] at notes
      exact (((State.event_reportCase (D := fun _ => False) s.sensorFlagged .sensorLost).trans
        (State.event_sweep _ .sensorLost)).notes (Notice.stable_events _) notes).lineUp
    · rw [State.pass_lineUp, State.loseSensor_eq]
      refine State.sweep_pass reported ?_ _
      rw [State.reportCase_pass, rolled, State.rolledInto_pass]
  · rw [State.lineUp_bay, State.loseSensor_eq]
    exact State.sweep_unloadable reported _ b
  · have still : ((s.sensorFlagged.reportCase .sensorLost).bay b).state = .spun := by rw [State.reportCase_bay]; exact spun b h
    rw [State.lineUp_bay, State.loseSensor_eq, State.sweep_bay_of_empty reported _ (by rw [still]; decide) (by rw [still]; rfl),
      BayRec.swept_state, still]
    rfl
  · have swept := (State.sameCounters_sweep (s.sensorFlagged.reportCase .sensorLost) .sensorLost b).rollsLoaded
    rw [State.lineUp_bay, State.loseSensor_eq, swept, State.reportCase_bay]
    by_cases rolling : s.motion.cls = .rolling
    · rw [if_neg (fun h => h.1 rolling), State.sensorFlagged_of_rolling rolling]; rfl
    · rw [State.sensorFlagged_of_other rolling, (State.rolledInto_counters (State.flagLost_queuesMatch q) b).1]
      simp only [ne_eq, rolling, not_false_eq_true, true_and]
      rfl
  · rw [after.supply, supply]
  · rw [after.transit, transit]
  · rw [after.store, store]

/-! ### Missing samples (R80) -/

/-- A state in which missing samples are counted: time, the count and the next mark have changed. -/
def State.withCount (now missing next : Nat) (s : State) : State :=
  { s with now := now, motion := { s.motion with missing := missing, nextSample := next } }

/-- A run of missing samples up to the twentieth loses the sensor (R80, log 12). -/
theorem State.missingSamples_lose (n : Nat) (lost : s.motion.lost = false)
    (last : n = 0 ∧ 19 ≤ s.motion.missing ∨ s.motion.missing + (n + 1) = 20) :
    ∃ now missing next, 20 ≤ missing ∧ State.missingSamples (n + 1) s = (s.withCount now missing next).loseSensor := by
  induction n generalizing s with
  | zero =>
    have many : 19 ≤ s.motion.missing := by omega
    refine ⟨_, _, _, ?_, State.missingSample_of_many (s := s.toSample) lost many⟩
    exact Nat.succ_le_succ many
  | succ n ih =>
    have few : s.motion.missing + 1 < 20 := by omega
    have counted : s.toSample.missingSample = s.toSample.missCounted :=
      State.missingSample_of_few (s := s.toSample) (.inr few)
    obtain ⟨now, missing, next, reached, run⟩ := ih (s := s.toSample.missCounted) lost
      (.inr (by change s.motion.missing + 1 + (n + 1) = 20; omega))
    refine ⟨now, missing, next, reached, ?_⟩
    rw [State.missingSamples, counted, run]
    rfl

/-- What loses the sensor: the row of that name, or the twentieth missing sample (R80, log 12). -/
theorem exec_loseSensor {dt : Nat} {c : Instr} (lost : s.motion.lost = false)
    (h : c = .sensorLost dt ∨ ∃ ready x y z, c = .motionSample dt ready x y z ∧
      sampleValid ready { x := x, y := y, z := z } = false ∧ 19 ≤ s.motion.missing) :
    ∃ now missing next, 20 ≤ missing ∧ exec c s = .next (s.withCount now missing next).loseSensor.lineUp := by
  rcases h with rfl | ⟨ready, x, y, z, rfl, invalid, many⟩
  · have step : exec (.sensorLost dt) s =
        .next (State.missingSamples (max 1 (20 - s.motion.missing)) (s.elapse dt)).lineUp :=
      congrArg (fun t => Host.Outcome.next (State.lineUp t))
        (if_neg (show ¬ (s.elapse dt).motion.lost = true from by rw [show (s.elapse dt).motion.lost = false from lost]; decide))
    obtain ⟨n, count⟩ : ∃ n, max 1 (20 - s.motion.missing) = n + 1 := ⟨max 1 (20 - s.motion.missing) - 1, by omega⟩
    obtain ⟨now, missing, next, reached, run⟩ := State.missingSamples_lose (s := s.elapse dt) n lost
      (by change n = 0 ∧ 19 ≤ s.motion.missing ∨ s.motion.missing + (n + 1) = 20; omega)
    exact ⟨now, missing, next, reached, by rw [step, count, run]; rfl⟩
  · obtain ⟨now, -, -, -, taken⟩ := State.toSample_eq dt s
    have step := exec_sample (dt := dt) (ready := ready) (x := x) (y := y) (z := z) (s := s)
    rw [if_neg (by rw [invalid]; decide), taken, State.missingSample_of_many (s := s.atSample now) lost many] at step
    exact ⟨_, _, _, Nat.succ_le_succ many, step⟩

end

/-- Settles O28. -/
theorem sensorLossAndRecovery : Obligations.SensorLossAndRecovery := by
  refine ⟨fun dt s c q lost loses => ?_, fun dt s lost => ?_, fun dt x y z s lost valid => ?_⟩
  · obtain ⟨now, missing, next, reached, step⟩ := exec_loseSensor lost loses
    exact ⟨_, step, State.loseSensor_result (s := s.withCount now missing next) q reached⟩
  · have step : exec (.sensorLost dt) s = .next (s.elapse dt).lineUp :=
      congrArg (fun t => Host.Outcome.next (State.lineUp t)) (if_pos (show (s.elapse dt).motion.lost = true from lost))
    exact ⟨_, step, State.lineUp_motion _, State.lineUp_bays _, State.lineUp_faults _⟩
  · obtain ⟨now, -, -, -, taken⟩ := State.toSample_eq dt s
    have step := exec_sample (dt := dt) (ready := true) (x := x) (y := y) (z := z) (s := s)
    have recovers : (s.atSample now).validSample { x := x, y := y, z := z } =
        (s.atSample now).recover { x := x, y := y, z := z } := if_pos lost
    rw [if_pos valid, taken, recovers] at step
    obtain ⟨nowT, motion, faults⟩ := (s.atSample now).recover_blocks { x := x, y := y, z := z }
    refine ⟨_, step, ?_⟩
    rw [State.lineUp_motion, motion, State.lineUp_now, nowT, State.lineUp_faults, faults]
    refine ⟨rfl, rfl, rfl, rfl, rfl, rfl, rfl, ?_, rfl, ?_⟩
    · have notes := ((s.atSample now).modMotion (fun m => { m with
        lost := false, missing := 0, ring := [], lastSamples := [] })).notes_changeClass .unsettled
      exact (State.Notes.congr (t := (s.atSample now).recover { x := x, y := y, z := z }) notes rfl).lineUp
    · rw [State.pass_lineUp, State.recover, State.enterRing, ← State.changeClass_pass .unsettled
        ((s.atSample now).modMotion (fun m => { m with lost := false, missing := 0, ring := [], lastSamples := [] }))]
      exact State.pass_congr rfl rfl rfl rfl rfl fun _ => Iff.rfl

end Sys2Proof.Machine
end

section
/-! PROOFS. The jolt test of a sample (R89 to R91, R95). -/

namespace Sys2Proof.Machine

/-! ### Sets of bays -/

theorem inSet_foldl (p : BayNo → Bool) (l : List BayNo) (set : BaySet) (x : BayNo) :
    inSet (l.foldl (fun set b => if p b then addToSet set b else set) set) x = (inSet set x || (decide (x ∈ l) && p x)) := by
  induction l generalizing set with
  | nil => simp
  | cons b l ih =>
    rw [List.foldl_cons, ih]
    by_cases here : x = b
    · subst here
      cases p x <;> simp
    · by_cases listed : p b = true
      · rw [if_pos listed]; simp [here]
      · rw [if_neg listed]; simp [here]

@[simp] theorem inSet_baySetOf (p : BayNo → Bool) (x : BayNo) : inSet (baySetOf p) x = p x := by
  rw [baySetOf, inSet_foldl, show inSet (0 : BaySet) x = false from inSet_zero x]
  simp [mem_allBays]

section

variable {s t u : State} {b x : BayNo} {k : SweepKind} {a : Accel}

/-! ### Evaluations where no SPIN entry is eligible (R35) -/

/-- ROLLING under PARK_AND_STOP: only tests are granted. -/
def State.spinsShut (s : State) : Prop := s.motion.cls = .rolling ∧ s.settings.rollingPolicy = .parkAndStop

theorem State.spinsShut.congr (h : s.spinsShut) (cls : t.motion.cls = s.motion.cls) (store : t.store = s.store) :
    t.spinsShut :=
  ⟨cls.trans h.1, (congrArg (·.working.case.rollingPolicy) store).trans h.2⟩

/-- A bay that waits for its grant or is in its test. -/
def BayRec.waitsOrTests (r : BayRec) : Prop := r.state = .queued ∨ r.state = .diag

theorem State.evaluate_waitsOrTests (shut : s.spinsShut) (h : (s.bay x).waitsOrTests) : (s.evaluate.bay x).waitsOrTests := by
  refine (State.evaluate_induct (P := fun t => t.spinsShut ∧ (t.bay x).waitsOrTests) (fun t p pass ⟨shut, h⟩ => ?_) s
    ⟨shut, h⟩).2
  have grants := State.grants_of_pass pass
  have bay : (t.raised p).bay x = t.bay x := by rw [State.raised_eq]; rfl
  refine ⟨shut.congr (by simp) (by simp), ?_⟩
  rw [State.carryOut_eq]
  by_cases here : x = p.granted.bay
  · have test : p.granted.kind = .test := by
      cases kind : p.granted.kind with
      | test => rfl
      | spin =>
        have eligible := grants.eligible
        simp [State.eligible, kind, State.motionAdmitsSpinUp, shut.1, shut.2] at eligible
    rw [here, State.grant_bay_self, BayRec.waitsOrTests, BayRec.granted_state, test]
    exact .inr rfl
  · rw [State.grant_bay_ne _ _ here, bay]
    exact h

theorem State.sweep_waitsOrTests (q : s.queuesMatch) (shut : s.spinsShut) (h : (s.bay x).waitsOrTests) (k : SweepKind) :
    ((s.sweep k).bay x).waitsOrTests := by
  have walked : (s.walked k).spinsShut ∧ ((s.walked k).bay x).waitsOrTests := by
    refine State.walked_induct (P := fun t => t.spinsShut ∧ (t.bay x).waitsOrTests) (fun t b ⟨shut, h⟩ => ?_)
      (fun t _ _ h => h) ⟨shut, h⟩
    have same := t.sameCase_sweepBay k b
    refine ⟨shut.congr (by rw [same.motion]) same.store, ?_⟩
    by_cases here : x = b
    · subst here
      unfold State.sweepBay
      rcases h with queued | diag
      · rw [queued]; exact .inl queued
      · rw [diag]; exact .inr diag
    · unfold State.sweepBay
      split
      iterate 3
        rw [State.sweepIntent_bay_ne _ k here, State.emergencyPlacement_bay_ne _ here]
        exact h
      · rw [State.sweepIntent_bay_ne _ k here]; exact h
      · split
        · rw [State.spinDownWith_bay_ne _ _ here]; exact h
        · exact h
      · split
        · have down := (t.sameCase_releaseGrant b).trans (State.sameCase_spinDownWith _ b .stopAfter)
          rw [State.abortSpinUp]
          exact State.evaluate_waitsOrTests (shut.congr (by rw [down.motion]) down.store)
            (by rw [State.spinDownWith_bay_ne _ _ here]; exact h)
        · exact h
      all_goals exact h
  rw [State.sweep_eq, State.startPass_bay ((s.keeps_walked k).queues q)]
  · exact walked.2
  · rcases walked.2 with h | h <;> rw [h] <;> decide

/-- A sweep that stops no spindle leaves the state of a bay outside the loaded condition. -/
theorem State.sweep_state_kept (q : s.queuesMatch) (other : k ≠ .parkAndStop) (empty : (s.bay x).state.inLoadedCondition = false) :
    ((s.sweep k).bay x).state = (s.bay x).state := by
  by_cases queued : (s.bay x).state = .queued
  · have same := State.walked_queued other queued
    rw [State.sweep_eq, State.startPass_bay ((s.keeps_walked k).queues q) (by rw [same, queued]; decide), same]
  · rw [State.sweep_bay_of_empty q k queued empty, BayRec.swept_state]
    cases state : (s.bay x).state <;> simp [state, BayState.inLoadedCondition] at empty ⊢
    all_goals exact other

/-! ### The exposures of a jolt (R90) -/

theorem BayRec.exposeToJolt_state (r : BayRec) : r.exposeToJolt.state = r.state := by
  unfold BayRec.exposeToJolt
  split <;> rfl

theorem BayRec.exposeToJolt_rolls (r : BayRec) : r.exposeToJolt.rollsLoaded = r.rollsLoaded := by
  unfold BayRec.exposeToJolt
  split <;> rfl

theorem BayRec.exposeToJolt_loaded (r : BayRec) : r.exposeToJolt.joltsLoaded =
    if r.state.inLoadedCondition then min 65535 (r.joltsLoaded + 1) else r.joltsLoaded := by
  unfold BayRec.exposeToJolt
  cases r.state <;> rfl

theorem BayRec.exposeToJolt_parked (r : BayRec) : r.exposeToJolt.joltsParked =
    if r.state = .spinningUp ∨ r.state = .spun ∨ r.state = .spinningDown then min 65535 (r.joltsParked + 1)
    else r.joltsParked := by
  unfold BayRec.exposeToJolt
  cases r.state <;> rfl

theorem BayRec.exposeToJolt_stopped (r : BayRec) : r.exposeToJolt.joltsStopped =
    if r.state = .stopped ∨ r.state = .queued ∨ r.state = .diag ∨ r.state = .held ∨ r.state = .fenced then
      min 65535 (r.joltsStopped + 1)
    else r.joltsStopped := by
  unfold BayRec.exposeToJolt
  cases r.state <;> rfl

theorem State.openJolt_bay (s : State) (before : MotionClass) (d : Nat) (x : BayNo) :
    (s.openJolt before d).bay x = (s.bay x).exposeToJolt := by
  have exposed : ((s.modMotion (fun m => { m with
      jolts := pushKeeping 8 m.jolts (s.freshJolt before d), opened := m.opened + 1 })).modBays BayRec.exposeToJolt).bay x = (s.bay x).exposeToJolt := by
    rw [State.bay_modBays]; rfl
  unfold State.openJolt
  dsimp only
  rw [State.closeJolt_bay, State.addCaseEvent_bay]
  split
  · exact exposed
  · rw [State.reportCase_bay]; exact exposed

theorem State.openJolt_blocks (s : State) (before : MotionClass) (d : Nat) :
    (s.openJolt before d).arbiter = s.arbiter ∧ (s.openJolt before d).scheduler = s.scheduler ∧
      (s.loadedSet ≠ 0 → s.caseReported (s.openJolt before d) .joltLoaded) ∧
      (s.loadedSet = 0 → s.caseSetsKept (s.openJolt before d)) := by
  unfold State.openJolt
  dsimp only
  split
  · rename_i none
    exact ⟨by simp, by simp, fun some => absurd none some, fun _ => ⟨by simp, by simp⟩⟩
  · rename_i some
    obtain ⟨sticky, pending, -⟩ := ((s.modMotion (fun m => { m with
      jolts := pushKeeping 8 m.jolts (s.freshJolt before d), opened := m.opened + 1 })).modBays
        BayRec.exposeToJolt).reportCase_faults .joltLoaded
    refine ⟨by simp, by simp, fun _ => ?_, fun none => absurd none some⟩
    rw [State.caseReported, State.closeJolt_faults, State.addCaseEvent_faults]
    exact ⟨sticky, pending⟩

theorem State.notes_openJolt (s : State) (before : MotionClass) (d : Nat) : (s.openJolt before d).Notes .theCase
    (fun n => n.events &&& CaseEvent.joltOpened.bit = CaseEvent.joltOpened.bit) := by
  unfold State.openJolt
  dsimp only
  split
  · exact (State.event_closeJolt (D := fun _ => False) _).notes (Notice.stable_events _) (State.notes_addCaseEvent _ _)
  · exact (State.event_closeJolt (D := fun _ => False) _).notes (Notice.stable_events _) (State.notes_addCaseEvent _ _)

/-! ### The jolt test (R89 to R91) -/

/-- The time of the last jolt taken. -/
def State.stampJolt (now : Nat) (s : State) : State := s.modMotion (fun m => { m with lastJolt := some now })

/-- A jolt merged into the newest record. -/
def State.mergeJolt (d : Nat) (s : State) : State :=
  s.modMotion (fun m => { m with jolts := modNewest (JoltRec.merge d) m.jolts })

theorem State.testJolt_of_low (before : MotionClass) {d : Nat} (low : d < s.settings.joltThreshold) :
    s.testJolt before d = (s, none) := if_neg (Nat.not_le.mpr low)

theorem State.testJolt_of_merge (before : MotionClass) {d : Nat} (high : s.settings.joltThreshold ≤ d)
    (merges : s.joltMerges = true) : s.testJolt before d = ((s.mergeJolt d).stampJolt s.now, none) := by
  rw [State.testJolt, if_pos high, if_pos merges]
  rfl

theorem State.testJolt_of_open (before : MotionClass) {d : Nat} (high : s.settings.joltThreshold ≤ d)
    (apart : s.joltMerges = false) : s.testJolt before d = ((s.openJolt before d).stampJolt s.now, some .jolt) := by
  rw [State.testJolt, if_pos high, if_neg (by rw [apart]; decide)]
  rfl

/-- A jolt opens a record where none is open and the last jolt lies more than 200 ms back (R89). -/
theorem State.joltMerges_iff (s : State) : s.joltMerges = false ↔
    (∀ j, s.newestJolt = some j → j.isOpen = false) ∧ ∀ p, s.motion.lastJolt = some p → 200000 < s.now - p := by
  unfold State.joltMerges
  rw [Bool.or_eq_false_iff]
  refine and_congr ?_ ?_
  · cases s.newestJolt with
    | none => simp
    | some j => simp
  · cases s.motion.lastJolt with
    | none => simp
    | some p =>
      simp [joltMergeSpan, ms]
      omega

theorem State.testJolt_state (s : State) (before : MotionClass) (d : Nat) (x : BayNo) :
    ((s.testJolt before d).1.bay x).state = (s.bay x).state := by
  by_cases high : s.settings.joltThreshold ≤ d
  · cases merges : s.joltMerges with
    | true => rw [State.testJolt_of_merge before high merges]; rfl
    | false =>
      rw [State.testJolt_of_open before high merges]
      exact (congrArg BayRec.state (s.openJolt_bay before d x) :).trans (BayRec.exposeToJolt_state _)
  · rw [State.testJolt_of_low before (Nat.not_le.mp high)]

theorem State.testJolt_arbiter (s : State) (before : MotionClass) (d : Nat) : (s.testJolt before d).1.arbiter = s.arbiter := by
  by_cases high : s.settings.joltThreshold ≤ d
  · cases merges : s.joltMerges with
    | true => rw [State.testJolt_of_merge before high merges]; rfl
    | false =>
      rw [State.testJolt_of_open before high merges]
      exact (s.openJolt_blocks before d).1
  · rw [State.testJolt_of_low before (Nat.not_le.mp high)]

theorem State.testJolt_pass (s : State) (before : MotionClass) (d : Nat) : (s.testJolt before d).1.pass = s.pass := by
  have after := s.joltsOnly_testJolt before d
  exact State.pass_congr (s.testJolt_arbiter before d) after.store (by rw [after.supply]) after.cls (by rw [after.transit])
    fun x => by rw [s.testJolt_state before d x]

/-! ### Bays after the class is settled -/

theorem State.sampled_queuesMatch (q : s.queuesMatch) (a : Accel) : (s.sampled a).queuesMatch :=
  ((s.keeps_enterRing a _).trans (State.keeps_restartDwell _ _)).queues q

theorem State.reclassed_queuesMatch (q : s.queuesMatch) (a : Accel) : (s.reclassed a).queuesMatch :=
  (State.keeps_settleClass _ _).queues (State.sampled_queuesMatch q a)

theorem State.sampled_bay (a : Accel) (s : State) (x : BayNo) : (s.sampled a).bay x = s.bay x :=
  State.bay_of_bays (s.sampled_blocks a).2.1 x

/-- The grants of a class change, at one bay: what it was, or its grant. -/
theorem State.regranted (q : s.queuesMatch) (new : MotionClass) (x : BayNo) :
    (s.classChanged new).evaluate.bay x = s.bay x ∨ (s.bay x).state = .queued ∧
      ∃ k, (s.classChanged new).evaluate.bay x = (s.bay x).granted k (s.effective x) s.now := by
  have matched := State.classChanged_queuesMatch q new
  rcases (State.admits_evaluate matched).bays x with same | ⟨k, mem, granted⟩
  · exact .inl same
  · exact .inr ⟨(matched.entry_iff x).mp ⟨k, (State.entryKind_eq_some matched.nodup).mpr mem⟩, k, granted⟩

/-- A sample that does not settle on STILL: each bay keeps its state but for grants, and its jolt counters. -/
theorem State.reclassed_bay (q : s.queuesMatch) (moving : s.sampleClass a = .still → s.motion.cls = .still) (x : BayNo) :
    (((s.reclassed a).bay x).state = (s.bay x).state ∨ (s.bay x).state = .queued ∧
      (((s.reclassed a).bay x).state = .spinningUp ∨ ((s.reclassed a).bay x).state = .diag)) ∧
    ((s.reclassed a).bay x).joltsLoaded = (s.bay x).joltsLoaded ∧
    ((s.reclassed a).bay x).joltsParked = (s.bay x).joltsParked ∧
    ((s.reclassed a).bay x).joltsStopped = (s.bay x).joltsStopped := by
  have changed (new : MotionClass) :
      ((((s.sampled a).classChanged new).evaluate.bay x).state = (s.bay x).state ∨ (s.bay x).state = .queued ∧
        ((((s.sampled a).classChanged new).evaluate.bay x).state = .spinningUp ∨
          (((s.sampled a).classChanged new).evaluate.bay x).state = .diag)) := by
    rcases State.regranted (State.sampled_queuesMatch q a) new x with same | ⟨queued, k, granted⟩
    · exact .inl (by rw [same, State.sampled_bay])
    · refine .inr ⟨by rw [← queued, State.sampled_bay], ?_⟩
      rw [granted, BayRec.granted_state]
      cases k
      · exact .inl rfl
      · exact .inr rfl
  have counters (new : MotionClass) := ((s.sampled a).classChanged new).sameCounters_evaluate x
  have before (new : MotionClass) : ((s.sampled a).classChanged new).bay x = s.bay x := s.sampled_bay a x
  by_cases same : s.sampleClass a = s.motion.cls
  · rw [(State.reclassed_of_same same).1, State.sampled_bay]
    exact ⟨.inl rfl, rfl, rfl, rfl⟩
  · by_cases rolling : s.sampleClass a = .rolling
    · rw [(State.reclassed_of_rolling (fun h => same (rolling.trans h.symm)) rolling).1]
      have counted := counters .rolling
      rw [before] at counted
      have record : (((s.sampled a).changeClass .rolling).exposeToRolling).bay x = _ := State.bay_modBays _ _ _
      rw [record, BayRec.exposeToRolling_eq]
      exact ⟨changed .rolling, counted.joltsLoaded, counted.joltsParked, counted.joltsStopped⟩
    · have unsettled : ¬ s.sampleClass a = .still := fun still => same (still.trans (moving still).symm)
      have counted := counters (s.sampleClass a)
      rw [before] at counted
      rw [(State.reclassed_of_other same rolling).1, State.changeClass_eq, if_neg unsettled]
      exact ⟨changed _, counted.joltsLoaded, counted.joltsParked, counted.joltsStopped⟩

end

end Sys2Proof.Machine
end

section
/-! PROOFS. Samples with a jolt: records that open and jolts that merge (R89 to R91, R95). -/

namespace Sys2Proof.Machine

section

variable {s t u : State} {b x : BayNo} {k : SweepKind} {a : Accel}

/-! ### Sweeps after the jolt test -/

theorem State.marks_sweep (s : State) (k : SweepKind) : s.Marks (s.sweep k) :=
  (State.Marks.of_eq (s.sameCase_walked k).motion).trans (State.marks_startPass _)

theorem State.marks_sweep? (s : State) (k : Option SweepKind) : s.Marks (s.sweep? k) := by
  cases k with
  | none => exact .of_eq rfl
  | some k => exact s.marks_sweep k

theorem State.sweep_faults (s : State) (k : SweepKind) : (s.sweep k).faults = s.faults := by
  rw [State.sweep_eq, State.startPass_faults, (s.sameCase_walked k).faults]

theorem State.sweep?_faults (s : State) (k : Option SweepKind) : (s.sweep? k).faults = s.faults := by
  cases k with
  | none => rfl
  | some k => exact s.sweep_faults k

theorem State.jolted_queuesMatch (q : s.queuesMatch) (a : Accel) : (s.jolted a).queuesMatch :=
  (State.keeps_testJolt _ _ _).queues (State.reclassed_queuesMatch q a)

/-- The sweeps of a sample leave the Fault Unit and the counters, and the monitor but for marks. -/
theorem State.validSample_swept (here : s.motion.lost = false) (a : Accel) : (s.jolted a).Marks (s.validSample a) ∧
    (s.jolted a).SameCounters (s.validSample a) ∧ (s.validSample a).faults = (s.jolted a).faults := by
  rw [State.validSample_eq here]
  exact ⟨((s.jolted a).marks_sweep? _).trans (State.marks_sweep? _ _),
    ((s.jolted a).sameCounters_sweep? _).trans (State.sameCounters_sweep? _ _),
    (State.sweep?_faults _ _).trans (State.sweep?_faults _ _)⟩

/-- Marks leave the counts of the records. -/
theorem State.Marks.counts (h : s.Marks t) : t.motion.opened = s.motion.opened ∧
    t.motion.jolts.length = s.motion.jolts.length ∧ t.motion.lastJolt = s.motion.lastJolt := by
  obtain ⟨f, -, motion⟩ := h
  rw [motion]
  exact ⟨rfl, length_modNewest _ _, rfl⟩

/-! ### The class that a jolt settles -/

/-- A deviation at the jolt threshold lies above the roll threshold, so that it settles no class on STILL (R85, R86, R160). -/
theorem State.sampleClass_of_jolt (valid : s.store.working.valid = true)
    (high : s.settings.joltThreshold ≤ s.motion.deviation a) (still : s.sampleClass a = .still) : s.motion.cls = .still := by
  have settings := WorkingSettings.case_valid valid
  simp only [CaseSettings.valid, within, Bool.and_eq_true, decide_eq_true_eq] at settings
  obtain ⟨now, -, -, -, -, -, -, store, cls⟩ := s.sampled_blocks a
  have dwell : s.settings.stillnessDwell * 1000 ≠ 0 := by
    have range : 500 ≤ s.store.working.case.stillnessDwell := by omega
    exact Nat.mul_ne_zero (by rw [State.settings]; omega) (by decide)
  have rolls : s.settings.rollThreshold ≤ s.motion.deviation a := by
    have below : s.store.working.case.rollThreshold < s.store.working.case.joltThreshold := by omega
    exact Nat.le_trans (Nat.le_of_lt below) high
  unfold State.sampleClass State.settledClass at still
  rw [cls] at still
  cases old : s.motion.cls with
  | still => rfl
  | rolling =>
    rw [old] at still
    dsimp only at still
    split at still <;> exact nomatch still
  | unsettled =>
    rw [old] at still
    dsimp only at still
    split at still
    · exact nomatch still
    · split at still
      · rename_i dwelt
        rw [State.sampled_motion, if_pos ⟨old, rolls⟩, now, Nat.sub_self, Nat.le_zero] at dwelt
        rw [show (s.sampled a).settings = s.settings from congrArg (·.working.case) store] at dwelt
        exact absurd dwelt dwell
      · exact nomatch still

/-- Under PARK_AND_STOP no SPIN entry is granted on the way into ROLLING. -/
theorem State.reclassed_waits (rolling : s.rollingSweep a = some .parkAndStop)
    (queued : (s.bay x).state = .queued) : (s.reclassed a).spinsShut ∧ ((s.reclassed a).bay x).waitsOrTests := by
  have store := (s.sampled_blocks a).2.2.2.2.2.2.2.1
  by_cases same : s.sampleClass a = s.motion.cls
  · rw [(State.reclassed_of_same same).2] at rolling
    exact nomatch rolling
  · by_cases new : s.sampleClass a = .rolling
    · obtain ⟨record, sweep⟩ := State.reclassed_of_rolling (fun h => same (new.trans h.symm)) new
      have policy : s.settings.rollingPolicy = .parkAndStop := by
        rw [sweep] at rolling
        cases h : s.settings.rollingPolicy <;> rw [h] at rolling <;> simp [RollingPolicy.sweepKind] at rolling
      have shut : ((s.sampled a).classChanged .rolling).spinsShut :=
        ⟨rfl, (congrArg (·.working.case.rollingPolicy) store).trans policy⟩
      rw [record]
      refine ⟨shut.congr ?_ ?_, ?_⟩
      · exact congrArg (Motion.cls) (((s.sampled a).changeClass_blocks .rolling).2.1)
      · exact ((s.sampled a).changeClass_blocks .rolling).2.2.2.2.2.2
      · have evaluated := State.evaluate_waitsOrTests (x := x) shut (.inl (by rw [← queued]; exact congrArg _ (s.sampled_bay a x)))
        have record : (((s.sampled a).changeClass .rolling).exposeToRolling).bay x = _ := State.bay_modBays _ _ _
        rw [record, BayRec.waitsOrTests, BayRec.exposeToRolling_state]
        exact evaluated
    · rw [(State.reclassed_of_other same new).2] at rolling
      exact nomatch rolling

theorem State.jolted_state (a : Accel) (s : State) (x : BayNo) :
    ((s.jolted a).bay x).state = ((s.reclassed a).bay x).state := State.testJolt_state _ _ _ x

theorem State.sweep?_state_kept (q : s.queuesMatch) {k : Option SweepKind} (other : k ≠ some .parkAndStop)
    (empty : (s.bay x).state.inLoadedCondition = false) : ((s.sweep? k).bay x).state = (s.bay x).state := by
  cases k with
  | none => rfl
  | some k => exact State.sweep_state_kept q (fun h => other (congrArg some h)) empty

theorem State.joltSweep_ne (a : Accel) (s : State) : s.joltSweep a ≠ some .parkAndStop := by
  unfold State.joltSweep State.testJolt
  split
  · dsimp only
    split
    · exact nofun
    · exact nofun
  · exact nofun

theorem State.sweep?_waitsOrTests (q : s.queuesMatch) (shut : s.spinsShut) (h : (s.bay x).waitsOrTests)
    (k : Option SweepKind) : (s.sweep? k).spinsShut ∧ ((s.sweep? k).bay x).waitsOrTests := by
  have after := s.joltsOnly_sweep? k
  refine ⟨shut.congr after.cls after.store, ?_⟩
  cases k with
  | none => exact h
  | some k => exact State.sweep_waitsOrTests q shut h k

/-- A QUEUED bay that a class change grants keeps its grant through the sweeps of the sample, and no sweep grants a
spin-up (log 33). -/
theorem State.validSample_queued (q : s.queuesMatch) (here : s.motion.lost = false)
    (moving : s.sampleClass a = .still → s.motion.cls = .still) (queued : (s.bay x).state = .queued) :
    ((s.validSample a).bay x).state = .spinningUp ↔ ((s.reclassed a).bay x).state = .spinningUp := by
  have jolted := State.jolted_queuesMatch q a
  have swept := (State.keeps_sweep? (s.jolted a) (s.rollingSweep a)).queues jolted
  rw [State.validSample_eq here]
  by_cases stops : s.rollingSweep a = some .parkAndStop
  · obtain ⟨shut, waits⟩ := State.reclassed_waits stops queued
    have after := State.joltsOnly_testJolt (s.reclassed a) s.motion.cls (s.motion.deviation a)
    have shutJ : (s.jolted a).spinsShut := shut.congr after.cls after.store
    have waitsJ : ((s.jolted a).bay x).waitsOrTests := by rw [BayRec.waitsOrTests, State.jolted_state]; exact waits
    obtain ⟨shutS, first⟩ := State.sweep?_waitsOrTests jolted shutJ waitsJ (s.rollingSweep a)
    have second := (State.sweep?_waitsOrTests swept shutS first (s.joltSweep a)).2
    have never {r : BayRec} (h : r.waitsOrTests) : ¬ r.state = .spinningUp := by
      rcases h with h | h <;> rw [h] <;> decide
    exact iff_of_false (never second) (never waits)
  · have empty : ((s.jolted a).bay x).state.inLoadedCondition = false := by
      rw [State.jolted_state]
      rcases (State.reclassed_bay q moving x).1 with same | ⟨-, up | test⟩
      · rw [same, queued]; rfl
      · rw [up]; rfl
      · rw [test]; rfl
    have first := State.sweep?_state_kept jolted stops empty
    rw [State.sweep?_state_kept swept (s.joltSweep_ne a) (by rw [first]; exact empty), first, State.jolted_state]

theorem State.reclassed_inLoaded (q : s.queuesMatch) (moving : s.sampleClass a = .still → s.motion.cls = .still) (x : BayNo) :
    ((s.reclassed a).bay x).state.inLoadedCondition = (s.bay x).state.inLoadedCondition := by
  rcases (State.reclassed_bay q moving x).1 with same | ⟨queued, up | test⟩
  · rw [same]
  · rw [up, queued]; rfl
  · rw [test, queued]; rfl

theorem State.loadedSet_eq_zero (s : State) : s.loadedSet = 0 ↔ ∀ x, (s.bay x).state.inLoadedCondition = false := by
  rw [baySet_ext_iff]
  refine forall_congr' fun x => ?_
  rw [State.loadedSet, inSet_baySetOf, inSet_zero]

/-! ### Records that open (R89, R90, R95) -/

/-- What a sample with a jolt that opens a record leaves (R89, R90). -/
structure State.OpensJolt (s t : State) (d : Nat) : Prop where
  opened : t.motion.opened = s.motion.opened + 1
  length : t.motion.jolts.length = min 8 (s.motion.jolts.length + 1)
  newest : ∃ j, t.newestJolt = some j ∧ j.time = caseClock t.now ∧ j.peak = d ∧ j.count = 1 ∧
    j.classBefore = s.motion.cls ∧ ∀ b, inSet j.loaded b = (s.bay b).state.inLoadedCondition
  raised : t.caseRaised .joltOpened
  loaded : ∀ b, (t.bay b).joltsLoaded =
    if (s.bay b).state.inLoadedCondition then min 65535 ((s.bay b).joltsLoaded + 1) else (s.bay b).joltsLoaded
  others : ∀ b, (s.bay b).state ≠ .queued →
    (t.bay b).joltsParked =
      (if (s.bay b).state = .spinningUp ∨ (s.bay b).state = .spun ∨ (s.bay b).state = .spinningDown then
        min 65535 ((s.bay b).joltsParked + 1)
      else (s.bay b).joltsParked) ∧
    (t.bay b).joltsStopped =
      (if (s.bay b).state = .stopped ∨ (s.bay b).state = .diag ∨ (s.bay b).state = .held ∨
          (s.bay b).state = .fenced then min 65535 ((s.bay b).joltsStopped + 1)
      else (s.bay b).joltsStopped)
  queued : ∀ b, (s.bay b).state = .queued →
    ((t.bay b).state = .spinningUp →
      (t.bay b).joltsParked = min 65535 ((s.bay b).joltsParked + 1) ∧
      (t.bay b).joltsStopped = (s.bay b).joltsStopped) ∧
    ((t.bay b).state ≠ .spinningUp →
      (t.bay b).joltsStopped = min 65535 ((s.bay b).joltsStopped + 1) ∧
      (t.bay b).joltsParked = (s.bay b).joltsParked)
  reported : (∃ b, (s.bay b).state.inLoadedCondition = true) → s.caseReported t .joltLoaded
  quiet : (∀ b, (s.bay b).state.inLoadedCondition = false) → s.caseSetsKept t
  unloadable : ∀ b, (t.bay b).state ≠ .loading ∧ (t.bay b).state ≠ .loaded

theorem pushKeeping_length {α : Type} {n : Nat} (l : List α) (x : α) :
    (pushKeeping n l x).length = min n (l.length + 1) := by
  simp only [pushKeeping, List.length_drop, List.length_append, List.length_singleton]
  omega

theorem JoltRec.settled_marked_count (j : JoltRec) (clock : Word32) : (j.settled clock).time = j.time ∧
    (j.settled clock).peak = j.peak ∧ (j.settled clock).count = j.count ∧
    (j.settled clock).classBefore = j.classBefore ∧ (j.settled clock).loaded = j.loaded :=
  have marked := j.marked_settled clock
  ⟨marked.time, marked.peak, marked.count, marked.classBefore, marked.loaded⟩

theorem State.validSample_opens (q : s.queuesMatch) (valid : s.store.working.valid = true) (here : s.motion.lost = false)
    (high : s.settings.joltThreshold ≤ s.motion.deviation a)
    (apart : (∀ j, s.newestJolt = some j → j.isOpen = false) ∧ ∀ p, s.motion.lastJolt = some p → 200000 < s.now - p) :
    s.OpensJolt (s.validSample a).lineUp (s.motion.deviation a) := by
  have moving := State.sampleClass_of_jolt (a := a) valid high
  obtain ⟨now, motion, faults, -, -, -, store⟩ := s.reclassed_blocks a
  have settings : (s.reclassed a).settings = s.settings := congrArg (·.working.case) store
  have records : (s.reclassed a).motion.jolts = s.motion.jolts := by rw [motion, State.sampled_motion]
  have last : (s.reclassed a).motion.lastJolt = s.motion.lastJolt := by rw [motion, State.sampled_motion]
  have opens : (s.reclassed a).joltMerges = false := by
    rw [State.joltMerges_iff, State.newestJolt, records, last, now]
    exact apart
  have jolted : (s.jolted a) = (((s.reclassed a).openJolt s.motion.cls (s.motion.deviation a)).stampJolt (s.reclassed a).now) ∧
      s.joltSweep a = some .jolt := by
    rw [State.jolted, State.joltSweep, State.testJolt_of_open _ (by rw [settings]; exact high) opens]
    exact ⟨rfl, rfl⟩
  obtain ⟨record, jolt⟩ := jolted
  obtain ⟨marks, counters, faultsT⟩ := State.validSample_swept here a
  obtain ⟨opened, length, -⟩ := marks.counts
  have joltedMotion : (s.jolted a).motion = { s.reclassed a |>.motion with
      jolts := pushKeeping 8 s.motion.jolts (((s.reclassed a).freshJolt s.motion.cls (s.motion.deviation a)).settled
        (s.reclassed a).clock)
      opened := s.motion.opened + 1
      lastJolt := some s.now } := by
    have openedR : (s.reclassed a).motion.opened = s.motion.opened := by rw [motion, State.sampled_motion]
    rw [record, State.stampJolt, State.modMotion, State.openJolt_motion, records, openedR, now]
  have bay (x : BayNo) : (s.jolted a).bay x = ((s.reclassed a).bay x).exposeToJolt := by
    rw [record]
    exact State.openJolt_bay _ _ _ x
  have joltedFaults : (s.jolted a).faults = ((s.reclassed a).openJolt s.motion.cls (s.motion.deviation a)).faults := by
    rw [record]; rfl
  obtain ⟨-, -, reports, keeps⟩ := (s.reclassed a).openJolt_blocks s.motion.cls (s.motion.deviation a)
  have loaded (x : BayNo) := State.reclassed_inLoaded q moving x
  have kept (x : BayNo) := State.reclassed_bay q moving x
  refine ⟨?_, ?_, ?_, ?_, fun b => ?_, fun b notQueued => ?_, fun b queued => ?_, fun ⟨b, inside⟩ => ?_, fun outside => ?_,
    fun b => ?_⟩
  · rw [State.lineUp_motion, opened, joltedMotion]
  · rw [State.lineUp_motion, length, joltedMotion]
    exact pushKeeping_length _ _
  · have newest : (s.jolted a).newestJolt = some (((s.reclassed a).freshJolt s.motion.cls (s.motion.deviation a)).settled
        (s.reclassed a).clock) := by
      rw [State.newestJolt, joltedMotion, pushKeeping_eq (by decide)]
      exact List.getLast?_concat
    obtain ⟨j, there, marked⟩ := marks.newest newest
    obtain ⟨time, peak, count, before, set⟩ := ((s.reclassed a).freshJolt s.motion.cls (s.motion.deviation a)).settled_marked_count
      (s.reclassed a).clock
    refine ⟨j, ?_, ?_, marked.peak.trans peak, marked.count.trans count, marked.classBefore.trans before, fun b => ?_⟩
    · rw [State.newestJolt, State.lineUp_motion]; exact there
    · rw [marked.time, time, State.lineUp_now, (State.joltsOnly_validSample here a).now]
      rfl
    · rw [marked.loaded, set, ← loaded b]
      exact inSet_baySetOf _ b
  · have notes : (s.jolted a).Notes .theCase (fun n => n.events &&& CaseEvent.joltOpened.bit = CaseEvent.joltOpened.bit) := by
      rw [record]
      exact State.Notes.congr ((s.reclassed a).notes_openJolt _ _) rfl
    rw [State.validSample_eq here]
    exact (((State.event_sweep? (D := fun _ => False) (s.jolted a) _).trans (State.event_sweep? _ _)).notes
      (Notice.stable_events _) notes).lineUp
  · rw [State.lineUp_bay, (counters b).joltsLoaded, bay, BayRec.exposeToJolt_loaded, loaded, (kept b).2.1]
  · have same : ((s.reclassed a).bay b).state = (s.bay b).state := (kept b).1.resolve_right fun h => notQueued h.1
    rw [State.lineUp_bay, (counters b).joltsParked, (counters b).joltsStopped, bay, BayRec.exposeToJolt_parked,
      BayRec.exposeToJolt_stopped, same, (kept b).2.2.1, (kept b).2.2.2]
    refine ⟨rfl, ?_⟩
    simp only [notQueued, false_or]
  · have grants := State.validSample_queued q here moving queued
    rw [State.lineUp_bay, (counters b).joltsParked, (counters b).joltsStopped, bay, BayRec.exposeToJolt_parked,
      BayRec.exposeToJolt_stopped, (kept b).2.2.1, (kept b).2.2.2, ne_eq, grants]
    rcases (kept b).1 with same | ⟨-, up | test⟩
    · rw [same, queued]; simp
    · rw [up]; simp
    · rw [test]; simp
  · have nonzero : (s.reclassed a).loadedSet ≠ 0 := fun zero => by
      have outside := (State.loadedSet_eq_zero _).mp zero b
      rw [loaded, inside] at outside
      exact nomatch outside
    obtain ⟨sticky, pending⟩ := reports nonzero
    rw [faults, store] at pending
    rw [faults] at sticky
    rw [State.caseReported, State.lineUp_faults, faultsT, joltedFaults]
    exact ⟨sticky, pending⟩
  · have sets := keeps ((State.loadedSet_eq_zero _).mpr fun b => (loaded b).trans (outside b))
    rw [State.caseSetsKept, faults] at sets
    rw [State.caseSetsKept, State.lineUp_faults, faultsT, joltedFaults]
    exact sets
  · rw [State.lineUp_bay, State.validSample_eq here, jolt]
    exact State.sweep_unloadable ((State.keeps_sweep? _ _).queues (State.jolted_queuesMatch q a)) .jolt b

/-! ### Jolts that merge (R89, R91) -/

theorem State.validSample_merges (q : s.queuesMatch) (valid : s.store.working.valid = true) (here : s.motion.lost = false)
    (high : s.settings.joltThreshold ≤ s.motion.deviation a)
    (near : ¬ ((∀ j, s.newestJolt = some j → j.isOpen = false) ∧
      ∀ p, s.motion.lastJolt = some p → 200000 < s.now - p)) (old : List JoltRec) (j : JoltRec)
    (jolts : s.motion.jolts = old ++ [j]) :
    (s.validSample a).lineUp.motion.opened = s.motion.opened ∧ s.caseSetsKept (s.validSample a).lineUp ∧
      (∃ j', (s.validSample a).lineUp.motion.jolts = old ++ [j'] ∧ j'.peak = max j.peak (s.motion.deviation a) ∧
        j'.count = min 255 (j.count + 1) ∧ j'.time = j.time ∧ j'.loaded = j.loaded) ∧
      (∀ b, ((s.validSample a).lineUp.bay b).joltsLoaded = (s.bay b).joltsLoaded ∧
        ((s.validSample a).lineUp.bay b).joltsParked = (s.bay b).joltsParked ∧
        ((s.validSample a).lineUp.bay b).joltsStopped = (s.bay b).joltsStopped) := by
  have moving := State.sampleClass_of_jolt (a := a) valid high
  obtain ⟨now, motion, faults, -, -, -, store⟩ := s.reclassed_blocks a
  have settings : (s.reclassed a).settings = s.settings := congrArg (·.working.case) store
  have records : (s.reclassed a).motion.jolts = s.motion.jolts := by rw [motion, State.sampled_motion]
  have last : (s.reclassed a).motion.lastJolt = s.motion.lastJolt := by rw [motion, State.sampled_motion]
  have openedR : (s.reclassed a).motion.opened = s.motion.opened := by rw [motion, State.sampled_motion]
  have merges : (s.reclassed a).joltMerges = true := by
    rw [← Bool.not_eq_false, State.joltMerges_iff, State.newestJolt, records, last, now]
    exact near
  have record : s.jolted a = ((s.reclassed a).mergeJolt (s.motion.deviation a)).stampJolt (s.reclassed a).now := by
    rw [State.jolted, State.testJolt_of_merge _ (by rw [settings]; exact high) merges]
  obtain ⟨marks, counters, faultsT⟩ := State.validSample_swept here a
  obtain ⟨f, marked, motionT⟩ := marks
  rw [State.caseSetsKept, State.lineUp_faults, faultsT, State.lineUp_motion, motionT, record]
  refine ⟨openedR, by rw [← faults]; exact ⟨rfl, rfl⟩, ?_, fun b => ?_⟩
  · have merged : (((s.reclassed a).mergeJolt (s.motion.deviation a)).stampJolt (s.reclassed a).now).motion.jolts =
        old ++ [j.merge (s.motion.deviation a)] := by
      change modNewest (JoltRec.merge (s.motion.deviation a)) (s.reclassed a).motion.jolts = _
      rw [records, jolts, modNewest_append]
    refine ⟨f (j.merge (s.motion.deviation a)), ?_, (marked _).peak, (marked _).count, (marked _).time, (marked _).loaded⟩
    dsimp only
    rw [merged, modNewest_append]
  · obtain ⟨-, loaded, parked, stopped⟩ := State.reclassed_bay q moving b
    have bay : (s.jolted a).bay b = (s.reclassed a).bay b := by rw [record]; rfl
    rw [State.lineUp_bay, (counters b).joltsLoaded, (counters b).joltsParked, (counters b).joltsStopped, bay]
    exact ⟨loaded, parked, stopped⟩

theorem State.validSample_lastJolt (here : s.motion.lost = false) (high : s.settings.joltThreshold ≤ s.motion.deviation a) :
    (s.validSample a).lineUp.motion.lastJolt = some (s.validSample a).lineUp.now := by
  obtain ⟨now, -, -, -, -, -, store⟩ := s.reclassed_blocks a
  have settings : (s.reclassed a).settings = s.settings := congrArg (·.working.case) store
  obtain ⟨marks, -, -⟩ := State.validSample_swept here a
  rw [State.lineUp_motion, State.lineUp_now, marks.counts.2.2, (State.joltsOnly_validSample here a).now, State.jolted]
  cases merges : (s.reclassed a).joltMerges with
  | true => rw [State.testJolt_of_merge _ (by rw [settings]; exact high) merges]; rfl
  | false => rw [State.testJolt_of_open _ (by rw [settings]; exact high) merges]; rfl

end

/-- A valid sample of a sensor that is not lost, taken on its mark. -/
theorem exec_validSample {dt : Nat} {x y z : Int} {s : State}
    (valid : sampleValid true { x := x, y := y, z := z } = true) :
    ∃ now, exec (.motionSample dt true x y z) s = .next ((s.atSample now).validSample { x := x, y := y, z := z }).lineUp := by
  obtain ⟨now, -, -, -, taken⟩ := State.toSample_eq dt s
  have step := exec_sample (dt := dt) (ready := true) (x := x) (y := y) (z := z) (s := s)
  rw [if_pos valid, taken] at step
  exact ⟨now, step⟩

/-- Settles O27. -/
theorem joltsOpenOrMerge : Obligations.JoltsOpenOrMerge := by
  intro dt x y z s q settings valid lost high
  obtain ⟨now, step⟩ := exec_validSample (dt := dt) (s := s) valid
  have nowT : ((s.atSample now).validSample { x := x, y := y, z := z }).lineUp.now = now := by
    rw [State.lineUp_now, (State.joltsOnly_validSample (s := s.atSample now) lost _).now, (State.reclassed_blocks _ _).1]
    rfl
  refine ⟨_, step, State.validSample_lastJolt (s := s.atSample now) lost high, fun opens => ?_, fun near old j jolts => ?_⟩
  · rw [nowT] at opens
    have result := State.validSample_opens (s := s.atSample now) (a := { x := x, y := y, z := z }) q settings lost high opens
    exact ⟨result.opened, result.length, result.newest, result.raised, result.loaded, result.others, result.queued,
      result.reported, result.quiet, result.unloadable⟩
  · rw [nowT] at near
    exact State.validSample_merges (s := s.atSample now) (a := { x := x, y := y, z := z }) q settings lost high near old j jolts

end Sys2Proof.Machine
end

section
/-! PROOFS. The motion class that a sample settles, with the effects of a change (R85 to R88, R105 to R108). -/

namespace Sys2Proof.Machine

section

variable {s t u : State} {b x : BayNo} {k : SweepKind} {a : Accel}

/-! ### What a sweep makes of the bays (R106 to R109) -/

/-- The turn of a bay in the loaded condition (R106). -/
theorem BayRec.swept_loaded {r : BayRec} (loaded : r.state.inLoadedCondition = true) (k : SweepKind) (p : Profile) (now : Nat) :
    (r.swept k p now).state = (if r.state = .unloading then .unloading else .parkQueued) ∧
      (r.swept k p now).prk = r.prk ∧ (r.swept k p now).pending = r.pending ∧
      (r.swept k p now).intent = if k.stops then r.intent.toStop else r.intent := by
  unfold BayRec.swept
  cases state : r.state with
  | loading | loaded =>
    unfold BayRec.sweptIntent
    dsimp only
    split
    · exact ⟨rfl, rfl, rfl, rfl⟩
    · exact ⟨rfl, rfl, rfl, rfl⟩
  | parkQueued | unloading =>
    unfold BayRec.sweptIntent
    dsimp only
    split
    · exact ⟨state, rfl, rfl, rfl⟩
    · exact ⟨state, rfl, rfl, rfl⟩
  | vacant | stopped | queued | spinningUp | spun | spinningDown | diag | held | fenced =>
    rw [state] at loaded; exact nomatch loaded

theorem BayState.queued_of_loaded {st : BayState} (loaded : st.inLoadedCondition = true) : st ≠ .queued :=
  fun queued => by rw [queued] at loaded; exact nomatch loaded

/-- A bay in the loaded condition whose drive is not parked waits or unloads after a sweep. -/
theorem State.sweep_loaded (q : s.queuesMatch) (loaded : (s.bay x).state.inLoadedCondition = true)
    (free : (s.bay x).prk = false) (k : SweepKind) :
    (((s.sweep k).bay x).state = .parkQueued ∨ ((s.sweep k).bay x).state = .unloading) ∧
      ((s.sweep k).bay x).prk = false ∧
      ((s.sweep k).bay x).intent = if k.stops then (s.bay x).intent.toStop else (s.bay x).intent := by
  obtain ⟨state, prk, -, intent⟩ := BayRec.swept_loaded loaded k (s.governing x) s.now
  have sweptBay := State.sweep_bay q k x
  rw [State.walked_bay q k (BayState.queued_of_loaded loaded)] at sweptBay
  generalize (s.bay x).swept k (s.governing x) s.now = w at *
  rcases sweptBay with stands | ⟨waits, started⟩
  · rw [stands]
    refine ⟨?_, prk.trans free, intent⟩
    rw [state]
    split
    · exact .inr rfl
    · exact .inl rfl
  · rw [started, BayRec.unloadStarted_of_free (prk.trans free)]
    exact ⟨.inr rfl, prk.trans free, intent⟩

/-! ### The origin and the pointer (R100, R104) -/

/-- The origin and the pointer of the Unload Scheduler stand. -/
def State.SamePointers (s t : State) : Prop :=
  t.scheduler.origin = s.scheduler.origin ∧ t.scheduler.pointer = s.scheduler.pointer

theorem State.SamePointers.trans (h : s.SamePointers t) (g : t.SamePointers u) : s.SamePointers u :=
  ⟨g.1.trans h.1, g.2.trans h.2⟩

theorem State.SamePointers.of_scheduler (h : t.scheduler = s.scheduler) : s.SamePointers t := ⟨by rw [h], by rw [h]⟩

theorem State.samePointers_emergencyPlacement (s : State) (b : BayNo) : s.SamePointers (s.emergencyPlacement b) := by
  unfold State.emergencyPlacement
  split
  iterate 2
    rw [State.SamePointers, State.enter_scheduler]
    exact ⟨rfl, rfl⟩
  · split
    · exact ⟨rfl, rfl⟩
    · exact ⟨rfl, rfl⟩
  all_goals exact ⟨rfl, rfl⟩

theorem State.sweepIntent_scheduler (s : State) (k : SweepKind) (b : BayNo) : (s.sweepIntent k b).scheduler = s.scheduler := by
  unfold State.sweepIntent
  split
  · rfl
  · rfl

theorem State.samePointers_sweepBay (s : State) (k : SweepKind) (b : BayNo) : s.SamePointers (s.sweepBay k b) := by
  unfold State.sweepBay
  split
  iterate 3 exact (s.samePointers_emergencyPlacement b).trans (.of_scheduler (State.sweepIntent_scheduler _ k b))
  · exact .of_scheduler (s.sweepIntent_scheduler k b)
  · split
    · exact .of_scheduler (by simp [State.spinDownWith, State.setIntent])
    · exact ⟨rfl, rfl⟩
  · split
    · exact .of_scheduler (by simp [State.abortSpinUp, State.spinDownWith, State.setIntent])
    · exact ⟨rfl, rfl⟩
  all_goals exact ⟨rfl, rfl⟩

theorem State.samePointers_turns (k : SweepKind) (l : List BayNo) (s : State) : s.SamePointers (s.turns k l) := by
  induction l generalizing s with
  | nil => exact ⟨rfl, rfl⟩
  | cons b l ih => exact (s.samePointers_sweepBay k b).trans (ih _)

theorem State.samePointers_startPass (s : State) : s.SamePointers s.startPass := by
  refine State.startPass_induct (P := fun t => s.SamePointers t) (fun t b rest pop h => h.trans ?_) s ⟨rfl, rfl⟩
  obtain ⟨-, -, origin, pointer⟩ := Scheduler.waiting_of_popHead pop
  rw [State.SamePointers, State.startUnload_scheduler]
  split
  · exact ⟨origin, pointer⟩
  · exact ⟨origin, pointer⟩

/-- The origin and the pointer after a sweep (R100, R104). -/
theorem State.sweep_pointers (k : SweepKind) (s : State) :
    (s.sweep k).scheduler.origin =
        (if s.settings.originRotation = true then s.scheduler.origin + 1 else s.scheduler.origin) ∧
      (s.sweep k).scheduler.pointer = s.scheduler.origin := by
  have turned := (s.modScheduler (fun q => { q with pointer := q.origin })).samePointers_turns k (walkFrom s.scheduler.origin)
  have passed := (s.walked k).samePointers_startPass
  rw [State.sweep_eq, passed.1, passed.2]
  unfold State.walked
  generalize (s.modScheduler (fun q => { q with pointer := q.origin })).turns k (walkFrom s.scheduler.origin) = w at turned ⊢
  obtain ⟨origin, pointer⟩ := turned
  simp only [State.modScheduler] at origin pointer ⊢
  exact ⟨by rw [origin], pointer⟩

/-! ### Exposures leave the rest of a record -/

/-- The fields that no exposure changes. -/
structure BayRec.Exposed (r u : BayRec) : Prop where
  state : u.state = r.state
  intent : u.intent = r.intent
  loadOnArrival : u.loadOnArrival = r.loadOnArrival
  attempts : u.attempts = r.attempts
  sticky : u.sticky = r.sticky
  prk : u.prk = r.prk

theorem BayRec.exposed_jolt (r : BayRec) : r.Exposed r.exposeToJolt := by
  unfold BayRec.exposeToJolt
  split <;> exact ⟨rfl, rfl, rfl, rfl, rfl, rfl⟩

theorem BayRec.exposed_rolling (r : BayRec) : r.Exposed r.exposeToRolling := by
  unfold BayRec.exposeToRolling
  split
  · exact ⟨rfl, rfl, rfl, rfl, rfl, rfl⟩
  · exact ⟨rfl, rfl, rfl, rfl, rfl, rfl⟩

theorem BayRec.Exposed.trans {r u v : BayRec} (h : r.Exposed u) (g : u.Exposed v) : r.Exposed v :=
  ⟨g.state.trans h.state, g.intent.trans h.intent, g.loadOnArrival.trans h.loadOnArrival, g.attempts.trans h.attempts,
    g.sticky.trans h.sticky, g.prk.trans h.prk⟩

theorem State.testJolt_exposed (s : State) (before : MotionClass) (d : Nat) (x : BayNo) :
    (s.bay x).Exposed ((s.testJolt before d).1.bay x) ∧
      ((s.testJolt before d).1.bay x).rollsLoaded = (s.bay x).rollsLoaded := by
  have stands : (s.bay x).Exposed (s.bay x) := ⟨rfl, rfl, rfl, rfl, rfl, rfl⟩
  by_cases high : s.settings.joltThreshold ≤ d
  · cases merges : s.joltMerges with
    | true => rw [State.testJolt_of_merge before high merges]; exact ⟨stands, rfl⟩
    | false =>
      have record : (((s.openJolt before d).stampJolt s.now)).bay x = (s.bay x).exposeToJolt := s.openJolt_bay before d x
      rw [State.testJolt_of_open before high merges, record]
      exact ⟨BayRec.exposed_jolt _, BayRec.exposeToJolt_rolls _⟩
  · rw [State.testJolt_of_low before (Nat.not_le.mp high)]
    exact ⟨stands, rfl⟩

theorem State.jolted_exposed (q : s.queuesMatch) (changed : s.motion.cls ≠ .rolling) (new : s.sampleClass a = .rolling)
    (queued : (s.bay x).state ≠ .queued) : (s.bay x).Exposed ((s.jolted a).bay x) := by
  have record : (s.reclassed a).bay x = (s.bay x).exposeToRolling := by
    rw [(State.reclassed_of_rolling changed new).1]
    exact (State.rolledInto_bay (State.sampled_queuesMatch q a) (by rw [State.sampled_bay]; exact queued)).trans
      (by rw [State.sampled_bay])
  have tested := (State.testJolt_exposed (s.reclassed a) s.motion.cls (s.motion.deviation a) x).1
  rw [record] at tested
  exact (BayRec.exposed_rolling _).trans tested

/-! ### The class (R85, R86) -/

/-- The sample's class, by the table of R85. -/
theorem State.sampleClass_eq (a : Accel) (s : State) : s.sampleClass a =
    (let rolls := s.settings.rollCount ≤
      ((pushKeeping 64 s.motion.ring (s.motion.deviation a)).filter (fun e => s.settings.rollThreshold ≤ e)).length
     let dwelt := if s.settings.rollThreshold ≤ s.motion.deviation a then 0 else s.now - s.motion.dwellStart
     match s.motion.cls with
      | .still => if rolls then .rolling else if s.settings.rollThreshold ≤ s.motion.deviation a then .unsettled else .still
      | .unsettled =>
        if rolls then .rolling else if s.settings.stillnessDwell * 1000 ≤ dwelt then .still else .unsettled
      | .rolling => if rolls then .rolling else .unsettled) := by
  obtain ⟨now, -, -, -, -, -, -, store, cls⟩ := s.sampled_blocks a
  have settings : (s.sampled a).settings = s.settings := congrArg (·.working.case) store
  unfold State.sampleClass State.settledClass Motion.rollFigure
  rw [cls, settings, now, State.sampled_motion]
  cases old : s.motion.cls with
  | still => rfl
  | rolling => rfl
  | unsettled =>
    dsimp only
    by_cases rolls : s.settings.rollThreshold ≤ s.motion.deviation a
    · simp [rolls, ms]
    · simp [rolls, ms]

theorem getLast?_pushKeeping {α : Type} {n : Nat} (h : 0 < n) (l : List α) (x : α) : (pushKeeping n l x).getLast? = some x := by
  rw [pushKeeping_eq h]
  exact List.getLast?_concat

/-! ### Changes to STILL (R48, R87) -/

/-- What a try of the deferred load makes of a SPUN bay in STILL or where the supply is back (R48, R87, R123). -/
structure State.TriesLoad (b : BayNo) (s t : State) (mayLoad : Prop) (now : Nat) : Prop where
  unasked : (s.bay b).loadOnArrival = false → t.bay b = s.bay b
  refused : (s.bay b).loadOnArrival = true → s.admission b = .exposed →
    t.bay b = { s.bay b with loadOnArrival := false } ∧ t.bayRaised b .loadRefused
  started : (s.bay b).loadOnArrival = true → s.admission b ≠ .exposed → s.transit.mode = .normal → mayLoad →
    (t.bay b).state = .loading ∧ (t.bay b).hld = true ∧ (t.bay b).loadOnArrival = false ∧
      (t.bay b).timers.load = some (now + (s.governing b).loadTimeout * 1000)
  waits : (s.bay b).loadOnArrival = true → s.admission b ≠ .exposed → s.transit.mode = .transitSafe ∨ ¬ mayLoad →
    t.bay b = s.bay b

/-- The deferred loads tried in a state that differs from `s` in what does not concern bay `b`. -/
theorem State.triesLoad (bay : t.bay b = s.bay b) (store : t.store = s.store) (transit : t.transit = s.transit)
    (spun : (s.bay b).state = .spun) : State.TriesLoad b s t.tryDeferredLoads.lineUp
      (t.motion.cls = .still ∧ t.supply.cls ≠ .cut) t.now := by
  have exposed : t.admission b = .exposed ↔ s.admission b = .exposed := by
    rw [← State.exposed_iff, ← State.exposed_iff, State.exposed, State.exposed, bay, State.settings, store, State.settings]
  have spunT : (t.bay b).state = .spun := by rw [bay]; exact spun
  refine ⟨fun flag => ?_, fun flag refused => ⟨?_, ?_⟩, fun flag notExposed normal mayLoad => ?_,
    fun flag notExposed waits => ?_⟩
  · rw [State.lineUp_bay, State.tryDeferredLoads_bay, State.deferred, if_neg (fun asked => ?_), bay]
    rw [bay, flag] at asked
    exact nomatch asked.2
  · rw [State.lineUp_bay, State.tryDeferredLoads_bay, State.deferred, if_pos ⟨spunT, by rw [bay]; exact flag⟩,
      if_pos (exposed.mpr refused), bay]
  · exact (State.notes_tryDeferredLoads spunT (by rw [bay]; exact flag) (exposed.mpr refused)).lineUp
  · have admitted : t.admission b = .accepted :=
      State.admission_accepted.mpr ⟨fun h => notExposed (exposed.mp h), mayLoad⟩
    have started : t.tryDeferredLoads.lineUp.bay b = t.loadStarted b := by
      rw [State.lineUp_bay, State.tryDeferredLoads_bay, State.deferred, if_pos ⟨spunT, by rw [bay]; exact flag⟩,
        if_neg (fun h => notExposed (exposed.mp h)), if_pos ⟨admitted, by rw [transit]; exact normal⟩]
    rw [started, State.loadStarted, State.governing_congr store bay]
    exact ⟨rfl, rfl, rfl, rfl⟩
  · rw [State.lineUp_bay, State.tryDeferredLoads_bay, State.deferred, if_pos ⟨spunT, by rw [bay]; exact flag⟩,
      if_neg (fun h => notExposed (exposed.mp h)), if_neg, bay]
    rintro ⟨admitted, normal⟩
    rcases waits with safe | barred
    · rw [transit, safe] at normal
      exact nomatch normal
    · exact barred (State.admission_accepted.mp admitted).2

theorem State.validSample_of_low (here : s.motion.lost = false) (low : s.motion.deviation a < s.settings.joltThreshold) :
    s.validSample a = (s.reclassed a).sweep? (s.rollingSweep a) := by
  have settings : (s.reclassed a).settings = s.settings :=
    congrArg (·.working.case) (s.reclassed_blocks a).2.2.2.2.2.2
  have tested : (s.reclassed a).testJolt s.motion.cls (s.motion.deviation a) = (s.reclassed a, none) :=
    State.testJolt_of_low _ (by rw [settings]; exact low)
  rw [State.validSample_eq here, State.jolted, State.joltSweep, tested]
  rfl

/-- A change to STILL tries the deferred loads (R87). -/
theorem State.validSample_still (q : s.queuesMatch) (here : s.motion.lost = false) (new : s.sampleClass a = .still)
    (old : s.motion.cls ≠ .still) (low : s.motion.deviation a < s.settings.joltThreshold) (spun : (s.bay b).state = .spun) :
    State.TriesLoad b s (s.validSample a).lineUp (s.supply.cls ≠ .cut) s.now := by
  obtain ⟨now, -, -, -, -, supply, transit, store, -⟩ := s.sampled_blocks a
  obtain ⟨record, none⟩ := State.reclassed_of_other (s := s) (a := a) (by rw [new]; exact old.symm) (by rw [new]; decide)
  rw [new] at record
  have result : s.validSample a = ((s.sampled a).classChanged .still).evaluate.tryDeferredLoads := by
    rw [State.validSample_of_low here low, none, record, State.changeClass_eq, if_pos rfl]
    rfl
  have bay : ((s.sampled a).classChanged .still).evaluate.bay b = s.bay b := by
    rw [State.evaluate_bay (State.classChanged_queuesMatch (State.sampled_queuesMatch q a) _)]
    · exact s.sampled_bay a b
    · rw [show ((s.sampled a).classChanged .still).bay b = s.bay b from s.sampled_bay a b, spun]; decide
  have tries := State.triesLoad (s := s) bay (by simp [State.classChanged, store]) (by simp [State.classChanged, transit]) spun
  have cls : ((s.sampled a).classChanged .still).evaluate.motion.cls = .still := by simp [State.classChanged]
  have supplyE : ((s.sampled a).classChanged .still).evaluate.supply = s.supply := by simp [State.classChanged, supply]
  have nowE : ((s.sampled a).classChanged .still).evaluate.now = s.now := by simp [State.classChanged, now]
  rw [cls, supplyE, nowE] at tries
  rw [result]
  exact ⟨tries.unasked, tries.refused, fun flag free normal supplied => tries.started flag free normal ⟨rfl, supplied⟩,
    fun flag free waits => tries.waits flag free (waits.imp_right fun barred may => barred may.2)⟩

/-! ### Entries into ROLLING (R88, R105 to R108) -/

/-- The sweep that the rolling policy hands (R88). -/
theorem RollingPolicy.sweepKind_of_ne {p : RollingPolicy} (h : p ≠ .keep) :
    ∃ k, p.sweepKind = some k ∧ (p = .park ∧ k = .park ∨ p = .parkAndStop ∧ k = .parkAndStop) := by
  cases p with
  | keep => exact absurd rfl h
  | park => exact ⟨_, rfl, .inl ⟨rfl, rfl⟩⟩
  | parkAndStop => exact ⟨_, rfl, .inr ⟨rfl, rfl⟩⟩

theorem State.sweep?_unloadable (q : s.queuesMatch) (h : ∀ x, (s.bay x).unloadable) (k : Option SweepKind) (x : BayNo) :
    ((s.sweep? k).bay x).unloadable := by
  cases k with
  | none => exact h x
  | some k => exact State.sweep_unloadable q k x

/-- The jolt test hands no sweep but that of a new record (R90). -/
theorem State.joltSweep_eq (a : Accel) (s : State) : s.joltSweep a = none ∨ s.joltSweep a = some .jolt := by
  unfold State.joltSweep State.testJolt
  split
  · dsimp only
    split
    · exact .inl rfl
    · exact .inr rfl
  · exact .inl rfl

/-- The sweep of a new record leaves the loaded bays waiting or unloading, with their intents. -/
theorem State.joltSweep_loaded (q : s.queuesMatch) {k : Option SweepKind} (jolt : k = none ∨ k = some .jolt)
    (state : (s.bay x).state = .parkQueued ∨ (s.bay x).state = .unloading) (free : (s.bay x).prk = false) :
    (((s.sweep? k).bay x).state = .parkQueued ∨ ((s.sweep? k).bay x).state = .unloading) ∧
      ((s.sweep? k).bay x).intent = (s.bay x).intent := by
  rcases jolt with rfl | rfl
  · exact ⟨state, rfl⟩
  · obtain ⟨states, -, intent⟩ := State.sweep_loaded q (by rcases state with h | h <;> rw [h] <;> rfl) free .jolt
    exact ⟨states, intent⟩

/-- The sweep of a new record leaves a bay outside the loaded condition. -/
theorem State.joltSweep_empty (q : s.queuesMatch) {k : Option SweepKind} (jolt : k = none ∨ k = some .jolt)
    (queued : (s.bay x).state ≠ .queued) (empty : (s.bay x).state.inLoadedCondition = false) :
    (s.sweep? k).bay x = s.bay x := by
  rcases jolt with rfl | rfl
  · rfl
  · rw [State.sweep?, State.sweep_bay_of_empty q .jolt queued empty, BayRec.swept]
    cases state : (s.bay x).state <;> simp [state, BayState.inLoadedCondition] at empty ⊢

/-- What an entry into ROLLING leaves, by the rolling policy (R88). -/
structure State.RollsInto (s t : State) (low : Prop) : Prop where
  keep : s.settings.rollingPolicy = .keep → low → t.scheduler = s.scheduler ∧ ∀ b, (s.bay b).state ≠ .queued →
    t.bay b = { s.bay b with rollsLoaded := (t.bay b).rollsLoaded }
  unloadable : s.settings.rollingPolicy ≠ .keep → ∀ b, (t.bay b).state ≠ .loading ∧ (t.bay b).state ≠ .loaded
  loaded : s.settings.rollingPolicy ≠ .keep → ∀ b, (s.bay b).state.inLoadedCondition = true → (s.bay b).prk = false →
    ((t.bay b).state = .parkQueued ∨ (t.bay b).state = .unloading) ∧
      (t.bay b).intent =
        if s.settings.rollingPolicy = .park ∨ (s.bay b).intent = .holdAfter then (s.bay b).intent else .stopAfter
  origin : s.settings.rollingPolicy ≠ .keep → low → t.scheduler.origin =
    if s.settings.originRotation = true then s.scheduler.origin + 1 else s.scheduler.origin
  park : s.settings.rollingPolicy = .park → ∀ b, (s.bay b).state = .spun ∨ (s.bay b).state = .spinningUp →
    (t.bay b).state = (s.bay b).state ∧ (t.bay b).intent = (s.bay b).intent
  stop : s.settings.rollingPolicy = .parkAndStop → ∀ b, (s.bay b).state = .spun ∨ (s.bay b).state = .spinningUp →
    (t.bay b).state = .spinningDown ∧ (t.bay b).intent = .stopAfter ∧ (t.bay b).spen = none ∧
      (t.bay b).loadOnArrival = (s.bay b).loadOnArrival ∧ (t.bay b).attempts = (s.bay b).attempts ∧
      (t.bay b).sticky = (s.bay b).sticky

theorem State.validSample_rolls (q : s.queuesMatch) (here : s.motion.lost = false) (new : s.sampleClass a = .rolling)
    (old : s.motion.cls ≠ .rolling) :
    s.RollsInto (s.validSample a).lineUp (s.motion.deviation a < s.settings.joltThreshold) := by
  obtain ⟨record, sweep⟩ := State.reclassed_of_rolling old new
  obtain ⟨-, -, -, scheduler, -, -, store⟩ := s.reclassed_blocks a
  have jolted := State.jolted_queuesMatch q a
  have swept := (State.keeps_sweep? (s.jolted a) (s.rollingSweep a)).queues jolted
  have exposed (b : BayNo) (queued : (s.bay b).state ≠ .queued) := State.jolted_exposed q old new (x := b) queued
  have spinning {b : BayNo} (h : (s.bay b).state = .spun ∨ (s.bay b).state = .spinningUp) :
      (s.bay b).state ≠ .queued ∧ (s.bay b).state.inLoadedCondition = false := by
    rcases h with h | h <;> rw [h] <;> exact ⟨by decide, rfl⟩
  refine ⟨fun policy low => ⟨?_, fun b queued => ?_⟩, fun policy b => ?_, fun policy b loaded free => ?_,
    fun policy low => ?_, fun policy b up => ?_, fun policy b up => ?_⟩
  · rw [State.lineUp_scheduler, State.validSample_of_low here low, sweep, policy]
    exact scheduler
  · have bay : (s.validSample a).bay b = (s.bay b).exposeToRolling := by
      rw [State.validSample_of_low here low, sweep, policy]
      change (s.reclassed a).bay b = _
      rw [record]
      exact (State.rolledInto_bay (State.sampled_queuesMatch q a) (by rw [State.sampled_bay]; exact queued)).trans
        (by rw [State.sampled_bay])
    rw [State.lineUp_bay, bay, BayRec.exposeToRolling_eq]
  · obtain ⟨k, kind, -⟩ := RollingPolicy.sweepKind_of_ne policy
    rw [State.lineUp_bay, State.validSample_eq here, sweep, kind]
    rw [sweep, kind] at swept
    exact State.sweep?_unloadable swept (fun x => State.sweep_unloadable jolted k x) _ b
  · obtain ⟨k, kind, which⟩ := RollingPolicy.sweepKind_of_ne policy
    have same := exposed b (BayState.queued_of_loaded loaded)
    obtain ⟨states, prk, intent⟩ := State.sweep_loaded jolted (by rw [same.state]; exact loaded) (by rw [same.prk]; exact free) k
    rw [State.lineUp_bay, State.validSample_eq here, sweep, kind]
    rw [sweep, kind] at swept
    obtain ⟨statesT, intentT⟩ := State.joltSweep_loaded swept (s.joltSweep_eq a) states prk
    refine ⟨statesT, intentT.trans (intent.trans ?_)⟩
    rw [same.intent]
    rcases which with ⟨park, rfl⟩ | ⟨stop, rfl⟩
    · simp [park, SweepKind.stops]
    · rw [stop]
      cases (s.bay b).intent <;> rfl
  · obtain ⟨k, kind, -⟩ := RollingPolicy.sweepKind_of_ne policy
    rw [State.lineUp_scheduler, State.validSample_of_low here low, sweep, kind, State.sweep?, (State.sweep_pointers k _).1,
      scheduler, show (s.reclassed a).settings = s.settings from congrArg (·.working.case) store]
  · obtain ⟨queued, empty⟩ := spinning up
    have same := exposed b queued
    have first : ((s.jolted a).sweep? (some .park)).bay b = (s.jolted a).bay b := by
      rw [State.sweep?, State.sweep_bay_of_empty jolted .park (by rw [same.state]; exact queued)
        (by rw [same.state]; exact empty), BayRec.swept]
      rw [same.state]
      rcases up with h | h <;> rw [h] <;> rfl
    have sweepP : s.rollingSweep a = some .park := by rw [sweep, policy]; rfl
    rw [sweepP] at swept
    rw [State.lineUp_bay, State.validSample_eq here, sweepP]
    rw [State.joltSweep_empty swept (s.joltSweep_eq a)]
    · exact ⟨(congrArg BayRec.state first).trans same.state, (congrArg BayRec.intent first).trans same.intent⟩
    · exact fun h => queued (same.state.symm.trans ((congrArg BayRec.state first).symm.trans h))
    · exact (congrArg (fun r => r.state.inLoadedCondition) first).trans
        ((congrArg BayState.inLoadedCondition same.state).trans empty)
  · obtain ⟨queued, empty⟩ := spinning up
    have same := exposed b queued
    obtain ⟨p, first⟩ : ∃ p, ((s.jolted a).sweep? (some .parkAndStop)).bay b =
        ((s.jolted a).bay b).spunDown .stopAfter p (s.jolted a).now := by
      refine ⟨(s.jolted a).governing b, ?_⟩
      rw [State.sweep?, State.sweep_bay_of_empty jolted .parkAndStop (by rw [same.state]; exact queued)
        (by rw [same.state]; exact empty), BayRec.swept]
      rw [same.state]
      rcases up with h | h <;> rw [h] <;> rfl
    have down : (((s.jolted a).sweep? (some .parkAndStop)).bay b).state = .spinningDown := by
      rw [first, BayRec.spunDown_eq]
    have sweepP : s.rollingSweep a = some .parkAndStop := by rw [sweep, policy]; rfl
    rw [sweepP] at swept
    rw [State.lineUp_bay, State.validSample_eq here, sweepP,
      State.joltSweep_empty swept (s.joltSweep_eq a) (by rw [down]; decide) (by rw [down]; rfl), first, BayRec.spunDown_eq]
    exact ⟨rfl, rfl, rfl, same.loadOnArrival, same.attempts, same.sticky⟩

/-! ### Changes raise MOTION_CHANGED and evaluate the grants (R87) -/

theorem State.reclassed_changed (changed : s.sampleClass a ≠ s.motion.cls) : (s.reclassed a).Notes .theCase
    (fun n => n.events &&& CaseEvent.motionChanged.bit = CaseEvent.motionChanged.bit) ∧ (s.reclassed a).pass = none := by
  by_cases rolling : s.sampleClass a = .rolling
  · rw [(State.reclassed_of_rolling (fun h => changed (rolling.trans h.symm)) rolling).1]
    exact ⟨State.notes_rolledInto _, State.rolledInto_pass _⟩
  · rw [(State.reclassed_of_other changed rolling).1]
    exact ⟨State.notes_changeClass _ _, State.changeClass_pass _ _⟩

theorem State.validSample_changed (q : s.queuesMatch) (here : s.motion.lost = false)
    (notes : (s.reclassed a).Notes .theCase
      (fun n => n.events &&& CaseEvent.motionChanged.bit = CaseEvent.motionChanged.bit))
    (pass : (s.reclassed a).pass = none) :
    (s.validSample a).lineUp.caseRaised .motionChanged ∧ (s.validSample a).lineUp.pass = none := by
  have jolted := State.jolted_queuesMatch q a
  have tested : (s.jolted a).pass = none := (State.testJolt_pass _ _ _).trans pass
  rw [State.pass_lineUp, State.validSample_eq here]
  refine ⟨?_, State.sweep?_pass ((State.keeps_sweep? _ _).queues jolted) (State.sweep?_pass jolted tested _) _⟩
  exact ((((s.reclassed a).event_testJolt (D := fun _ => False) s.motion.cls (s.motion.deviation a)).trans
    ((State.event_sweep? _ _).trans (State.event_sweep? _ _))).notes (Notice.stable_events _) notes).lineUp

/-! ### The exposure to rolling (R88) -/

theorem State.deferred_rolls (s : State) (b : BayNo) : (s.deferred b).rollsLoaded = (s.bay b).rollsLoaded := by
  unfold State.deferred
  split
  · split
    · rfl
    · split
      · rfl
      · rfl
  · rfl

theorem State.reclassed_rolls (q : s.queuesMatch) (a : Accel) (b : BayNo) : ((s.reclassed a).bay b).rollsLoaded =
    if s.sampleClass a = .rolling ∧ s.motion.cls ≠ .rolling ∧ (s.bay b).state.inLoadedCondition = true then
      min 65535 ((s.bay b).rollsLoaded + 1)
    else (s.bay b).rollsLoaded := by
  by_cases same : s.sampleClass a = s.motion.cls
  · rw [(State.reclassed_of_same same).1, State.sampled_bay, if_neg]
    rintro ⟨new, old, -⟩
    exact old (same.symm.trans new)
  · by_cases rolling : s.sampleClass a = .rolling
    · have old : s.motion.cls ≠ .rolling := fun h => same (rolling.trans h.symm)
      have counted := (State.rolledInto_counters (State.sampled_queuesMatch q a) b).1
      rw [State.sampled_bay] at counted
      rw [(State.reclassed_of_rolling old rolling).1]
      refine Eq.trans counted ?_
      simp [rolling, old]
    · have evaluated := (((s.sampled a).classChanged (s.sampleClass a)).sameCounters_evaluate b).rollsLoaded
      rw [show ((s.sampled a).classChanged (s.sampleClass a)).bay b = s.bay b from s.sampled_bay a b] at evaluated
      rw [(State.reclassed_of_other same rolling).1, if_neg (fun h => rolling h.1), State.changeClass_eq]
      split
      · rw [State.tryDeferredLoads_bay, State.deferred_rolls]; exact evaluated
      · exact evaluated

theorem State.validSample_rollsLoaded (q : s.queuesMatch) (here : s.motion.lost = false) (a : Accel) (b : BayNo) :
    ((s.validSample a).lineUp.bay b).rollsLoaded =
      if s.sampleClass a = .rolling ∧ s.motion.cls ≠ .rolling ∧ (s.bay b).state.inLoadedCondition = true then
        min 65535 ((s.bay b).rollsLoaded + 1)
      else (s.bay b).rollsLoaded := by
  rw [State.lineUp_bay, ((State.validSample_swept here a).2.1 b).rollsLoaded, ← State.reclassed_rolls q a b]
  exact (State.testJolt_exposed _ _ _ b).2

end

/-- Settles O26. -/
theorem motionClassSettles : Obligations.MotionClassSettles := by
  intro dt x y z s q valid lost
  obtain ⟨now, step⟩ := exec_validSample (dt := dt) (s := s) valid
  generalize ({ x := x, y := y, z := z } : Accel) = a at step
  have lostU : (s.atSample now).motion.lost = false := lost
  have qU : (s.atSample now).queuesMatch := q
  have clsU : (s.atSample now).motion.cls = s.motion.cls := rfl
  obtain ⟨nowR, motionR, -, -, supplyR, transitR, storeR⟩ := (s.atSample now).reclassed_blocks a
  have after := (State.joltsOnly_validSample lostU a).trans (State.joltsOnly_lineUp _)
  have table := (s.atSample now).sampleClass_eq a
  have rolls := State.validSample_rollsLoaded qU lostU a
  have still (b : BayNo) := State.validSample_still (s := s.atSample now) (a := a) (b := b) qU lostU
  have rolling := State.validSample_rolls (s := s.atSample now) (a := a) qU lostU
  have raised (changed : (s.atSample now).sampleClass a ≠ s.motion.cls) :
      ((s.atSample now).validSample a).lineUp.caseRaised .motionChanged ∧
        ((s.atSample now).validSample a).lineUp.pass = none := by
    obtain ⟨notes, pass⟩ := State.reclassed_changed (s := s.atSample now) changed
    exact State.validSample_changed qU lostU notes pass
  have clsT : ((s.atSample now).validSample a).lineUp.motion.cls = (s.atSample now).sampleClass a := by
    rw [after.cls, motionR]
  have ringT : ((s.atSample now).validSample a).lineUp.motion.ring =
      pushKeeping 64 s.motion.ring (s.motion.deviation a) := by
    rw [after.ring, motionR, State.sampled_motion]; rfl
  have nowT : ((s.atSample now).validSample a).lineUp.now = now := after.now.trans nowR
  have dwellT : ((s.atSample now).validSample a).lineUp.motion.dwellStart =
      if (s.atSample now).sampleClass a ≠ s.motion.cls ∧ (s.atSample now).sampleClass a = .unsettled then now
      else if s.motion.cls = .unsettled ∧ s.settings.rollThreshold ≤ s.motion.deviation a then now
      else s.motion.dwellStart := by
    rw [after.dwellStart, motionR, State.sampled_motion]; rfl
  refine ⟨_, step, ?_, after.supply.trans supplyR, after.transit.trans transitR, after.store.trans storeR⟩
  generalize ((s.atSample now).validSample a).lineUp = t at *
  rw [clsT, ringT, getLast?_pushKeeping (by decide), nowT]
  refine ⟨table, raised, fun new old => ?_, fun new old => ?_, fun new old low b spun => ?_, fun new old => ?_, fun b => ?_⟩
  · rw [dwellT, if_pos ⟨by rw [new]; exact old.symm, new⟩]
  · rw [dwellT, if_neg (fun h => h.1 (new.trans old.symm))]
    exact ite_congr (propext (and_iff_right old)) (fun _ => rfl) (fun _ => rfl)
  · have tries := still b new old low spun
    exact ⟨tries.unasked, tries.refused, tries.started, fun flag free waits =>
      tries.waits flag free (waits.imp_right fun cut supplied => supplied cut)⟩
  · have into := rolling new old
    exact ⟨into.keep, fun policy => ⟨into.unloadable policy, into.loaded policy, into.origin policy⟩, into.park, into.stop⟩
  · exact rolls b

end Sys2Proof.Machine
end

section
/-! PROOFS. Supply readings and the cut actions (R33, R114 to R123). -/

namespace Sys2Proof.Machine

section

variable {s t u : State} {b x : BayNo}

/-! ### Readings (R114 to R116) -/

/-- The class that a reading settles (R115, R116). -/
def State.readClass (v : Nat) (s : State) : SupplyClass :=
  if s.supply.lastReading.isNone then s.settings.firstClass v else s.settings.nextClass s.supply.cls v

/-- A reading changes the class: the first in every case (R115). -/
def State.readChanges (v : Nat) (s : State) : Prop := s.supply.lastReading = none ∨ s.readClass v ≠ s.supply.cls

/-- The reading taken, with the next one due. -/
def State.readTaken (v : Nat) (s : State) : State :=
  s.modSupply (fun m => { m with lastReading := some v, nextReading := some (s.now + readingPeriod) })

theorem State.readClass_eq (v : Nat) (s : State) : s.readClass v =
    if v ≤ s.settings.supplyCutoff then .cut
    else if s.supply.lastReading = none then (if v ≤ s.settings.supplyLow then .low else .normal)
    else match s.supply.cls with
      | .normal => if v ≤ s.settings.supplyLow then .low else .normal
      | .low => if s.settings.supplyLow + 200 ≤ v then .normal else .low
      | .cut => if s.settings.supplyLow + 200 ≤ v then .normal else if s.settings.supplyCutoff + 200 ≤ v then .low else .cut := by
  unfold State.readClass CaseSettings.firstClass CaseSettings.nextClass
  cases s.supply.lastReading with
  | none => simp
  | some r => simp <;> rfl

theorem State.takeReading_of_change {mv : Nat} (changes : s.readChanges (min 15000 mv)) :
    s.takeReading mv = (s.readTaken (min 15000 mv)).changeSupply (s.readClass (min 15000 mv)) := by
  unfold State.takeReading
  dsimp only
  cases last : s.supply.lastReading with
  | none =>
    rw [State.readClass, last]
    rfl
  | some r =>
    have differs := changes.resolve_left (by rw [last]; exact nofun)
    have next : s.readClass (min 15000 mv) = s.settings.nextClass s.supply.cls (min 15000 mv) := by
      rw [State.readClass, last]; rfl
    rw [next] at differs ⊢
    rw [if_neg (by simp), if_neg differs]
    rfl

theorem State.takeReading_of_same {mv : Nat} (same : ¬ s.readChanges (min 15000 mv)) :
    s.takeReading mv = s.readTaken (min 15000 mv) := by
  obtain ⟨last, cls⟩ := not_or.mp same
  have next : s.readClass (min 15000 mv) = s.settings.nextClass s.supply.cls (min 15000 mv) := by
    rw [State.readClass, if_neg (by simpa using last)]
  rw [next, Classical.not_not] at cls
  unfold State.takeReading
  dsimp only
  rw [if_neg (by simpa using last), if_pos cls]
  rfl

/-! ### Class changes (R118) -/

/-- The class and the budget of a change, with SUPPLY_CHANGED (R117, R118). -/
def State.supplyChanged (new : SupplyClass) (s : State) : State :=
  ((s.modSupply (fun m => { m with cls := new })).deriveBudget).addCaseEvent .supplyChanged

theorem State.supplyChanged_supply (new : SupplyClass) (s : State) :
    (s.supplyChanged new).supply = { s.supply with cls := new, budget := s.settings.budgetOf new } := rfl

theorem State.supplyChanged_bay (new : SupplyClass) (s : State) (x : BayNo) : (s.supplyChanged new).bay x = s.bay x := rfl

theorem State.keeps_supplyChanged (new : SupplyClass) (s : State) : s.Keeps (s.supplyChanged new) :=
  ((s.keeps_modSupply (f := fun m => { m with cls := new }) rfl).trans (State.keeps_deriveBudget _)).trans
    (State.keeps_addCaseEvent _ _)

/-- The change with its evaluation, ahead of the deferred loads. -/
def State.supplyEvaluated (new : SupplyClass) (s : State) : State := ((s.supplyChanged new).enterClass new).evaluate

theorem State.changeSupply_eq (new : SupplyClass) (s : State) : s.changeSupply new =
    if s.supply.cls = .cut ∧ new ≠ .cut then (s.supplyEvaluated new).tryDeferredLoads else s.supplyEvaluated new := by
  unfold State.changeSupply
  dsimp only
  by_cases leaves : s.supply.cls = .cut ∧ new ≠ .cut
  · rw [if_pos leaves, if_pos (by simpa using leaves)]
    rfl
  · rw [if_neg leaves, if_neg (by simpa using leaves)]
    rfl

/-! ### The cut actions (R119) -/

/-- The holders of a cut: each bay, and the Unload Scheduler. -/
def State.cutHolder : Option BayNo → State → State
  | some b => State.cutBay b
  | none => State.sweep .cut

/-- Their names, in the listed order. -/
def cutNames : List (Option BayNo) := allBays.map some ++ [none]

theorem State.cutActions_eq (s : State) : s.cutActions = s.inFreeOrder (cutNames.map State.cutHolder) := by
  rw [State.cutActions, cutNames, List.map_append, List.map_map]
  rfl

theorem nodup_cutNames : cutNames.Nodup := by
  refine List.nodup_append.mpr ⟨nodup_map_of_injective (fun _ _ => Option.some.inj) nodup_allBays,
    List.pairwise_singleton _ _, ?_⟩
  intro o mem p here same
  obtain ⟨b, -, rfl⟩ := List.mem_map.mp mem
  rw [List.mem_singleton.mp here] at same
  exact nomatch same

theorem mem_cutNames (b : BayNo) : some b ∈ cutNames :=
  List.mem_append_left _ (List.mem_map.mpr ⟨b, mem_allBays b, rfl⟩)

theorem State.inTurn_concat (s : State) (l : List (State → State)) (f : State → State) :
    s.inTurn (l ++ [f]) = f (s.inTurn l) := by
  rw [State.inTurn, List.foldl_append]
  rfl

/-- But for the notice queue, the bays take the cut in turn, and the sweep comes last. -/
theorem State.cutActions_blocks (s : State) : (s.cutActions).bays = ((s.forBays State.cutBay).sweep .cut).bays ∧
    s.cutActions.arbiter = ((s.forBays State.cutBay).sweep .cut).arbiter ∧
    s.cutActions.store = ((s.forBays State.cutBay).sweep .cut).store ∧
    s.cutActions.supply = ((s.forBays State.cutBay).sweep .cut).supply := by
  have turns : s.inTurn (allBays.map State.cutBay ++ [State.sweep .cut]) = (s.forBays State.cutBay).sweep .cut := by
    rw [State.inTurn_concat, State.forBays_eq_inTurn]
  rw [← turns, State.cutActions]
  exact ⟨State.inFreeOrder_bays _ _, State.inFreeOrder_arbiter _ _, State.inFreeOrder_store _ _,
    State.inFreeOrder_supply _ _⟩

theorem State.sameCase_cutBay (s : State) (b : BayNo) : s.SameCase (s.cutBay b) := by
  unfold State.cutBay
  split
  · exact s.sameCase_abortSpinUp b _
  · exact ((((s.sameCase_releaseGrant b).trans (State.sameCase_modArbiter _ _)).trans (State.sameCase_modBay _ b _)).trans
      (State.sameCase_enterAfter _ _ b _)).trans (State.sameCase_evaluate _)
  all_goals exact .refl s

/-- What the cut actions leave of the case: all but the motion records. -/
structure State.CutCase (s t : State) : Prop where
  now : t.now = s.now
  supply : t.supply = s.supply
  transit : t.transit = s.transit
  faults : t.faults = s.faults
  store : t.store = s.store

theorem State.CutCase.refl (s : State) : s.CutCase s := ⟨rfl, rfl, rfl, rfl, rfl⟩

theorem State.CutCase.trans (h : s.CutCase t) (g : t.CutCase u) : s.CutCase u :=
  ⟨g.now.trans h.now, g.supply.trans h.supply, g.transit.trans h.transit, g.faults.trans h.faults, g.store.trans h.store⟩

theorem State.SameCase.cutCase (h : s.SameCase t) : s.CutCase t := ⟨h.now, h.supply, h.transit, h.faults, h.store⟩

theorem State.CutCase.inFreeOrder {holders : List (State → State)} (h : s.CutCase (s.inTurn holders)) :
    s.CutCase (s.inFreeOrder holders) := ⟨h.now, h.supply, h.transit, h.faults, h.store⟩

theorem State.cutCase_sweep (k : SweepKind) (s : State) : s.CutCase (s.sweep k) :=
  have after := s.joltsOnly_sweep k
  ⟨after.now, after.supply, after.transit, s.sweep_faults k, after.store⟩

theorem State.cutCase_cutActions (s : State) : s.CutCase s.cutActions := by
  have turns : s.CutCase (s.inTurn (allBays.map State.cutBay ++ [State.sweep .cut])) := by
    refine State.inTurn_induct (P := fun t => s.CutCase t) (fun f mem t h => h.trans ?_) (.refl s)
    simp only [List.mem_append, List.mem_map, List.mem_singleton] at mem
    obtain ⟨b, -, rfl⟩ | rfl := mem
    · exact (t.sameCase_cutBay b).cutCase
    · exact t.cutCase_sweep .cut
  exact turns.inFreeOrder

/-! ### The entries into LOW and CUT (R118) -/

/-- What the entry into a class leaves of the case. -/
theorem State.enterClass_blocks (new : SupplyClass) (s : State) : (s.enterClass new).now = s.now ∧
    (s.enterClass new).supply = s.supply ∧ (s.enterClass new).transit = s.transit ∧ (s.enterClass new).store = s.store ∧
    (new = .low → s.caseReported (s.enterClass new) .supplyLow) ∧
    (new = .cut → s.caseReported (s.enterClass new) .supplyCut) ∧
    (new = .normal → s.caseSetsKept (s.enterClass new)) := by
  cases new with
  | normal => exact ⟨rfl, rfl, rfl, rfl, nofun, nofun, fun _ => ⟨rfl, rfl⟩⟩
  | low =>
    obtain ⟨sticky, pending, -⟩ := s.reportCase_faults .supplyLow
    exact ⟨State.reportCase_now _ _, State.reportCase_supply _ _, State.reportCase_transit _ _, State.reportCase_store _ _,
      fun _ => ⟨sticky, pending⟩, nofun, nofun⟩
  | cut =>
    obtain ⟨sticky, pending, -⟩ := s.reportCase_faults .supplyCut
    have acts := (s.reportCase .supplyCut).cutCase_cutActions
    refine ⟨acts.now.trans (State.reportCase_now _ _), acts.supply.trans (State.reportCase_supply _ _),
      acts.transit.trans (State.reportCase_transit _ _), acts.store.trans (State.reportCase_store _ _), nofun,
      fun _ => ?_, nofun⟩
    rw [State.caseReported, State.enterClass, acts.faults]
    exact ⟨sticky, pending⟩

/-- An entry into NORMAL or LOW leaves the bays and the motion class. -/
theorem State.enterClass_bay {new : SupplyClass} (other : new ≠ .cut) (s : State) (x : BayNo) :
    (s.enterClass new).bay x = s.bay x ∧ (s.enterClass new).motion = s.motion := by
  cases new with
  | normal => exact ⟨rfl, rfl⟩
  | low => exact ⟨State.reportCase_bay _ _ x, State.reportCase_motion _ _⟩
  | cut => exact absurd rfl other

/-! ### Changes, whole -/

theorem State.supplyEvaluated_pass (new : SupplyClass) (s : State) : (s.supplyEvaluated new).pass = none :=
  State.evaluate_pass _

theorem State.changeSupply_pass (new : SupplyClass) (s : State) : (s.changeSupply new).pass = none := by
  rw [State.changeSupply_eq]
  split
  · rw [State.tryDeferredLoads_pass, State.supplyEvaluated_pass]
  · exact State.supplyEvaluated_pass _ _

theorem State.supplyEvaluated_blocks (new : SupplyClass) (s : State) : (s.supplyEvaluated new).now = s.now ∧
    (s.supplyEvaluated new).supply = { s.supply with cls := new, budget := s.settings.budgetOf new } ∧
    (s.supplyEvaluated new).transit = s.transit ∧ (s.supplyEvaluated new).store = s.store ∧
    (new = .low → s.caseReported (s.supplyEvaluated new) .supplyLow) ∧
    (new = .cut → s.caseReported (s.supplyEvaluated new) .supplyCut) ∧
    (new = .normal → s.caseSetsKept (s.supplyEvaluated new)) := by
  obtain ⟨now, supply, transit, store, low, cut, normal⟩ := (s.supplyChanged new).enterClass_blocks new
  have faults : (s.supplyEvaluated new).faults = ((s.supplyChanged new).enterClass new).faults := State.evaluate_faults _
  rw [State.caseReported, State.caseReported, State.caseSetsKept, faults]
  exact ⟨(State.evaluate_now _).trans now, (State.evaluate_supply _).trans supply, (State.evaluate_transit _).trans transit,
    (State.evaluate_store _).trans store, low, cut, normal⟩

theorem State.changeSupply_blocks (new : SupplyClass) (s : State) : (s.changeSupply new).now = s.now ∧
    (s.changeSupply new).supply = { s.supply with cls := new, budget := s.settings.budgetOf new } ∧
    (s.changeSupply new).transit = s.transit ∧ (s.changeSupply new).store = s.store ∧
    (new = .low → s.caseReported (s.changeSupply new) .supplyLow) ∧
    (new = .cut → s.caseReported (s.changeSupply new) .supplyCut) ∧
    (new = .normal → s.caseSetsKept (s.changeSupply new)) := by
  have evaluated := s.supplyEvaluated_blocks new
  rw [State.changeSupply_eq]
  split
  · obtain ⟨same, -, -⟩ := (s.supplyEvaluated new).tryDeferredLoads_blocks
    rw [State.caseReported, State.caseReported, State.caseSetsKept, same.now, same.supply, same.transit, same.store,
      same.faults]
    exact evaluated
  · exact evaluated

theorem State.notes_changeSupply (new : SupplyClass) (s : State) : (s.changeSupply new).Notes .theCase
    (fun n => n.events &&& CaseEvent.supplyChanged.bit = CaseEvent.supplyChanged.bit) := by
  have evaluated : (s.supplyEvaluated new).Notes .theCase
      (fun n => n.events &&& CaseEvent.supplyChanged.bit = CaseEvent.supplyChanged.bit) :=
    ((State.event_enterClass (D := fun _ => True) _ new fun _ => trivial).trans (State.event_evaluate _)).notes
      (Notice.stable_events _) (State.notes_addCaseEvent _ _)
  rw [State.changeSupply_eq]
  split
  · exact (State.event_tryDeferredLoads (D := fun _ => True) _).notes (Notice.stable_events _) evaluated
  · exact evaluated

theorem State.supplyEvaluated_bay (q : s.queuesMatch) {new : SupplyClass} (other : new ≠ .cut)
    (queued : (s.bay x).state ≠ .queued) : (s.supplyEvaluated new).bay x = s.bay x := by
  have before := State.enterClass_bay other (s.supplyChanged new) x
  have matched := (State.keeps_enterClass _ new).queues ((s.keeps_supplyChanged new).queues q)
  rw [State.supplyEvaluated, State.evaluate_bay matched (by rw [before.1]; exact queued), before.1]
  rfl

/-- A change that does not leave CUT, and a bay that no deferred load concerns, keep the bay. -/
theorem State.changeSupply_bay (q : s.queuesMatch) {new : SupplyClass} (other : new ≠ .cut)
    (queued : (s.bay x).state ≠ .queued)
    (unasked : (s.bay x).state ≠ .spun ∨ (s.bay x).loadOnArrival = false ∨ s.supply.cls ≠ .cut) :
    (s.changeSupply new).bay x = s.bay x := by
  have evaluated := State.supplyEvaluated_bay q other queued
  rw [State.changeSupply_eq]
  split
  · rename_i leaves
    rw [State.tryDeferredLoads_bay, State.deferred, if_neg, evaluated]
    rw [evaluated]
    rintro ⟨spun, flag⟩
    rcases unasked with h | h | h
    · exact h spun
    · rw [flag] at h; exact nomatch h
    · exact h leaves.1
  · exact evaluated

/-- The deferred loads on leaving CUT (R123). -/
theorem State.changeSupply_tries (q : s.queuesMatch) {new : SupplyClass} (other : new ≠ .cut) (cut : s.supply.cls = .cut)
    (spun : (s.bay b).state = .spun) :
    State.TriesLoad b s (s.changeSupply new).lineUp (s.motion.cls = .still) s.now := by
  have evaluated := State.supplyEvaluated_bay q other (x := b) (by rw [spun]; decide)
  obtain ⟨now, supply, transit, store, -⟩ := s.supplyEvaluated_blocks new
  have motion : (s.supplyEvaluated new).motion = s.motion :=
    (State.evaluate_motion _).trans (State.enterClass_bay other _ b).2
  have tries := State.triesLoad (s := s) evaluated store transit spun
  rw [motion, supply, now] at tries
  rw [State.changeSupply_eq, if_pos ⟨cut, other⟩]
  exact ⟨tries.unasked, tries.refused, fun flag free normal still => tries.started flag free normal ⟨still, other⟩,
    fun flag free waits => tries.waits flag free (waits.imp_right fun moving may => moving may.1)⟩

/-- The state in which a reading is taken: time on its mark (R114, log 3). -/
theorem exec_reading {dt mv due : Nat} (running : s.supply.nextReading = some due) :
    ∃ u time, s.At u time ∧ time % 1000 = 0 ∧ s.now + dt ≤ time ∧ due ≤ time ∧
      exec (.supplyReading dt mv) s = .next (u.takeReading mv).lineUp := by
  refine ⟨(s.elapse dt).toMark readingPeriod due, markAt readingPeriod (max (s.now + dt) due),
    ⟨rfl, rfl, rfl, rfl, rfl, rfl, rfl, rfl, rfl, rfl, rfl, rfl⟩, ?_, ?_, ?_, ?_⟩
  · rw [markAt_reading]; exact Nat.mul_mod_left _ _
  · rw [markAt_reading]; omega
  · rw [markAt_reading]; omega
  · have runningE : (s.elapse dt).supply.nextReading = some due := running
    change Host.Outcome.next (State.lineUp (match (s.elapse dt).supply.nextReading with
      | some t => ((s.elapse dt).toMark readingPeriod t).takeReading mv
      | none => s.elapse dt)) = _
    rw [runningE]

end

/-- Settles O29. -/
theorem supplyReadingSettlesTheClass : Obligations.SupplyReadingSettlesTheClass := by
  intro dt mv s due running
  obtain ⟨u, time, at', mark, later, past, step⟩ := exec_reading (dt := dt) (mv := mv) running
  have settings := at'.settings
  have newClass := State.readClass_eq (min 15000 mv) u
  rw [settings, at'.supply] at newClass
  have changing : u.readChanges (min 15000 mv) ↔ s.supply.lastReading = none ∨ u.readClass (min 15000 mv) ≠ s.supply.cls := by
    rw [State.readChanges, at'.supply]
  have taken : (u.readTaken (min 15000 mv)).now = time := at'.now
  have supplyTaken : (u.readTaken (min 15000 mv)).supply =
      { s.supply with lastReading := some (min 15000 mv), nextReading := some (time + 1000) } := by
    rw [← at'.supply, ← at'.now]; rfl
  have matched (q : s.queuesMatch) : (u.readTaken (min 15000 mv)).queuesMatch := at'.queuesMatch q
  have bayTaken (x : BayNo) : (u.readTaken (min 15000 mv)).bay x = s.bay x := at'.bay x
  have admission (b : BayNo) : (u.readTaken (min 15000 mv)).admission b = .exposed ↔ s.admission b = .exposed := by
    rw [← State.exposed_iff, ← State.exposed_iff, State.exposed, State.exposed, bayTaken,
      show (u.readTaken (min 15000 mv)).settings = s.settings from settings]
  by_cases changes : u.readChanges (min 15000 mv)
  · rw [State.takeReading_of_change changes] at step
    obtain ⟨now, supply, transit, store, toLow, toCut, toNormal⟩ :=
      (u.readTaken (min 15000 mv)).changeSupply_blocks (u.readClass (min 15000 mv))
    have pass := (u.readTaken (min 15000 mv)).changeSupply_pass (u.readClass (min 15000 mv))
    have raised := ((u.readTaken (min 15000 mv)).notes_changeSupply (u.readClass (min 15000 mv))).lineUp
    have cls : (u.readTaken (min 15000 mv)).supply.cls = s.supply.cls := by rw [supplyTaken]
    have keptBay (q : s.queuesMatch) (other : u.readClass (min 15000 mv) ≠ .cut) (b : BayNo) :=
      State.changeSupply_bay (x := b) (matched q) other
    have tries (q : s.queuesMatch) (other : u.readClass (min 15000 mv) ≠ .cut) (cut : s.supply.cls = .cut) (b : BayNo) :=
      State.changeSupply_tries (b := b) (matched q) other (cls.trans cut)
    rw [taken] at now
    rw [supplyTaken] at supply
    have faultsTaken : (u.readTaken (min 15000 mv)).faults = s.faults := at'.faults
    have storeTaken : (u.readTaken (min 15000 mv)).store = s.store := at'.store
    have reported {c : CaseFault}
        (h : (u.readTaken (min 15000 mv)).caseReported
          ((u.readTaken (min 15000 mv)).changeSupply (u.readClass (min 15000 mv))) c) :
        s.caseReported ((u.readTaken (min 15000 mv)).changeSupply (u.readClass (min 15000 mv))).lineUp c := by
      rw [State.caseReported, faultsTaken, storeTaken] at h
      rw [State.caseReported, State.lineUp_faults]
      exact h
    refine ⟨_, step, by rw [State.lineUp_now, now]; exact mark, by rw [State.lineUp_now, now]; exact later,
      by rw [State.lineUp_now, now]; exact past, ?_, (State.lineUp_transit _).trans (transit.trans at'.transit),
      (State.lineUp_store _).trans (store.trans storeTaken)⟩
    intro v low cutoff new changes'
    have same : new = u.readClass (min 15000 mv) := newClass.symm
    clear_value new
    subst same
    rw [State.lineUp_supply, State.lineUp_now, now, supply, State.pass_lineUp]
    refine ⟨rfl, rfl, rfl, fun _ => ⟨?_, raised, fun h => reported (toLow h), fun h => reported (toCut h), fun h => ?_, pass,
      fun q other b queued unasked => ?_, fun q other cut b spun flag => ?_⟩, fun not => absurd (changing.mp changes) not⟩
    · rw [show (u.readTaken (min 15000 mv)).settings = s.settings from settings]
      cases u.readClass (min 15000 mv) <;> rfl
    · have sets := toNormal h
      rw [State.caseSetsKept, faultsTaken] at sets
      rw [State.caseSetsKept, State.lineUp_faults]
      exact sets
    · rw [State.lineUp_bay, keptBay q other b, bayTaken]
      · rw [bayTaken]; exact queued
      · rw [bayTaken, cls]; exact unasked
    · have try' := tries q other cut b (by rw [bayTaken]; exact spun)
      have transitTaken : (u.readTaken (min 15000 mv)).transit = s.transit := at'.transit
      have motionTaken : (u.readTaken (min 15000 mv)).motion = s.motion := at'.motion
      have governing : (u.readTaken (min 15000 mv)).governing b = s.governing b := at'.governing b
      obtain ⟨-, refused, started, waits⟩ := try'
      rw [bayTaken] at refused started waits
      rw [governing, taken] at started
      rw [transitTaken, motionTaken] at started waits
      refine ⟨fun exposed => refused flag ((admission b).mpr exposed), fun free normal still =>
        started flag (fun h => free ((admission b).mp h)) normal still, fun free barred =>
        waits flag (fun h => free ((admission b).mp h)) barred⟩
  · rw [State.takeReading_of_same changes] at step
    have cls : u.readClass (min 15000 mv) = s.supply.cls := by
      exact Classical.byContradiction fun differs => changes (changing.mpr (.inr differs))
    refine ⟨_, step, by rw [State.lineUp_now, taken]; exact mark, by rw [State.lineUp_now, taken]; exact later,
      by rw [State.lineUp_now, taken]; exact past, ?_, (State.lineUp_transit _).trans at'.transit,
      (State.lineUp_store _).trans at'.store⟩
    intro v low cutoff new changes'
    have same : new = u.readClass (min 15000 mv) := newClass.symm
    clear_value new
    subst same
    rw [State.lineUp_supply, State.lineUp_now, taken, supplyTaken]
    refine ⟨rfl, cls.symm, rfl, fun here => absurd (changing.mpr here) changes, fun _ => ⟨rfl, ?_, ?_, ?_, ?_, ?_, ?_⟩⟩
    · exact (State.lineUp_bays _).trans at'.bays
    · exact (State.lineUp_arbiter _).trans at'.arbiter
    · exact (State.lineUp_scheduler _).trans at'.scheduler
    · exact (State.lineUp_motion _).trans at'.motion
    · exact (State.lineUp_faults _).trans at'.faults
    · exact at'.nothingRaised rfl

end Sys2Proof.Machine
end

section
/-! PROOFS. The cut actions, bay by bay (R119 to R122): in CUT no pass grants, so that each bay takes the cut alone. -/

namespace Sys2Proof.Machine

section

variable {s t u : State} {b x : BayNo} {k : SweepKind}

/-! ### No grants without a budget (R33, R37) -/

/-- The settings are valid and the budget is 0. -/
def State.noBudget (s : State) : Prop := s.store.working.valid = true ∧ s.supply.budget = 0

theorem State.noBudget.congr (h : s.noBudget) (store : t.store = s.store) (supply : t.supply = s.supply) : t.noBudget :=
  ⟨by rw [store]; exact h.1, by rw [supply]; exact h.2⟩

theorem State.effective_surgeCost (valid : s.store.working.valid = true) (b : BayNo) : 1 ≤ (s.effective b).surgeCost := by
  have all : s.store.working.profiles.all Profile.valid = true := by
    rw [WorkingSettings.valid, Bool.and_eq_true] at valid
    exact valid.2
  have checked (i : Nat) (below : i < 8) : 1 ≤ (s.store.working.profiles[i]).surgeCost := by
    have profile := Vector.all_eq_true.mp all i below
    simp only [Profile.valid, within, Bool.and_eq_true, decide_eq_true_eq] at profile
    omega
  unfold State.effective
  split
  · exact checked 0 _
  · exact checked _ _

theorem State.pass_of_noBudget (h : s.noBudget) : s.pass = none := by
  cases pass : s.pass with
  | none => rfl
  | some p =>
    have grants := State.grants_of_pass pass
    have fits : s.arbiter.held + s.cost p.granted ≤ s.supply.budget := by simpa [State.fits] using grants.fits
    have cost : 1 ≤ s.cost p.granted := by
      unfold State.cost
      split
      · exact State.effective_surgeCost h.1 _
      · exact Nat.le_refl 1
    rw [h.2] at fits
    omega

theorem State.evaluate_of_noBudget (h : s.noBudget) : s.evaluate = s := State.evaluate_of_pass_none (State.pass_of_noBudget h)

/-! ### One bay of the cut (R120, R121) -/

/-- The record that a bay's turn in the cut leaves. -/
def BayRec.cut (p : Profile) (now : Nat) (r : BayRec) : BayRec :=
  match r.state with
  | .spinningUp => r.spunDown .respin p now
  | .diag => BayRec.enter .queued p now { r with winding := .aborted, windingCurrent := none }
  | .vacant | .stopped | .queued | .spun | .loading | .loaded | .parkQueued | .unloading | .spinningDown
  | .held | .fenced => r

/-- The test back in the queue, its winding aborted. -/
def State.retested (b : BayNo) (s : State) : State :=
  ((s.releaseGrant b).modArbiter (fun a => { a with queue := a.queue ++ [{ bay := b, kind := .test, skip := 0 }] })).modBay b
    (fun r => { r with winding := .aborted, windingCurrent := none })

/-- The test given back to the queue, ahead of the evaluation (R121). -/
def State.testRequeued (b : BayNo) (s : State) : State := (s.retested b).enterAfter .testDone b .queued

theorem State.retested_bay_ne (s : State) (other : x ≠ b) : (s.retested b).bay x = s.bay x := by
  rw [State.retested, State.bay_modBay_ne _ _ other]
  rfl

theorem State.retested_bay_self (s : State) (b : BayNo) :
    (s.retested b).bay b = { s.bay b with winding := .aborted, windingCurrent := none } := by
  rw [State.retested, State.bay_modBay_self]
  rfl

theorem State.retested_winding (s : State) (b : BayNo) : (((s.retested b).enterQuietly b .queued).bay b).winding = .aborted := by
  rw [State.enterQuietly, State.bay_modBay_self, State.retested_bay_self]
  rfl

theorem State.cutTest_eq (s : State) (b : BayNo) : s.cutTest b = (s.testRequeued b).evaluate := rfl

theorem State.sameCase_testRequeued (s : State) (b : BayNo) : s.SameCase (s.testRequeued b) :=
  (((s.sameCase_releaseGrant b).trans (State.sameCase_modArbiter _ _)).trans (State.sameCase_modBay _ b _)).trans
    (State.sameCase_enterAfter _ _ b _)

theorem State.cutBay_of_spinningUp (h : s.noBudget) (state : (s.bay b).state = .spinningUp) :
    s.cutBay b = (s.releaseGrant b).spinDownWith b .respin := by
  have down := (s.sameCase_releaseGrant b).trans (State.sameCase_spinDownWith _ b .respin)
  simp only [State.cutBay, state, State.abortSpinUp]
  exact State.evaluate_of_noBudget (h.congr down.store down.supply)

theorem State.cutBay_of_diag (h : s.noBudget) (state : (s.bay b).state = .diag) : s.cutBay b = s.testRequeued b := by
  have requeued := s.sameCase_testRequeued b
  simp only [State.cutBay, state, State.cutTest_eq]
  exact State.evaluate_of_noBudget (h.congr requeued.store requeued.supply)

theorem State.cutBay_of_other (spinningUp : (s.bay b).state ≠ .spinningUp) (diag : (s.bay b).state ≠ .diag) :
    s.cutBay b = s := by
  unfold State.cutBay
  split
  · exact absurd ‹_› spinningUp
  · exact absurd ‹_› diag
  all_goals rfl

/-- In CUT a bay takes its turn alone. -/
theorem State.cutBay_bay_ne (h : s.noBudget) (other : x ≠ b) : (s.cutBay b).bay x = s.bay x := by
  by_cases spinningUp : (s.bay b).state = .spinningUp
  · rw [State.cutBay_of_spinningUp h spinningUp, State.spinDownWith_bay_ne _ _ other]
    rfl
  · by_cases diag : (s.bay b).state = .diag
    · rw [State.cutBay_of_diag h diag, State.testRequeued, State.enterAfter_bay_ne _ _ _ other,
        State.retested_bay_ne _ other]
    · rw [State.cutBay_of_other spinningUp diag]

theorem State.cutBay_bay_self (h : s.noBudget) (b : BayNo) : (s.cutBay b).bay b = (s.bay b).cut (s.governing b) s.now := by
  unfold BayRec.cut
  cases state : (s.bay b).state with
  | spinningUp =>
    rw [State.cutBay_of_spinningUp h state, State.spinDownWith_bay_self]
    rfl
  | diag =>
    rw [State.cutBay_of_diag h state, State.testRequeued, State.enterAfter_bay_self, State.retested_bay_self, State.retested,
      State.governing_modBay _ b rfl]
    rfl
  | vacant | stopped | queued | spun | loading | loaded | parkQueued | unloading | spinningDown | held | fenced =>
    rw [State.cutBay_of_other (by rw [state]; decide) (by rw [state]; decide)]

/-- A turn in the cut takes no entry out of the queue. -/
theorem State.cutBay_entries (h : s.noBudget) (b : BayNo) : s.arbiter.entries ⊆ (s.cutBay b).arbiter.entries := by
  by_cases spinningUp : (s.bay b).state = .spinningUp
  · rw [State.cutBay_of_spinningUp h spinningUp]
    simp [State.spinDownWith, State.setIntent, State.releaseGrant, Arbiter.entries]
  · by_cases diag : (s.bay b).state = .diag
    · rw [State.cutBay_of_diag h diag]
      simp [State.testRequeued, State.retested, State.releaseGrant, State.modArbiter, Arbiter.entries]
    · rw [State.cutBay_of_other spinningUp diag]
      exact fun _ mem => mem

theorem State.cutBay_entry (h : s.noBudget) (diag : (s.bay b).state = .diag) :
    (b, .test) ∈ (s.cutBay b).arbiter.entries := by
  rw [State.cutBay_of_diag h diag]
  simp [State.testRequeued, State.retested, State.releaseGrant, State.modArbiter, Arbiter.entries]

theorem State.noBudget_cutBay (h : s.noBudget) (b : BayNo) : (s.cutBay b).noBudget :=
  h.congr (s.sameCase_cutBay b).store (s.sameCase_cutBay b).supply

/-! ### The turns of all bays -/

theorem State.cutBays_bay (h : s.noBudget) (b : BayNo) :
    (s.forBays State.cutBay).bay b = (s.bay b).cut (s.governing b) s.now ∧
      ((s.bay b).state = .diag → (b, .test) ∈ (s.forBays State.cutBay).arbiter.entries) := by
  have turns := State.foldl_brings (f := State.cutBay) (b := b)
    (P := fun t => t.noBudget ∧ s.SameCase t ∧ t.bay b = s.bay b)
    (Q := fun t => t.noBudget ∧ t.bay b = (s.bay b).cut (s.governing b) s.now ∧
      ((s.bay b).state = .diag → (b, .test) ∈ t.arbiter.entries)) (s := s) nodup_allBays (mem_allBays b)
    (fun x t other ⟨h, same, bay⟩ => ⟨State.noBudget_cutBay h x, same.trans (t.sameCase_cutBay x),
      (State.cutBay_bay_ne h (Ne.symm other)).trans bay⟩)
    (fun t ⟨h, same, bay⟩ => ⟨State.noBudget_cutBay h b,
      by rw [State.cutBay_bay_self h, bay, State.governing_congr same.store bay, same.now],
      fun diag => State.cutBay_entry h (by rw [bay]; exact diag)⟩)
    (fun x t other ⟨h, bay, entry⟩ => ⟨State.noBudget_cutBay h x, (State.cutBay_bay_ne h (Ne.symm other)).trans bay,
      fun diag => State.cutBay_entries h x (entry diag)⟩)
    ⟨h, .refl s, rfl⟩
  exact turns.2

theorem State.noBudget_cutBays (h : s.noBudget) : (s.forBays State.cutBay).noBudget := by
  rw [State.forBays_eq_inTurn]
  refine State.inTurn_induct (P := fun t => t.noBudget) (fun f mem t h => ?_) h
  obtain ⟨b, -, rfl⟩ := List.mem_map.mp mem
  exact State.noBudget_cutBay h b

theorem State.keeps_cutBays (s : State) : s.Keeps (s.forBays State.cutBay) := by
  rw [State.forBays_eq_inTurn]
  refine State.inTurn_induct (P := fun t => s.Keeps t) (fun f mem t h => ?_) (.refl s)
  obtain ⟨b, -, rfl⟩ := List.mem_map.mp mem
  exact h.trans (t.keeps_cutBay b)

/-! ### The sweep of the cut -/

/-- A sweep that stops no spindle leaves every bay outside the loaded condition. -/
theorem State.sweep_bay_kept (q : s.queuesMatch) (other : k ≠ .parkAndStop) (empty : (s.bay x).state.inLoadedCondition = false) :
    (s.sweep k).bay x = s.bay x := by
  by_cases queued : (s.bay x).state = .queued
  · have same := State.walked_queued other queued
    rw [State.sweep_eq, State.startPass_bay ((s.keeps_walked k).queues q) (by rw [same, queued]; decide), same]
  · rw [State.sweep_bay_of_empty q k queued empty, BayRec.swept]
    cases state : (s.bay x).state <;> simp [state, BayState.inLoadedCondition, other] at empty ⊢

theorem State.sweepBay_arbiter (other : k ≠ .parkAndStop) (s : State) (b : BayNo) : (s.sweepBay k b).arbiter = s.arbiter := by
  unfold State.sweepBay
  split
  iterate 3 rw [(State.sweepIntent_blocks _ k b).1, State.emergencyPlacement_arbiter]
  · exact (s.sweepIntent_blocks k b).1
  iterate 2 rw [if_neg other]
  all_goals rfl

theorem State.sweep_arbiter (other : k ≠ .parkAndStop) (s : State) : (s.sweep k).arbiter = s.arbiter := by
  have walked : (s.walked k).arbiter = s.arbiter :=
    State.walked_induct (P := fun t => t.arbiter = s.arbiter) (fun t b h => (State.sweepBay_arbiter other t b).trans h)
      (fun _ _ _ h => h) rfl
  rw [State.sweep_eq, State.startPass_arbiter, walked]

theorem BayRec.cut_empty {r : BayRec} (empty : r.state.inLoadedCondition = false) (p : Profile) (now : Nat) :
    (r.cut p now).state.inLoadedCondition = false := by
  unfold BayRec.cut
  cases state : r.state <;> simp [state, BayState.inLoadedCondition] at empty ⊢
  all_goals simp [BayRec.spunDown]

theorem State.cutActions_bay (h : s.noBudget) (q : s.queuesMatch) (empty : (s.bay x).state.inLoadedCondition = false) :
    s.cutActions.bay x = (s.bay x).cut (s.governing x) s.now := by
  have turned := (State.cutBays_bay h x).1
  rw [State.bay_of_bays s.cutActions_blocks.1, State.sweep_bay_kept (s.keeps_cutBays.queues q) (by decide), turned]
  rw [turned]
  exact BayRec.cut_empty empty _ _

theorem State.cutActions_unloadable (q : s.queuesMatch) (x : BayNo) : (s.cutActions.bay x).unloadable := by
  rw [State.bay_of_bays s.cutActions_blocks.1]
  exact State.sweep_unloadable (s.keeps_cutBays.queues q) .cut x

theorem State.cutActions_entry (h : s.noBudget) (diag : (s.bay b).state = .diag) :
    (b, .test) ∈ s.cutActions.arbiter.entries := by
  rw [s.cutActions_blocks.2.1, State.sweep_arbiter (by decide)]
  exact (State.cutBays_bay h b).2 diag

/-! ### What an aborted test raises (R121) -/

theorem Notice.Stable.of_not {p : Notice → Prop} {results : Prop} (never : ¬ results) (stable : Notice.Stable False p) :
    Notice.Stable results p :=
  fun n m grown same => stable n m grown (same.imp_right never)

/-- A test aborted in the report of TEST_DONE. -/
def Notice.tellsAbort (n : Notice) : Prop :=
  n.events &&& BayEvent.testDone.bit = BayEvent.testDone.bit ∧ n.testDone = .aborted

theorem Notice.stable_tellsAbort : Notice.Stable False Notice.tellsAbort :=
  (Notice.stable_events _).and (Notice.stable_testDone _)

theorem State.notes_testRequeued (s : State) (b : BayNo) : (s.testRequeued b).Notes (.bay b) Notice.tellsAbort := by
  have done := (State.notes_addBayEvent ((s.retested b).enterQuietly b .queued) b .testDone).and
    (State.notes_testDone ((s.retested b).enterQuietly b .queued) b)
  exact done.imp fun n ⟨event, result⟩ => ⟨event, result.trans (s.retested_winding b)⟩

theorem State.notes_cutActions (h : s.noBudget) (q : s.queuesMatch) (diag : (s.bay b).state = .diag) :
    s.cutActions.Notes (.bay b) Notice.tellsAbort := by
  rw [State.cutActions_eq]
  refine State.notes_inFreeOrder_map (a := some b)
    (P := fun t => t.noBudget ∧ t.queuesMatch ∧ t.bay b = s.bay b) nodup_cutNames (mem_cutNames b)
    (fun o t other ⟨h, q, bay⟩ => ?_) (fun t ⟨h, _, bay⟩ => ?_) (fun o t other has => ?_) ⟨h, q, rfl⟩
  · cases o with
    | some x =>
      have apart : b ≠ x := fun same => other (congrArg some same.symm)
      exact ⟨State.noBudget_cutBay h x, (t.keeps_cutBay x).queues q, (State.cutBay_bay_ne h apart).trans bay⟩
    | none =>
      have after := t.joltsOnly_sweep .cut
      exact ⟨h.congr after.store after.supply, (t.keeps_sweep .cut).queues q,
        (State.sweep_bay_kept q (by decide) (by rw [bay, diag]; rfl)).trans bay⟩
  · rw [State.cutHolder, State.cutBay_of_diag h (by rw [bay]; exact diag)]
    exact t.notes_testRequeued b
  · cases o with
    | some x =>
      have apart : x ≠ b := fun same => other (congrArg some same)
      exact (State.event_cutBay (D := fun src => src ≠ .bay b) t (b := x) fun _ same =>
        apart (Source.bay.inj same)).notes (Notice.stable_tellsAbort.of_not fun differs => differs rfl) has
    | none => exact (State.event_sweep (D := fun _ => False) t .cut).notes Notice.stable_tellsAbort has

/-! ### The entry into CUT (R118, R119) -/

/-- The state in which the cut actions of a reading start. -/
def State.cutStart (v : Nat) (s : State) : State := (((s.readTaken v).supplyChanged .cut).reportCase .supplyCut)

theorem State.cutStart_bay (v : Nat) (s : State) (x : BayNo) : (s.cutStart v).bay x = s.bay x := State.reportCase_bay _ _ x

theorem State.cutStart_store (v : Nat) (s : State) : (s.cutStart v).store = s.store := State.reportCase_store _ _

theorem State.cutStart_now (v : Nat) (s : State) : (s.cutStart v).now = s.now := State.reportCase_now _ _

theorem State.cutStart_noBudget (v : Nat) (valid : s.store.working.valid = true) : (s.cutStart v).noBudget :=
  ⟨by rw [State.cutStart_store]; exact valid, by rw [State.cutStart, State.reportCase_supply]; rfl⟩

theorem State.cutStart_queuesMatch (v : Nat) (q : s.queuesMatch) : (s.cutStart v).queuesMatch :=
  (State.keeps_reportCase _ _).queues ((State.keeps_supplyChanged .cut _).queues q)

theorem State.cutStart_governing (v : Nat) (s : State) (x : BayNo) : (s.cutStart v).governing x = s.governing x :=
  State.governing_congr (s.cutStart_store v) (s.cutStart_bay v x)

/-- A change to CUT is the cut actions alone: nothing is granted, and no deferred load is tried. -/
theorem State.changeSupply_cut (v : Nat) (valid : s.store.working.valid = true) :
    (s.readTaken v).changeSupply .cut = (s.cutStart v).cutActions := by
  have acts := (s.cutStart v).cutCase_cutActions
  rw [State.changeSupply_eq, if_neg (fun h => h.2 rfl)]
  exact State.evaluate_of_noBudget ((State.cutStart_noBudget v valid).congr acts.store acts.supply)

theorem State.readClass_cut {v : Nat} (low : v ≤ s.settings.supplyCutoff) : s.readClass v = .cut := by
  rw [State.readClass_eq, if_pos low]

end

/-- Settles O30: with the budget 0, nothing that the actions free is granted again. -/
theorem cutActions : Obligations.CutActions := by
  intro dt mv s due q valid running below first
  obtain ⟨u, time, at', -, -, -, step⟩ := exec_reading (dt := dt) (mv := mv) running
  have cls : u.readClass (min 15000 mv) = .cut := State.readClass_cut (by rw [at'.settings]; omega)
  have changes : u.readChanges (min 15000 mv) := by
    rw [State.readChanges, cls, at'.supply]
    exact first.imp_right Ne.symm
  have validAt : u.store.working.valid = true := by rw [at'.store]; exact valid
  rw [State.takeReading_of_change changes, cls, State.changeSupply_cut _ validAt] at step
  have budget := State.cutStart_noBudget (s := u) (min 15000 mv) validAt
  have matched := State.cutStart_queuesMatch (min 15000 mv) (at'.queuesMatch q)
  have bay (x : BayNo) : (u.cutStart (min 15000 mv)).bay x = s.bay x := (u.cutStart_bay _ x).trans (at'.bay x)
  generalize u.cutStart (min 15000 mv) = c at *
  have acted (b : BayNo) (empty : (s.bay b).state.inLoadedCondition = false) :
      c.cutActions.lineUp.bay b = (s.bay b).cut (c.governing b) c.now := by
    rw [State.lineUp_bay, State.cutActions_bay budget matched (by rw [bay]; exact empty), bay]
  refine ⟨_, step, fun b spinningUp => ?_, fun b diag => ?_, fun b => ?_, fun b kept => ?_⟩
  · rw [acted b (by rw [spinningUp]; rfl), BayRec.cut, spinningUp]
    exact ⟨rfl, rfl, rfl, rfl, rfl, rfl⟩
  · have diagAt : (c.bay b).state = .diag := by rw [bay]; exact diag
    have entered := State.cutActions_entry budget diagAt
    have nodup := ((State.keeps_cutActions c).queues matched).nodup
    rw [acted b (by rw [diag]; rfl), BayRec.cut, diag]
    refine ⟨rfl, ?_, rfl, rfl, (State.notes_cutActions budget matched diagAt).lineUp⟩
    rw [State.entryKind_eq_some (by rw [State.lineUp_arbiter]; exact nodup), State.lineUp_arbiter]
    exact entered
  · rw [State.lineUp_bay]
    exact State.cutActions_unloadable matched b
  · have same (p : Profile) (now : Nat) : (s.bay b).cut p now = s.bay b := by
      rcases kept with h | h | h | h | h | h | h <;> rw [BayRec.cut, h]
    rw [acted b (by rcases kept with h | h | h | h | h | h | h <;> rw [h] <;> rfl), same]

end Sys2Proof.Machine
end

section
/-! PROOFS. TAKE CONTEXT (R24, R25). -/

namespace Sys2Proof.Machine

section

variable {s : State} {b x : BayNo} {r : Req}

theorem handleTakeContext_argument {n : Byte} (body : r.body = [n]) (above : 15 < n.toNat) (s : State) :
    handleTakeContext r s = s.answer .takeContext r .argument [] := by
  simp only [handleTakeContext, body, bayOf_above above]

theorem handleTakeContext_checked {n : Byte} (body : r.body = [n]) (number : n.toNat = b.val) (s : State) :
    handleTakeContext r s = s.checked .takeContext r (State.takeContextOf r b) := by
  simp only [handleTakeContext, body, bayOf_of_toNat number]

/-- The bays that TAKE CONTEXT accepts (R24). -/
theorem BayRec.acceptsContext_iff (r : BayRec) : r.acceptsContext = true ↔
    r.state = .stopped ∨ r.state = .vacant ∨ r.state = .fenced ∨ r.state = .held ∧ r.spindleOn = false ∧ r.prk = true := by
  unfold BayRec.acceptsContext
  cases r.state <;> simp

/-- The record cleared, with ATTN recomputed, ahead of a change of state (R25). -/
def State.recordCleared (b : BayNo) (s : State) : State := (s.modBay b BayRec.reinit).recomputeAttn

theorem State.recordCleared_bay_self (s : State) (b : BayNo) : (s.recordCleared b).bay b = (s.bay b).reinit := by
  rw [State.recordCleared, State.recomputeAttn_bay, State.bay_modBay_self]

theorem State.alone_recordCleared (s : State) (b : BayNo) : s.Alone b (s.recordCleared b) :=
  ⟨fun _ other => by rw [State.recordCleared, State.recomputeAttn_bay, State.bay_modBay_ne _ _ other], rfl, rfl, rfl, rfl⟩

theorem State.reinitBay_of_free (free : (s.bay b).state = .stopped ∨ (s.bay b).state = .vacant) :
    s.reinitBay b = s.recordCleared b := by
  unfold State.reinitBay
  rcases free with h | h <;> rw [h] <;> rfl

theorem State.reinitBay_of_kept (kept : (s.bay b).state = .held ∨ (s.bay b).state = .fenced) :
    s.reinitBay b = (s.recordCleared b).enter b .stopped := by
  unfold State.reinitBay
  rcases kept with h | h <;> rw [h] <;> rfl

/-- What the reinit leaves, in every accepted state. -/
theorem State.reinitBay_blocks (s : State) (b : BayNo) : s.Alone b (s.reinitBay b) ∧
    (s.reinitBay b).faults = (s.recordCleared b).faults ∧ (s.reinitBay b).arbiter = s.arbiter ∧
    (s.reinitBay b).scheduler = s.scheduler ∧ ((s.reinitBay b).bay b).pending = 0 := by
  unfold State.reinitBay
  dsimp only
  split
  · refine ⟨(s.alone_recordCleared b).trans (State.alone_enter b _ _), State.enter_faults _ _ _,
      State.enter_arbiter _ _ _, State.enter_scheduler _ _ _, ?_⟩
    rw [State.enter_bay_self]
    exact congrArg BayRec.pending (s.recordCleared_bay_self b)
  · exact ⟨s.alone_recordCleared b, rfl, rfl, rfl, congrArg BayRec.pending (s.recordCleared_bay_self b)⟩

/-- ATTN after the reinit (R138). -/
theorem State.reinitBay_attn (s : State) (b : BayNo) : (s.reinitBay b).faults.attn = true ↔
    s.faults.casePending ≠ 0 ∨ ∃ x, ((s.reinitBay b).bay x).pending ≠ 0 := by
  obtain ⟨alone, faults, -, -, empty⟩ := s.reinitBay_blocks b
  have same (x : BayNo) : ((s.reinitBay b).bay x).pending = ((s.modBay b BayRec.reinit).bay x).pending := by
    by_cases here : x = b
    · rw [here, empty, State.bay_modBay_self]
      rfl
    · rw [alone.others x here, State.bay_modBay_ne _ _ here]
  simp only [faults, same]
  exact State.recomputeAttn_attn_iff _

end

/-- Settles O47. -/
theorem takeContextReturnsAndReinits : Obligations.TakeContextReturnsAndReinits := by
  intro dt r s n hands body
  refine ⟨fun above => ?_, fun named refuses => ?_, fun b number accepts => ⟨fun refused => ?_, fun accepted => ?_⟩⟩
  · obtain ⟨t, step, kept, -, replied⟩ := State.answers_of_hands hands dt (handleTakeContext_argument body above _)
    exact ⟨t, step, replied, kept⟩
  · have number : n.toNat = (⟨n.toNat, by omega⟩ : BayNo).val := rfl
    exact State.refused_of_hands hands refuses dt (handleTakeContext_checked body number)
  all_goals have arrived := congrArg BayRec.acceptsContext (s.arrived_bay dt b)
  · refine State.answered_of_checked hands accepts dt (handleTakeContext_checked body number) ?_
    rw [State.takeContextOf, arrived, if_neg (mt (s.bay b).acceptsContext_iff.mp refused)]
  · have step := exec_of_checked hands accepts dt (handleTakeContext_checked body number)
    rw [State.takeContextOf, arrived, if_pos ((s.bay b).acceptsContext_iff.mpr accepted), s.bayImage_arrived dt b] at step
    obtain ⟨bays, arbiter, scheduler, motion, supply, faults, store, now, -, notices⟩ := s.arrived_blocks dt
    have bay (x : BayNo) : (s.elapse dt).frameArrived.bay x = s.bay x := State.bay_of_bays bays x
    generalize (s.elapse dt).frameArrived = u at *
    obtain ⟨alone, faults', arbiter', scheduler', -⟩ := u.reinitBay_blocks b
    have attn := u.reinitBay_attn b
    refine ⟨_, step, State.lineUp_replied (State.answer_replied _ _ _ _ _), ⟨fun free => ⟨?_, ?_⟩, fun kept => ⟨?_, ?_⟩⟩,
      ?_, ?_, fun x other => ?_, ?_, ?_, ?_, ?_, ?_⟩
    · rw [State.lineUp_bay, State.answer_bay, State.reinitBay_of_free (by rw [bay]; exact free),
        State.recordCleared_bay_self, bay]
      rfl
    · refine State.nothingRaised_of_notices ?_
      rw [State.reinitBay_of_free (by rw [bay]; exact free)]
      exact notices
    · rw [State.lineUp_bay, State.answer_bay, State.reinitBay_of_kept (by rw [bay]; exact kept), State.enter_bay_self,
        State.recordCleared_bay_self, bay, ← now]
      rfl
    · rw [State.reinitBay_of_kept (by rw [bay]; exact kept)]
      refine ((State.notes_enter _ ?_).answer _ _ _ _).lineUp
      rw [State.recordCleared_bay_self, bay]
      rcases kept with h | h <;> simp [BayRec.reinit, h, entryEvent]
    · simpa [faults] using attn
    · rw [State.caseSetsKept, State.lineUp_faults, State.answer_faults, faults', ← faults]
      exact ⟨rfl, rfl⟩
    · rw [State.lineUp_bay, State.answer_bay, alone.others x other, bay]
    · rw [State.lineUp_arbiter, State.answer_arbiter, arbiter', arbiter]
    · rw [State.lineUp_scheduler, State.answer_scheduler, scheduler', scheduler]
    · rw [State.lineUp_motion, State.answer_motion, alone.motion, motion]
    · rw [State.lineUp_supply, State.answer_supply, alone.supply, supply]
    · rw [State.lineUp_store, State.answer_store, alone.store, store]

end Sys2Proof.Machine
end

section
/-! PROOFS. RESTART (R27, R173, R174): the blocks that it leaves are at rest, so that the transit unit moves nothing of
them but the sweep origin and pointer. -/

namespace Sys2Proof.Machine

section

variable {s t u : State} {b x : BayNo} {r : Req}

/-! ### The transit unit over a case at rest -/

/-- A sweep over a case at rest moves the origin and the pointer alone (R100, R102). -/
theorem State.sweep_of_atRest (h : s.AtRest) (k : SweepKind) : s.sweep k = s.modScheduler (fun q => { q with
    pointer := q.origin, origin := if s.settings.originRotation then q.origin + 1 else q.origin }) := by
  have pointed : (s.modScheduler (fun q => { q with pointer := q.origin })).AtRest := ⟨h.states, h.noUnload⟩
  rw [State.sweep, State.walk_of_atRest pointed k, State.startPass_of_noUnload (by exact h.noUnload)]
  rfl

/-- The bays of a case at rest take the entry into TRANSIT_SAFE: their flags fall, and the blocks stand (R130). -/
theorem State.transited_of_atRest (h : s.AtRest) : s.transited.AtRest ∧ s.transited.scheduler = s.scheduler := by
  rw [State.transited, State.forBays_eq_inTurn]
  refine State.inTurn_induct (P := fun t => t.AtRest ∧ t.scheduler = s.scheduler) (fun f mem t ⟨rest, same⟩ => ?_)
    ⟨⟨h.states, h.noUnload⟩, rfl⟩
  obtain ⟨b, -, rfl⟩ := List.mem_map.mp mem
  rw [State.transitBay_of_atRest rest]
  exact ⟨rest.of_restsLike (t.restsLike_setLoadOnArrival b false), same⟩

theorem BayRec.transited_of_rest {r : BayRec} (rest : r.state = .vacant ∨ r.state = .stopped) (flag : r.loadOnArrival = false)
    (p : Profile) (now : Nat) : r.transited p now = r := by
  have same : { r with loadOnArrival := false } = r := by rw [← flag]
  unfold BayRec.transited
  rcases rest with state | state <;> rw [state] <;> exact same

/-- The blocks after the entry of a case at rest with no flag set (R100, R130). -/
theorem State.enterSafe_of_atRest (h : s.AtRest) (normal : s.transit.mode = .normal)
    (flags : ∀ x, (s.bay x).loadOnArrival = false) : (∀ x, s.enterSafe.bay x = s.bay x) ∧
      s.enterSafe.motion = s.motion ∧ s.enterSafe.scheduler = { s.scheduler with
        pointer := s.scheduler.origin,
        origin := if s.settings.originRotation then s.scheduler.origin + 1 else s.scheduler.origin } := by
  obtain ⟨rest, scheduler⟩ := State.transited_of_atRest h
  have same := s.sameCase_transited
  have settings : s.transited.settings = s.settings := congrArg (·.working.case) same.store
  have bays (x : BayNo) : s.transited.bay x = s.bay x :=
    (s.transited_bay x).trans (BayRec.transited_of_rest (h.states x) (flags x) _ _)
  have whole := State.enterSafe_eq normal
  rw [State.sweep_of_atRest rest] at whole
  generalize s.transited = w at *
  generalize s.enterSafe.link = link at whole
  rw [whole, ← scheduler, ← settings]
  exact ⟨bays, same.motion, rfl⟩

/-! ### The link over a case at rest -/

/-- The reply stands, and only the case adds notices. -/
structure State.OnlyCaseSpeaks (s t : State) : Prop where
  slot : t.link.slot = s.link.slot
  notices : (∀ n ∈ s.link.notices, n.source = .theCase) → ∀ n ∈ t.link.notices, n.source = .theCase

theorem State.OnlyCaseSpeaks.refl (s : State) : s.OnlyCaseSpeaks s := ⟨rfl, id⟩

theorem State.OnlyCaseSpeaks.trans (h : s.OnlyCaseSpeaks t) (g : t.OnlyCaseSpeaks u) : s.OnlyCaseSpeaks u :=
  ⟨g.slot.trans h.slot, g.notices ∘ h.notices⟩

theorem State.OnlyCaseSpeaks.of_link (h : t.link = s.link) : s.OnlyCaseSpeaks t := by
  refine ⟨by rw [h], ?_⟩
  rw [h]
  exact id

theorem State.onlyCaseSpeaks_addCaseEvent (s : State) (e : CaseEvent) : s.OnlyCaseSpeaks (s.addCaseEvent e) := by
  refine ⟨rfl, fun all n mem => ?_⟩
  unfold State.addCaseEvent State.addNotice addToNotices at mem
  dsimp only at mem
  split at mem
  · obtain ⟨m, old, rfl⟩ := List.mem_map.mp mem
    split
    · exact all m old
    · exact all m old
  · rcases List.mem_append.mp mem with old | new
    · exact all n old
    · rw [List.mem_singleton.mp new]
      rfl

theorem State.inFreeOrder_slot (s : State) (holders : List (State → State)) :
    (s.inFreeOrder holders).link.slot = (s.inTurn holders).link.slot := rfl

theorem State.onlyCaseSpeaks_enterSafe (h : s.AtRest) : s.OnlyCaseSpeaks s.enterSafe := by
  cases mode : s.transit.mode with
  | transitSafe => rw [State.enterSafe_of_safe mode]; exact .refl s
  | normal =>
    have walk {holders : List (State → State)}
        (all : ∀ f ∈ holders, f ∈ State.addCaseEvent .safeEntered :: allBays.map State.transitBay ++ [State.sweep .transit]) :
        s.OnlyCaseSpeaks (s.madeTransit.inTurn holders) := by
      refine (State.inTurn_induct (s := s.madeTransit) (P := fun t => t.AtRest ∧ s.OnlyCaseSpeaks t) (fun f mem t ⟨rest, speaks⟩ => ?_)
        ⟨⟨h.states, h.noUnload⟩, rfl, id⟩).2
      have holder := all f mem
      refine ⟨(State.safeHolder_of_atRest holder rest).1, speaks.trans ?_⟩
      simp only [List.mem_append, List.mem_cons, List.mem_map, List.not_mem_nil, or_false] at holder
      obtain (rfl | ⟨b, -, rfl⟩) | rfl := holder
      · exact t.onlyCaseSpeaks_addCaseEvent _
      · rw [State.transitBay_of_atRest rest b]
        exact .of_link rfl
      · exact .of_link (State.sweep_link_of_atRest rest _)
    rw [State.enterSafe_of_normal mode]
    obtain ⟨order, perm, notices⟩ := s.madeTransit.inFreeOrder_notices
      (State.addCaseEvent .safeEntered :: allBays.map State.transitBay ++ [State.sweep .transit])
    refine ⟨(State.inFreeOrder_slot _ _).trans (walk fun f mem => mem).slot, ?_⟩
    rw [notices]
    exact (walk fun f mem => perm.subset mem).notices

theorem State.onlyCaseSpeaks_startTransit (h : s.AtRest) : s.OnlyCaseSpeaks s.startTransit := by
  unfold State.startTransit
  split
  · exact State.onlyCaseSpeaks_enterSafe h
  · exact .of_link rfl

/-! ### The blocks -/

/-- The bays that bar a RESTART (R173). -/
theorem BayRec.refusesRestart_iff (r : BayRec) : r.refusesRestart = true ↔
    r.state = .spinningUp ∨ r.state = .spun ∨ r.state = .loading ∨ r.state = .loaded ∨ r.state = .parkQueued ∨
      r.state = .unloading ∨ r.state = .spinningDown ∨ r.state = .diag ∨
      r.state = .held ∧ (r.spindleOn = true ∨ r.prk = false) := by
  unfold BayRec.refusesRestart
  cases r.state <;> simp

theorem State.restartBay_link (s : State) (b : BayNo) : (s.restartBay b).link = s.link := by
  unfold State.restartBay
  dsimp only
  split <;> rfl

theorem State.restartBlocks_slot (s : State) : s.restartBlocks.link.slot = s.link.slot := by
  have same : (s.forBays State.restartBay).link = s.link := by
    rw [State.forBays_eq_inTurn]
    refine State.inTurn_induct (P := fun t => t.link = s.link) (fun f mem t h => ?_) rfl
    obtain ⟨b, -, rfl⟩ := List.mem_map.mp mem
    exact (t.restartBay_link b).trans h
  rw [← same]
  unfold State.restartBlocks
  generalize s.forBays State.restartBay = w
  rfl

theorem State.restartBlocks_case (s : State) : s.restartBlocks.now = s.now ∧ s.restartBlocks.supply = s.supply ∧
    s.restartBlocks.store = s.store ∧ s.restartBlocks.motion = { s.motion with
      cls := .unsettled, ring := [], lastSamples := [], dwellStart := s.now, missing := 0, lost := false } := by
  have same := (s.forBays_restartBay 0).1
  unfold State.restartBlocks
  generalize s.forBays State.restartBay = w at same
  rw [← same.now, ← same.motion]
  exact ⟨rfl, same.supply, same.store, rfl⟩

theorem State.restartBlocks_record (s : State) (x : BayNo) :
    s.restartBlocks.bay x = (s.bay x).restarted (s.governing x) s.now := by
  rw [State.restartBlocks_bay, (s.forBays_restartBay x).2]

/-- What the transit unit does after a RESTART (R127). -/
theorem State.startTransit_of_atRest (h : s.AtRest) (normal : s.transit.mode = .normal)
    (flags : ∀ x, (s.bay x).loadOnArrival = false) : (∀ x, s.startTransit.bay x = s.bay x) ∧
      s.startTransit.motion = s.motion ∧ s.startTransit.scheduler =
        (if s.settings.quietCode = 7 then { s.scheduler with
          pointer := s.scheduler.origin,
          origin := if s.settings.originRotation then s.scheduler.origin + 1 else s.scheduler.origin }
        else s.scheduler) ∧
      (s.settings.quietCode = 7 → s.startTransit.transit = { mode := .transitSafe, quietDue := none }) ∧
      (s.settings.quietCode ≠ 7 → s.startTransit.transit = { s.transit with
        quietDue := (quietMicros s.settings.quietCode).map (fun l => s.now + l) }) := by
  unfold State.startTransit
  split
  · rename_i safe
    obtain ⟨bays, motion, scheduler⟩ := State.enterSafe_of_atRest h normal flags
    exact ⟨bays, motion, scheduler, fun _ => (State.enterSafe_case normal).2.1, fun other => absurd safe other⟩
  · rename_i other
    exact ⟨fun _ => rfl, rfl, rfl, fun safe => absurd safe other, fun _ => by
      simp [State.startQuiet, State.modTransit, quietLength_micros]⟩

theorem restart_checks (hands : s.hands .restart r) (t : State) :
    handler .restart r t = t.checked .restart r (fun s =>
      if s.store.commit.isSome then s.answer .restart r .busy []
      else if s.bays.any BayRec.refusesRestart then s.answer .restart r .state []
      else s.takeRestart r) :=
  withEmptyBody_of_nil (List.length_eq_zero_iff.mp hands.2.2) t

end

/-- Settles O54. -/
theorem restartStartsAfresh : Obligations.RestartStartsAfresh := by
  intro dt r s hands
  have refuses_iff (b : BayNo) := (s.bay b).refusesRestart_iff
  refine ⟨fun refuses => State.refused_of_hands hands refuses dt (restart_checks hands), fun accepts commits => ?_,
    fun accepts free ⟨b, bars⟩ => ?_, fun accepts free admitted => ?_⟩
  · refine State.answered_of_checked hands accepts dt (restart_checks hands) ?_
    rw [if_pos]
    rw [State.frameArrived_store]
    exact Option.isSome_iff_ne_none.mpr commits
  · exact ⟨_, exec_restart_refused dt ⟨hands, accepts⟩ free ⟨b, (refuses_iff b).mpr bars⟩,
      State.lineUp_replied (State.answer_replied _ _ _ _ _), s.onlyAnswered_answer dt _ r _ _⟩
  · have accept (b : BayNo) : (s.bay b).refusesRestart = false := Bool.eq_false_iff.mpr (mt (refuses_iff b).mp (admitted b))
    have step := exec_restart_taken dt ⟨hands, accepts⟩ free accept
    obtain ⟨bays, -, -, motion, supply, -, store, now, -, notices⟩ := s.arrived_blocks dt
    have summary := s.summary_arrived dt
    have view := State.takeRestart_view (s := (s.elapse dt).frameArrived) (by simpa using accept) r
    generalize (s.elapse dt).frameArrived = u at *
    have bay (x : BayNo) : u.bay x = s.bay x := State.bay_of_bays bays x
    have answered : (u.answer .restart r .done []).link.slot = some {
        kind := ReqKind.code .restart + 0x80, tag := r.tag, status := .done,
        summary := s.summary (!s.link.notices.isEmpty), body := [] } := by
      rw [← summary, ← notices]
      rfl
    have acceptAt (b : BayNo) : (u.bay b).refusesRestart = false := by rw [bay]; exact accept b
    have rest : (u.answer .restart r .done []).restartBlocks.AtRest := State.restartBlocks_atRest (by exact acceptAt)
    have record (x : BayNo) : (u.answer .restart r .done []).restartBlocks.bay x =
        (s.bay x).restarted (u.governing x) (s.now + dt) := by
      rw [State.restartBlocks_record, State.answer_bay, bay, ← now]
      rfl
    obtain ⟨now', supply', store', motion'⟩ := (u.answer .restart r .done []).restartBlocks_case
    have settings : (u.answer .restart r .done []).restartBlocks.settings = s.settings := by
      rw [State.settings, store', State.answer_store, store]
      rfl
    have faults : (u.answer .restart r .done []).restartBlocks.faults = .reset := rfl
    have scheduler : (u.answer .restart r .done []).restartBlocks.scheduler = .reset := rfl
    have transit : (u.answer .restart r .done []).restartBlocks.transit = .reset := rfl
    have slot := (u.answer .restart r .done []).restartBlocks_slot
    have empty := (u.answer .restart r .done []).restartBlocks_notices
    rw [State.takeRestart] at step view
    rw [State.answer_now, now] at now'
    rw [State.answer_supply, supply] at supply'
    rw [State.answer_store, store] at store'
    rw [State.answer_motion, motion, State.answer_now, now] at motion'
    rw [answered] at slot
    generalize (u.answer .restart r .done []).restartBlocks = v at *
    obtain ⟨bays'', motion'', scheduler'', safe, normal⟩ := State.startTransit_of_atRest rest (by rw [transit]; rfl)
      (fun x => by rw [record]; rfl)
    obtain ⟨-, supply'', faults'', store'', -⟩ := v.startTransit_case
    have speaks := (State.onlyCaseSpeaks_startTransit rest).trans (State.onlyCaseSpeaks_addCaseEvent _ .started)
    have spoken := speaks.notices (by rw [empty]; exact fun _ mem => absurd mem List.not_mem_nil)
    have replies := (State.lineUp_slot _).trans (speaks.slot.trans slot)
    have raised := (v.startTransit.notes_addCaseEvent .started).lineUp
    rw [settings] at scheduler'' safe normal
    rw [now', transit] at normal
    rw [scheduler] at scheduler''
    refine ⟨_, step, ⟨_, replies, rfl, rfl, rfl, rfl⟩, ⟨_, replies, ?_⟩, fun b => ⟨fun free => ?_, fun moved => ?_⟩, ?_, ?_,
      ?_, ?_, ?_, ?_, ?_, fun h => ?_, fun h => ⟨?_, ?_⟩, raised, fun n mem => ?_⟩
    · simp only [State.summary_eq, BitVec.getLsbD_or, getLsbD_flagBit]
      simp
    · rw [State.lineUp_bay, State.addCaseEvent_bay, bays'', record]
      rcases free with h | h <;> rw [BayRec.restarted, h]
    · rw [State.lineUp_bay, State.addCaseEvent_bay, bays'', record]
      rcases moved with h | h | h <;> rw [BayRec.restarted, h] <;> rfl
    · rw [State.lineUp_motion, State.addCaseEvent_motion, motion'', motion']
    · rw [State.lineUp_scheduler, State.addCaseEvent_scheduler, scheduler'']
      by_cases safe : s.settings.quietCode = 7
      · simp only [safe, if_true, true_and]
        rfl
      · simp only [safe, if_false, false_and]
        rfl
    · rw [State.lineUp_supply, State.addCaseEvent_supply, supply'', supply']
    · rw [State.lineUp_store, State.addCaseEvent_store, store'', store']
    · rw [State.lineUp_faults, State.addCaseEvent_faults, faults'', faults]
      rfl
    · rw [State.lineUp_cursor, view.2]
    · rw [State.lineUp_pin, view.1]
    · rw [State.lineUp_transit, State.addCaseEvent_transit, safe h]
    · rw [State.lineUp_transit, State.addCaseEvent_transit, normal h]
      rfl
    · rw [State.lineUp_transit, State.addCaseEvent_transit, normal h]
    · rcases State.lineUp_notices (v.startTransit.addCaseEvent .started) with same | tail
      · exact spoken n (same ▸ mem)
      · exact spoken n (List.mem_of_mem_tail (tail ▸ mem))

end Sys2Proof.Machine
end

section
/-! PROOFS. Bay-set requests whose turns stay with their own bay: RELEASE (R142, R143). -/

namespace Sys2Proof.Machine

section

variable {set : BaySet} {f : BayNo → State → Status × State} {s t u : State} {b x : BayNo} {r : Req}

/-! ### Turns that leave the other bays -/

/-- The blocks that the turn of one bay reads stand: time, the arbiter, the scheduler and the case, but for the faults. -/
structure State.SameRoom (s t : State) : Prop where
  now : t.now = s.now
  arbiter : t.arbiter = s.arbiter
  scheduler : t.scheduler = s.scheduler
  motion : t.motion = s.motion
  supply : t.supply = s.supply
  transit : t.transit = s.transit
  store : t.store = s.store

theorem State.SameRoom.refl (s : State) : s.SameRoom s := ⟨rfl, rfl, rfl, rfl, rfl, rfl, rfl⟩

theorem State.SameRoom.trans (h : s.SameRoom t) (g : t.SameRoom u) : s.SameRoom u :=
  ⟨g.now.trans h.now, g.arbiter.trans h.arbiter, g.scheduler.trans h.scheduler, g.motion.trans h.motion,
    g.supply.trans h.supply, g.transit.trans h.transit, g.store.trans h.store⟩

theorem State.SameRoom.settings (h : s.SameRoom t) : t.settings = s.settings := congrArg (·.working.case) h.store

theorem State.SameRoom.governing (h : s.SameRoom t) (bay : t.bay b = s.bay b) : t.governing b = s.governing b :=
  State.governing_congr h.store bay

theorem State.sameRoom_modBay (s : State) (b : BayNo) (f : BayRec → BayRec) : s.SameRoom (s.modBay b f) :=
  ⟨rfl, rfl, rfl, rfl, rfl, rfl, rfl⟩

theorem State.sameRoom_recomputeAttn (s : State) : s.SameRoom s.recomputeAttn := ⟨rfl, rfl, rfl, rfl, rfl, rfl, rfl⟩

theorem State.sameRoom_enter (s : State) (b : BayNo) (st : BayState) : s.SameRoom (s.enter b st) :=
  ⟨s.enter_now b st, s.enter_arbiter b st, s.enter_scheduler b st, s.enter_motion b st, s.enter_supply b st,
    s.enter_transit b st, s.enter_store b st⟩

theorem State.sameRoom_spinDownWith (s : State) (b : BayNo) (i : Intent) : s.SameRoom (s.spinDownWith b i) :=
  (s.sameRoom_modBay b _).trans (State.sameRoom_enter _ b _)

/-- A turn of a bay-set request stays with its bay: it leaves the room and the other bays, and reads nothing else. -/
structure SoloTurn (f : BayNo → State → Status × State) : Prop where
  room : ∀ (x : BayNo) (t : State), t.SameRoom (f x t).2
  others : ∀ (x : BayNo) (t : State), t.othersKept (f x t).2 x
  reads : ∀ (b : BayNo) (s t : State), s.SameRoom t → t.bay b = s.bay b → (f b t).1 = (f b s).1 ∧ (f b t).2.bay b = (f b s).2.bay b

namespace SoloTurn

theorem checkedBay (h : SoloTurn f) (r : Req) : SoloTurn (checkedBay r f) where
  room x t := by
    unfold Machine.checkedBay
    split
    · exact .refl t
    · exact h.room x t
  others x t := by
    unfold Machine.checkedBay
    split
    · exact fun _ _ => rfl
    · exact h.others x t
  reads b s t same bay := by
    unfold Machine.checkedBay
    rw [bay]
    split
    · exact ⟨rfl, bay⟩
    · exact h.reads b s t same bay

theorem safeBay (h : SoloTurn f) : SoloTurn (safeBay f) where
  room x t := by
    unfold Machine.safeBay
    split
    · exact .refl t
    · exact h.room x t
  others x t := by
    unfold Machine.safeBay
    split
    · exact fun _ _ => rfl
    · exact h.others x t
  reads b s t same bay := by
    unfold Machine.safeBay
    rw [same.transit]
    split
    · exact ⟨rfl, bay⟩
    · exact h.reads b s t same bay

theorem allTurns_room (h : SoloTurn f) (set : BaySet) (s : State) : s.SameRoom (s.allTurns set f) :=
  State.allTurns_induct (P := fun t => s.SameRoom t) (fun x _ t same => same.trans (h.room x t)) (.refl s)

/-- What a bay finds at its turn. -/
theorem atTurn (h : SoloTurn f) (set : BaySet) (s : State) (b : BayNo) :
    s.SameRoom (s.atTurn set f b) ∧ (s.atTurn set f b).bay b = s.bay b :=
  State.atTurn_induct (P := fun t => s.SameRoom t ∧ t.bay b = s.bay b)
    (fun x earlier _ t ⟨same, bay⟩ => ⟨same.trans (h.room x t), (h.others x t b (Fin.ne_of_gt earlier)).trans bay⟩)
    ⟨.refl s, rfl⟩

theorem outcome (h : SoloTurn f) (set : BaySet) (s : State) (b : BayNo) : s.outcome set f b = (f b s).1 :=
  (h.reads b s _ (h.atTurn set s b).1 (h.atTurn set s b).2).1

theorem allTurns_bay (h : SoloTurn f) (set : BaySet) (s : State) (b : BayNo) :
    (s.allTurns set f).bay b = if inSet set b then (f b s).2.bay b else s.bay b := by
  by_cases named : inSet set b = true
  · rw [if_pos named]
    exact State.allTurns_brings (Q := fun _ t => t.bay b = (f b s).2.bay b) named
      (h.reads b s _ (h.atTurn set s b).1 (h.atTurn set s b).2).2
      (fun x later _ _ t bay => (h.others x t b (Fin.ne_of_lt later)).trans bay)
  · rw [if_neg named]
    refine State.allTurns_induct (P := fun t => t.bay b = s.bay b) (fun x here t bay => ?_) rfl
    have other : b ≠ x := by rintro rfl; exact named here
    exact (h.others x t b other).trans bay

theorem bay_of_named (h : SoloTurn f) (s : State) (named : set.getLsbD b.val = true) :
    (s.allTurns set f).bay b = (f b s).2.bay b := by
  rw [h.allTurns_bay, if_pos (by exact named)]

theorem bay_of_unnamed (h : SoloTurn f) (s : State) (unnamed : set.getLsbD b.val = false) :
    (s.allTurns set f).bay b = s.bay b := by
  rw [h.allTurns_bay, if_neg (by rw [inSet, unnamed]; exact Bool.false_ne_true)]

end SoloTurn

/-! ### RELEASE at one bay -/

theorem State.sameRoom_emptyPending (s : State) (b : BayNo) : s.SameRoom (s.emptyPending b) :=
  (s.sameRoom_modBay b _).trans (State.sameRoom_recomputeAttn _)

theorem State.emptyPending_bay_self (s : State) (b : BayNo) : (s.emptyPending b).bay b = { s.bay b with pending := 0 } := by
  rw [State.emptyPending, State.recomputeAttn_bay, State.bay_modBay_self]

theorem State.emptyPending_bay_ne (s : State) (other : x ≠ b) : (s.emptyPending b).bay x = s.bay x := by
  rw [State.emptyPending, State.recomputeAttn_bay, State.bay_modBay_ne _ _ other]

theorem State.emptyPending_governing (s : State) (b : BayNo) : (s.emptyPending b).governing b = s.governing b :=
  State.governing_of_latched_eq rfl (by rw [State.emptyPending_bay_self])

/-- The bay goes back to SPUN (R142). -/
def BayRec.returns (mode : TransitMode) (r : BayRec) : Prop :=
  r.spindleOn = true ∧ mode = .normal ∧
    ∃ p v, r.latched = some p ∧ r.speed = some v ∧ p.speedLow ≤ v ∧ v ≤ p.speedHigh

theorem BayRec.speedHolds_iff (r : BayRec) : r.speedHolds = true ↔
    ∃ p v, r.latched = some p ∧ r.speed = some v ∧ p.speedLow ≤ v ∧ v ≤ p.speedHigh := by
  unfold BayRec.speedHolds
  cases r.latched with
  | none => simp
  | some p =>
    cases r.speed with
    | none => simp
    | some v => simp [Profile.inWindow]

theorem State.releaseBay_of_kept (kept : (s.bay b).state ≠ .held ∨ (s.bay b).prk = false) : s.releaseBay b = (.state, s) := by
  unfold State.releaseBay
  dsimp only
  rw [if_neg]
  rcases kept with h | h <;> simp [h]

theorem State.releaseBay_of_returns (held : (s.bay b).state = .held) (prk : (s.bay b).prk = true)
    (returns : (s.bay b).returns s.transit.mode) : s.releaseBay b = (.done, (s.emptyPending b).enter b .spun) := by
  obtain ⟨on, normal, speed⟩ := returns
  unfold State.releaseBay
  dsimp only
  rw [if_pos (by simp [held, prk]), if_pos (by simp [on, normal, (s.bay b).speedHolds_iff.mpr speed])]

theorem State.releaseBay_of_stops (held : (s.bay b).state = .held) (prk : (s.bay b).prk = true)
    (stops : ¬ (s.bay b).returns s.transit.mode) :
    s.releaseBay b = (.accepted, (s.emptyPending b).spinDownWith b .stopAfter) := by
  unfold State.releaseBay
  dsimp only
  rw [if_pos (by simp [held, prk]), if_neg]
  rw [Bool.and_eq_true, Bool.and_eq_true, decide_eq_true_eq]
  exact fun ⟨⟨on, speed⟩, normal⟩ => stops ⟨on, normal, (s.bay b).speedHolds_iff.mp speed⟩

/-- RELEASE at one record (R142, R143). -/
theorem State.releaseBay_cases (s : State) (b : BayNo) :
    (((s.bay b).state ≠ .held ∨ (s.bay b).prk = false) ∧ s.releaseBay b = (.state, s)) ∨
    ((s.bay b).state = .held ∧ (s.bay b).prk = true ∧ (s.bay b).returns s.transit.mode ∧
      s.releaseBay b = (.done, (s.emptyPending b).enter b .spun)) ∨
    ((s.bay b).state = .held ∧ (s.bay b).prk = true ∧ ¬ (s.bay b).returns s.transit.mode ∧
      s.releaseBay b = (.accepted, (s.emptyPending b).spinDownWith b .stopAfter)) := by
  by_cases kept : (s.bay b).state ≠ .held ∨ (s.bay b).prk = false
  · exact .inl ⟨kept, State.releaseBay_of_kept kept⟩
  · rw [not_or, Classical.not_not, Bool.not_eq_false] at kept
    obtain ⟨held, prk⟩ := kept
    by_cases returns : (s.bay b).returns s.transit.mode
    · exact .inr (.inl ⟨held, prk, returns, State.releaseBay_of_returns held prk returns⟩)
    · exact .inr (.inr ⟨held, prk, returns, State.releaseBay_of_stops held prk returns⟩)

theorem State.returned_bay (s : State) (b : BayNo) : ((s.emptyPending b).enter b .spun).bay b =
    BayRec.enter .spun (s.governing b) s.now { s.bay b with pending := 0 } := by
  rw [State.enter_bay_self, State.emptyPending_bay_self, State.emptyPending_governing]
  rfl

theorem State.releaseStopped_bay (s : State) (b : BayNo) : ((s.emptyPending b).spinDownWith b .stopAfter).bay b =
    BayRec.spunDown .stopAfter (s.governing b) s.now { s.bay b with pending := 0 } := by
  rw [State.spinDownWith_bay_self, State.emptyPending_bay_self, State.emptyPending_governing]
  rfl

theorem soloTurn_releaseBay : SoloTurn State.releaseBay where
  room x t := by
    rcases t.releaseBay_cases x with ⟨-, turn⟩ | ⟨-, -, -, turn⟩ | ⟨-, -, -, turn⟩ <;> rw [turn]
    · exact .refl t
    · exact (t.sameRoom_emptyPending x).trans ((t.emptyPending x).sameRoom_enter x .spun)
    · exact (t.sameRoom_emptyPending x).trans ((t.emptyPending x).sameRoom_spinDownWith x .stopAfter)
  others x t y other := by
    rcases t.releaseBay_cases x with ⟨-, turn⟩ | ⟨-, -, -, turn⟩ | ⟨-, -, -, turn⟩ <;> rw [turn]
    · exact (State.enter_bay_ne _ _ other).trans (t.emptyPending_bay_ne other)
    · exact (State.spinDownWith_bay_ne _ _ other).trans (t.emptyPending_bay_ne other)
  reads b s t same bay := by
    have governing := same.governing bay
    rcases s.releaseBay_cases b with ⟨kept, turn⟩ | ⟨held, prk, returns, turn⟩ | ⟨held, prk, stops, turn⟩
    · rw [turn, State.releaseBay_of_kept (by rw [bay]; exact kept)]
      exact ⟨rfl, bay⟩
    · rw [turn, State.releaseBay_of_returns (by rw [bay]; exact held) (by rw [bay]; exact prk)
        (by rw [bay, same.transit]; exact returns), State.returned_bay, State.returned_bay, bay, governing, same.now]
      exact ⟨rfl, rfl⟩
    · rw [turn, State.releaseBay_of_stops (by rw [bay]; exact held) (by rw [bay]; exact prk)
        (by rw [bay, same.transit]; exact stops), State.releaseStopped_bay, State.releaseStopped_bay, bay, governing,
        same.now]
      exact ⟨rfl, rfl⟩

theorem State.caseSetsKept_refl (s : State) : s.caseSetsKept s := ⟨rfl, rfl⟩

/-- RELEASE leaves the fault sets of the case. -/
theorem State.caseSetsKept_releaseBay (s : State) (b : BayNo) : s.caseSetsKept (s.releaseBay b).2 := by
  rcases s.releaseBay_cases b with ⟨-, turn⟩ | ⟨-, -, -, turn⟩ | ⟨-, -, -, turn⟩ <;> rw [turn, State.caseSetsKept]
  · exact ⟨rfl, rfl⟩
  · dsimp only
    rw [State.enter_faults]
    exact ⟨rfl, rfl⟩
  · dsimp only
    rw [State.spinDownWith, State.enter_faults]
    exact ⟨rfl, rfl⟩

/-- A bay that goes back raises SPUN. -/
theorem State.notes_releaseBay (held : (s.bay b).state = .held) (prk : (s.bay b).prk = true)
    (returns : (s.bay b).returns s.transit.mode) :
    (s.releaseBay b).2.Notes (.bay b) (fun n => n.events &&& BayEvent.spun.bit = BayEvent.spun.bit) := by
  rw [State.releaseBay_of_returns held prk returns]
  exact State.notes_enter _ rfl

theorem handleRelease_bays {lo hi : Byte} (body : r.body = [lo, hi]) (named : word16 lo hi ≠ 0) (s : State) :
    handleRelease r s = s.answerBays .release r (word16 lo hi) State.releaseBay := by
  simp only [handleRelease, body, if_neg named]

theorem handleRelease_argument {lo hi : Byte} (body : r.body = [lo, hi]) (empty : word16 lo hi = 0) (s : State) :
    handleRelease r s = s.answer .release r .argument [] := by
  simp only [handleRelease, body, if_pos empty]

end

/-- Settles O45: each turn stays with its bay. -/
theorem releaseOutcomes : Obligations.ReleaseOutcomes := by
  intro dt r s lo hi set hands body here
  obtain rfl : set = word16 lo hi := here
  refine ⟨fun empty => ?_, fun named => ?_⟩
  · obtain ⟨t, step, kept, -, replied⟩ := State.answers_of_hands hands dt (handleRelease_argument body empty _)
    exact ⟨t, step, replied, kept⟩
  · have step := exec_of_hands hands dt
    have handled : handler .release r (s.elapse dt).frameArrived = _ :=
      (handleRelease_bays body named _).trans (State.answerBays_eq _ _ _ _ _)
    rw [handled] at step
    obtain ⟨bays, arbiter, scheduler, motion, supply, faults, store, now, transit, -⟩ := s.arrived_blocks dt
    have bay (x : BayNo) : (s.elapse dt).frameArrived.bay x = s.bay x := State.bay_of_bays bays x
    generalize (s.elapse dt).frameArrived = u at *
    have solo := soloTurn_releaseBay
    have room := solo.allTurns_room (word16 lo hi) u
    have mode : u.transit.mode = s.transit.mode := by rw [transit]; rfl
    have governing (x : BayNo) : u.governing x = s.governing x := State.governing_congr store (bay x)
    refine ⟨_, _, step, State.listed_lineUp _ _ _ _, fun b inSet' held prk => ?_, fun b inSet' kept => ?_,
      fun b outside => ?_, ?_, ?_, ?_, ?_, ?_, ?_, ?_, ?_⟩
    · have heldAt : (u.bay b).state = .held := by rw [bay]; exact held
      have prkAt : (u.bay b).prk = true := by rw [bay]; exact prk
      rw [State.lineUp_bay, State.answer_bay, solo.bay_of_named u inSet', solo.outcome]
      by_cases returns : (u.bay b).returns u.transit.mode
      · have raised : (u.allTurns (word16 lo hi) State.releaseBay).Notes (.bay b)
            (fun n => n.events &&& BayEvent.spun.bit = BayEvent.spun.bit) := by
          refine State.allTurns_brings (Q := fun _ t => t.Notes (.bay b)
            (fun n => n.events &&& BayEvent.spun.bit = BayEvent.spun.bit)) inSet' ?_ (fun x _ _ _ t has => ?_)
          · obtain ⟨same, bayAt⟩ := solo.atTurn (word16 lo hi) u b
            exact State.notes_releaseBay (by rw [bayAt]; exact heldAt) (by rw [bayAt]; exact prkAt)
              (by rw [bayAt, same.transit]; exact returns)
          · exact (State.event_releaseBay (D := fun _ => True) x t).notes (Notice.stable_events _) has
        rw [State.releaseBay_of_returns heldAt prkAt returns, State.returned_bay, governing, now]
        rw [bay, mode] at returns
        rw [bay]
        exact ⟨rfl, rfl, rfl, rfl, fun _ => ⟨rfl, rfl, rfl, rfl, rfl, rfl, (raised.answer _ _ _ _).lineUp⟩,
          fun not => absurd returns not⟩
      · rw [State.releaseBay_of_stops heldAt prkAt returns, State.releaseStopped_bay, governing, now, BayRec.spunDown_eq]
        rw [bay, mode] at returns
        rw [bay]
        exact ⟨rfl, rfl, rfl, rfl, fun does => absurd does returns, fun _ => ⟨rfl, rfl, rfl, rfl, rfl, rfl⟩⟩
    · rw [State.lineUp_bay, State.answer_bay, solo.bay_of_named u inSet', solo.outcome,
        State.releaseBay_of_kept (by rw [bay]; exact kept), bay]
      exact ⟨rfl, rfl⟩
    · rw [State.lineUp_bay, State.answer_bay, solo.bay_of_unnamed u outside, bay]
    · have kept : u.caseSetsKept (u.allTurns (word16 lo hi) State.releaseBay) :=
        State.allTurns_induct (P := fun t => u.caseSetsKept t) (fun x _ t h =>
          ⟨(t.caseSetsKept_releaseBay x).1.trans h.1, (t.caseSetsKept_releaseBay x).2.trans h.2⟩) u.caseSetsKept_refl
      rw [State.caseSetsKept, faults] at kept
      rw [State.caseSetsKept, State.lineUp_faults, State.answer_faults]
      exact kept
    · rw [State.lineUp_arbiter, State.answer_arbiter, room.arbiter, arbiter]
    · rw [State.lineUp_scheduler, State.answer_scheduler, room.scheduler, scheduler]
    · rw [State.lineUp_motion, State.answer_motion, room.motion, motion]
    · rw [State.lineUp_supply, State.answer_supply, room.supply, supply]
    · rw [State.lineUp_store, State.answer_store, room.store, store]
    · rw [State.lineUp_transit, State.answer_transit, room.transit, transit]
    · rw [State.lineUp_now, State.answer_now, room.now, now]

end Sys2Proof.Machine
end

section
/-! PROOFS. Bay-set requests that honour the CHECK flag (R148, R149, R180), and LOAD (R75, R76). -/

namespace Sys2Proof.Machine

section

variable {set : BaySet} {f : BayNo → State → Status × State} {s t u : State} {b x : BayNo} {r : Req} {k : ReqKind}

/-! ### The tests ahead of a turn -/

theorem checkedBay_of_takes (takes : s.takes r set b) (f : BayNo → State → Status × State) : checkedBay r f b s = f b s := by
  unfold checkedBay
  rw [if_neg]
  rw [Bool.and_eq_true, bne_iff_ne]
  exact takes.2

theorem checkedBay_of_pending (named : set.getLsbD b.val = true) (refused : ¬ s.takes r set b)
    (f : BayNo → State → Status × State) : checkedBay r f b s = (.pending, s) := by
  unfold checkedBay
  rw [if_pos]
  rw [Bool.and_eq_true, bne_iff_ne]
  exact Classical.byContradiction fun accepted => refused ⟨named, accepted⟩

/-- Whether a turn is taken depends on the bay's pending set alone (R149). -/
theorem State.takes_congr (bay : (t.bay b).pending = (s.bay b).pending) : t.takes r set b ↔ s.takes r set b := by
  rw [State.takes, State.takes, bay]

theorem safeBay_of_safe (safe : s.transit.mode = .transitSafe) (f : BayNo → State → Status × State) :
    safeBay f b s = (.safeMode, s) := if_pos safe

theorem safeBay_of_normal (normal : s.transit.mode = .normal) (f : BayNo → State → Status × State) :
    safeBay f b s = f b s := if_neg (by rw [normal]; decide)

/-! ### The request as a command -/

/-- A bay-set request that names no bay. -/
theorem State.bays_argument (hands : s.hands k r) (dt : Nat) (handles : ∀ t : State, handler k r t = t.checkedBays k r 0 f) :
    ∃ t, exec (commandOf k dt r) s = .next t ∧ t.replied k r .argument [] ∧ s.onlyAnswered t dt := by
  obtain ⟨t, step, kept, -, replied⟩ := State.answers_of_hands hands dt ((handles _).trans (if_pos rfl))
  exact ⟨t, step, replied, kept⟩

/-- A bay-set request that the case pending set refuses (R148). -/
theorem State.bays_refused (hands : s.hands k r) (dt : Nat) (handles : ∀ t : State, handler k r t = t.checkedBays k r set f)
    (named : set ≠ 0) (refuses : s.checkRefuses r) :
    ∃ t, exec (commandOf k dt r) s = .next t ∧ t.replied k r .pending [] ∧ s.onlyAnswered t dt :=
  State.refused_of_hands hands refuses dt fun t => (handles t).trans (if_neg named)

/-- The turns of a bay-set request (R180). -/
theorem exec_of_bays (hands : s.hands k r) (dt : Nat) (handles : ∀ t : State, handler k r t = t.checkedBays k r set f)
    (named : set ≠ 0) (accepts : ¬ s.checkRefuses r) :
    exec (commandOf k dt r) s = .next (((s.elapse dt).frameArrived.allTurns set (checkedBay r f)).answer k r
      (statusOf set ((s.elapse dt).frameArrived.outcome set (checkedBay r f)))
      ((baysOf set).flatMap (fun b =>
        [BitVec.ofNat 8 b.val, ((s.elapse dt).frameArrived.outcome set (checkedBay r f) b).code]))).lineUp := by
  rw [exec_of_checked hands accepts dt fun t => (handles t).trans (if_neg named), State.answerBays_eq]

/-! ### LOAD at one bay -/

/-- The kind of a QUEUED bay's entry. -/
theorem State.queuedForSpin_iff (s : State) (b : BayNo) : s.queuedForSpin b = true ↔ s.entryKind b = some .spin := by
  unfold State.queuedForSpin State.entryKind
  cases s.entryOf b with
  | none => simp
  | some e => simp

theorem State.entryOf_congr (arbiter : t.arbiter = s.arbiter) (b : BayNo) : t.entryOf b = s.entryOf b := by
  rw [State.entryOf, arbiter]
  rfl

theorem State.entryKind_congr (arbiter : t.arbiter = s.arbiter) (b : BayNo) : t.entryKind b = s.entryKind b := by
  rw [State.entryKind, State.entryOf_congr arbiter]
  rfl

/-- Load admission of a SPUN bay, by the status of its answer (R57). -/
theorem State.loadSpun_eq (s : State) (b : BayNo) : s.loadSpun b = (s.admission b,
    if s.admission b = .exposed then s.setLoadOnArrival b false
    else if s.admission b = .accepted then s.startLoad b else s) := by
  unfold State.loadSpun
  have exposed := s.exposed_iff b
  by_cases h : s.exposed b = true
  · rw [if_pos h, if_pos (exposed.mp h), exposed.mp h]
  · have free : s.admission b ≠ .exposed := fun e => h (exposed.mpr e)
    rw [if_neg h, if_neg free]
    have limit : ¬ (s.settings.exposureLimit ≠ 0 ∧ s.settings.exposureLimit ≤ (s.bay b).joltsLoaded) := fun reached =>
      free (by rw [State.admission, if_pos reached])
    rw [State.admission, if_neg limit]
    by_cases moving : s.motion.cls ≠ .still
    · rw [if_pos moving, if_pos moving]
      rfl
    · rw [if_neg moving, if_neg moving]
      by_cases cut : s.supply.cls = .cut
      · rw [if_pos cut, if_pos cut]
        rfl
      · rw [if_neg cut, if_neg cut]
        rfl

/-- LOAD at one record (R58, R76). -/
theorem State.loadSpun_bay (s : State) (b : BayNo) : (s.loadSpun b).2.bay b =
    if s.admission b = .exposed then { s.bay b with loadOnArrival := false }
    else if s.admission b = .accepted then (s.bay b).enter .loading (s.governing b) s.now else s.bay b := by
  rw [State.loadSpun_eq]
  dsimp only
  split
  · exact State.bay_modBay_self _ _ _
  · split
    · exact State.enter_bay_self _ _ _
    · rfl

theorem State.sameRoom_loadSpun (s : State) (b : BayNo) : s.SameRoom (s.loadSpun b).2 := by
  rw [State.loadSpun_eq]
  dsimp only
  split
  · exact s.sameRoom_modBay b _
  · split
    · exact s.sameRoom_enter b .loading
    · exact .refl s

theorem State.loadSpun_bay_ne (s : State) (other : x ≠ b) : (s.loadSpun b).2.bay x = s.bay x := by
  rw [State.loadSpun_eq]
  dsimp only
  split
  · exact State.bay_modBay_ne _ _ other
  · split
    · exact State.enter_bay_ne _ _ other
    · rfl

theorem State.loadSpun_faults (s : State) (b : BayNo) : (s.loadSpun b).2.faults = s.faults := by
  rw [State.loadSpun_eq]
  dsimp only
  split
  · rfl
  · split
    · exact State.enter_faults _ _ _
    · rfl

/-- What the answer to LOAD of a SPUN bay reads. -/
theorem State.loadSpun_reads (same : s.SameRoom t) (bay : t.bay b = s.bay b) :
    (t.loadSpun b).1 = (s.loadSpun b).1 ∧ (t.loadSpun b).2.bay b = (s.loadSpun b).2.bay b := by
  have admission : t.admission b = s.admission b :=
    State.admission_congr same.settings (by rw [bay]) (by rw [same.motion]) (by rw [same.supply])
  rw [State.loadSpun_bay, State.loadSpun_bay, admission, bay, same.governing bay, same.now, State.loadSpun_eq,
    State.loadSpun_eq, admission]
  exact ⟨rfl, rfl⟩

/-- The flag of a bay is set where its entry in the queue is of kind SPIN, or its spin-up has begun (R76). -/
def State.awaitsLoad (b : BayNo) (s : State) : Prop :=
  (s.bay b).state = .queued ∧ s.entryKind b = some .spin ∨ (s.bay b).state = .spinningUp

/-- LOAD at one bay, by its state (R76). -/
theorem State.loadBay_of_spun (state : (s.bay b).state = .spun) : s.loadBay b = s.loadSpun b := by
  rw [State.loadBay, state]

theorem State.loadBay_of_awaits (awaits : s.awaitsLoad b) : s.loadBay b = (.accepted, s.setLoadOnArrival b true) := by
  unfold State.loadBay
  rcases awaits with ⟨state, kind⟩ | state
  · rw [state]
    exact if_pos ((s.queuedForSpin_iff b).mpr kind)
  · rw [state]

theorem State.loadBay_of_loaded (state : (s.bay b).state = .loading ∨ (s.bay b).state = .loaded) :
    s.loadBay b = (.done, s) := by
  unfold State.loadBay
  rcases state with state | state <;> rw [state]

theorem State.loadBay_of_other (spun : (s.bay b).state ≠ .spun) (awaits : ¬ s.awaitsLoad b)
    (loading : (s.bay b).state ≠ .loading) (loaded : (s.bay b).state ≠ .loaded) : s.loadBay b = (.state, s) := by
  unfold State.loadBay
  cases state : (s.bay b).state with
  | spun => exact absurd state spun
  | loading => exact absurd state loading
  | loaded => exact absurd state loaded
  | spinningUp => exact absurd (.inr state) awaits
  | queued => exact if_neg fun spin => awaits (.inl ⟨state, (s.queuedForSpin_iff b).mp spin⟩)
  | vacant | stopped | parkQueued | unloading | spinningDown | diag | held | fenced => rfl

theorem State.loadBay_cases (s : State) (b : BayNo) :
    ((s.bay b).state = .spun ∧ s.loadBay b = s.loadSpun b) ∨
    (s.awaitsLoad b ∧ s.loadBay b = (.accepted, s.setLoadOnArrival b true)) ∨
    (((s.bay b).state = .loading ∨ (s.bay b).state = .loaded) ∧ s.loadBay b = (.done, s)) ∨
    ((s.bay b).state ≠ .spun ∧ ¬ s.awaitsLoad b ∧ (s.bay b).state ≠ .loading ∧ (s.bay b).state ≠ .loaded ∧
      s.loadBay b = (.state, s)) := by
  by_cases spun : (s.bay b).state = .spun
  · exact .inl ⟨spun, State.loadBay_of_spun spun⟩
  by_cases awaits : s.awaitsLoad b
  · exact .inr (.inl ⟨awaits, State.loadBay_of_awaits awaits⟩)
  by_cases loaded : (s.bay b).state = .loading ∨ (s.bay b).state = .loaded
  · exact .inr (.inr (.inl ⟨loaded, State.loadBay_of_loaded loaded⟩))
  · obtain ⟨loading, loaded⟩ := not_or.mp loaded
    exact .inr (.inr (.inr ⟨spun, awaits, loading, loaded, State.loadBay_of_other spun awaits loading loaded⟩))

theorem State.awaitsLoad_congr (same : s.SameRoom t) (bay : t.bay b = s.bay b) : t.awaitsLoad b ↔ s.awaitsLoad b := by
  rw [State.awaitsLoad, State.awaitsLoad, State.entryKind_congr same.arbiter, bay]

theorem soloTurn_loadBay : SoloTurn State.loadBay where
  room x t := by
    rcases t.loadBay_cases x with ⟨-, turn⟩ | ⟨-, turn⟩ | ⟨-, turn⟩ | ⟨-, -, -, -, turn⟩ <;> rw [turn]
    · exact t.sameRoom_loadSpun x
    · exact t.sameRoom_modBay x (fun r => { r with loadOnArrival := true })
    · exact .refl t
    · exact .refl t
  others x t y other := by
    rcases t.loadBay_cases x with ⟨-, turn⟩ | ⟨-, turn⟩ | ⟨-, turn⟩ | ⟨-, -, -, -, turn⟩ <;> rw [turn]
    · exact t.loadSpun_bay_ne other
    · exact State.bay_modBay_ne _ _ other
  reads b s t same bay := by
    have awaits_iff := State.awaitsLoad_congr same bay
    rcases s.loadBay_cases b with ⟨spun, turn⟩ | ⟨awaits, turn⟩ | ⟨loaded, turn⟩ | ⟨spun, awaits, loading, loaded, turn⟩
    · rw [turn, State.loadBay_of_spun (by rw [bay]; exact spun)]
      exact State.loadSpun_reads same bay
    · rw [turn, State.loadBay_of_awaits (awaits_iff.mpr awaits)]
      dsimp only
      rw [State.setLoadOnArrival, State.setLoadOnArrival, State.bay_modBay_self, State.bay_modBay_self, bay]
      exact ⟨rfl, rfl⟩
    · rw [turn, State.loadBay_of_loaded (by rw [bay]; exact loaded)]
      exact ⟨rfl, bay⟩
    · rw [turn, State.loadBay_of_other (by rw [bay]; exact spun) (mt awaits_iff.mp awaits) (by rw [bay]; exact loading)
        (by rw [bay]; exact loaded)]
      exact ⟨rfl, bay⟩

theorem State.loadBay_faults (b : BayNo) (s : State) : (s.loadBay b).2.faults = s.faults := by
  rcases s.loadBay_cases b with ⟨-, turn⟩ | ⟨-, turn⟩ | ⟨-, turn⟩ | ⟨-, -, -, -, turn⟩ <;> rw [turn]
  · exact s.loadSpun_faults b
  · rfl

/-- What a turn leaves of the Fault Unit, the tests ahead of it leave too. -/
theorem checkedBay_faults (h : ∀ (b : BayNo) (s : State), (f b s).2.faults = s.faults) (r : Req) (b : BayNo) (s : State) :
    (checkedBay r f b s).2.faults = s.faults := by
  unfold checkedBay
  split
  · rfl
  · exact h b s

theorem safeBay_faults (h : ∀ (b : BayNo) (s : State), (f b s).2.faults = s.faults) (b : BayNo) (s : State) :
    (safeBay f b s).2.faults = s.faults := by
  unfold safeBay
  split
  · rfl
  · exact h b s

theorem State.allTurns_faults (h : ∀ (b : BayNo) (s : State), (f b s).2.faults = s.faults) (set : BaySet) (s : State) :
    (s.allTurns set f).faults = s.faults :=
  State.allTurns_induct (P := fun t => t.faults = s.faults) (fun x _ t same => (h x t).trans same) rfl

end

/-- Settles O42: each turn stays with its bay. -/
theorem loadOutcomes : Obligations.LoadOutcomes := by
  intro dt r s lo hi set hands body here
  obtain rfl : set = word16 lo hi := here
  have handles (t : State) : handler .load r t = t.checkedBays .load r (word16 lo hi) (safeBay State.loadBay) := by
    simp only [handler, handleLoad, body]
  refine ⟨fun empty => State.bays_argument hands dt fun t => by rw [handles, empty],
    fun named refuses => State.bays_refused hands dt handles named refuses, fun named accepts => ?_⟩
  have step := exec_of_bays hands dt handles named accepts
  obtain ⟨bays, arbiter, scheduler, motion, supply, faults, store, now, transit, -⟩ := s.arrived_blocks dt
  have bay (x : BayNo) : (s.elapse dt).frameArrived.bay x = s.bay x := State.bay_of_bays bays x
  generalize (s.elapse dt).frameArrived = u at *
  have solo := soloTurn_loadBay.safeBay.checkedBay r
  have room := solo.allTurns_room (word16 lo hi) u
  have faults' := State.allTurns_faults (checkedBay_faults (safeBay_faults State.loadBay_faults) r) (word16 lo hi) u
  have mode : u.transit.mode = s.transit.mode := by rw [transit]; rfl
  have settings : u.settings = s.settings := congrArg (·.working.case) store
  have governing (x : BayNo) : u.governing x = s.governing x := State.governing_congr store (bay x)
  have admission (x : BayNo) : u.admission x = s.admission x :=
    State.admission_congr settings (by rw [bay]) (by rw [motion]) (by rw [supply])
  have kind (x : BayNo) : u.entryKind x = s.entryKind x := State.entryKind_congr arbiter x
  have takes_iff (b : BayNo) : u.takes r (word16 lo hi) b ↔ s.takes r (word16 lo hi) b := State.takes_congr (by rw [bay])
  refine ⟨_, _, step, State.listed_lineUp _ _ _ _, fun b named' refused => ?_, fun b takes safe => ?_,
    fun b takes normal => ?_, fun b outside => ?_, ?_, ?_, ?_, ?_, ?_, ?_, ?_, ?_⟩
  · rw [State.lineUp_bay, State.answer_bay, solo.bay_of_named u named', solo.outcome,
      checkedBay_of_pending named' (mt (takes_iff b).mp refused), bay]
    exact ⟨rfl, rfl⟩
  · rw [State.lineUp_bay, State.answer_bay, solo.bay_of_named u takes.1, solo.outcome,
      checkedBay_of_takes ((takes_iff b).mpr takes), safeBay_of_safe (by rw [mode]; exact safe), bay]
    exact ⟨rfl, rfl⟩
  · rw [State.lineUp_bay, State.answer_bay, solo.bay_of_named u takes.1, solo.outcome,
      checkedBay_of_takes ((takes_iff b).mpr takes), safeBay_of_normal (by rw [mode]; exact normal)]
    have flagged (awaits : u.awaitsLoad b) : (u.loadBay b).1 = .accepted ∧
        (u.loadBay b).2.bay b = { s.bay b with loadOnArrival := true } := by
      rw [State.loadBay_of_awaits awaits]
      dsimp only
      rw [State.setLoadOnArrival, State.bay_modBay_self, bay]
      exact ⟨rfl, rfl⟩
    have refused (awaits : ¬ u.awaitsLoad b) (spun : (s.bay b).state ≠ .spun) (loading : (s.bay b).state ≠ .loading)
        (loaded : (s.bay b).state ≠ .loaded) : (u.loadBay b).1 = .state ∧ (u.loadBay b).2.bay b = s.bay b := by
      rw [State.loadBay_of_other (by rw [bay]; exact spun) awaits (by rw [bay]; exact loading) (by rw [bay]; exact loaded)]
      exact ⟨rfl, bay b⟩
    have done (loaded : (u.bay b).state = .loading ∨ (u.bay b).state = .loaded) : (u.loadBay b).1 = .done ∧
        (u.loadBay b).2.bay b = s.bay b := by
      rw [State.loadBay_of_loaded loaded]
      exact ⟨rfl, bay b⟩
    cases state : (s.bay b).state with
    | spun =>
      rw [State.loadBay_of_spun (by rw [bay]; exact state), State.loadSpun_bay, admission, bay, governing, now]
      refine ⟨?_, fun accepted => ?_, fun exposed => by rw [if_pos exposed], fun barred => ?_⟩
      · rw [State.loadSpun_eq, admission]
      · rw [if_neg (by rw [accepted]; decide), if_pos accepted]
        rfl
      · rw [if_neg (by rcases barred with h | h <;> rw [h] <;> decide),
          if_neg (by rcases barred with h | h <;> rw [h] <;> decide)]
    | queued =>
      refine ⟨fun spin => flagged (.inl ⟨by rw [bay]; exact state, (kind b).trans spin⟩), fun test => refused ?_ ?_ ?_ ?_⟩
      · rintro (⟨-, spin⟩ | spinningUp)
        · exact test ((kind b).symm.trans spin)
        · rw [bay, state] at spinningUp
          exact nomatch spinningUp
      all_goals rw [state]; decide
    | spinningUp => exact flagged (.inr (by rw [bay]; exact state))
    | loading => exact done (.inl (by rw [bay]; exact state))
    | loaded => exact done (.inr (by rw [bay]; exact state))
    | vacant | stopped | parkQueued | unloading | spinningDown | diag | held | fenced =>
      refine refused ?_ (by rw [state]; decide) (by rw [state]; decide) (by rw [state]; decide)
      rw [State.awaitsLoad, bay, state]
      rintro (⟨queued, -⟩ | spinningUp)
      · exact nomatch queued
      · exact nomatch spinningUp
  · rw [State.lineUp_bay, State.answer_bay, solo.bay_of_unnamed u outside, bay]
  · rw [State.lineUp_arbiter, State.answer_arbiter, room.arbiter, arbiter]
  · rw [State.lineUp_scheduler, State.answer_scheduler, room.scheduler, scheduler]
  · rw [State.lineUp_motion, State.answer_motion, room.motion, motion]
  · rw [State.lineUp_supply, State.answer_supply, room.supply, supply]
  · rw [State.lineUp_faults, State.answer_faults, faults', faults]
  · rw [State.lineUp_store, State.answer_store, room.store, store]
  · rw [State.lineUp_transit, State.answer_transit, room.transit, transit]
  · rw [State.lineUp_now, State.answer_now, room.now, now]

end Sys2Proof.Machine
end

section
/-! PROOFS. Bay-set requests whose turns run grant evaluations: what the turns of other bays make of a bay (R34, R180),
and TEST WINDING (R152). -/

namespace Sys2Proof.Machine

section

variable {set : BaySet} {f : BayNo → State → Status × State} {s t u : State} {b x : BayNo} {r : Req} {k : EntryKind}

/-! ### What evaluations make of a bay -/

/-- The bay stands, with its entry, or its entry was granted; a test granted has the converter (R34, R154). -/
structure State.Onward (b : BayNo) (s t : State) : Prop where
  matched : t.queuesMatch
  now : t.now = s.now
  bay : t.bay b = s.bay b ∧ t.entryKind b = s.entryKind b ∨
    ∃ k p, s.entryKind b = some k ∧ t.bay b = (s.bay b).granted k p s.now
  converter : (t.bay b).state = .diag →
    (s.bay b).state = .diag ∧ t.arbiter.converter = s.arbiter.converter ∨
    (s.bay b).state ≠ .diag ∧ t.arbiter.converter = { holder := some b, offsetDue := some (s.now + 1000), offset := none }

theorem State.Onward.refl (q : s.queuesMatch) (b : BayNo) : s.Onward b s :=
  ⟨q, rfl, .inl ⟨rfl, rfl⟩, fun diag => .inl ⟨diag, rfl⟩⟩

/-- A bay without a SPIN or TEST entry stands. -/
theorem State.Onward.kept (h : s.Onward b t) (q : s.queuesMatch) (queued : (s.bay b).state ≠ .queued) :
    t.bay b = s.bay b := by
  rcases h.bay with ⟨same, -⟩ | ⟨k, -, entry, -⟩
  · exact same
  · exact absurd ((q.entry_iff b).mp ⟨k, entry⟩) queued

theorem State.Onward.trans (h : s.Onward b t) (g : t.Onward b u) : s.Onward b u where
  matched := g.matched
  now := g.now.trans h.now
  bay := by
    rcases h.bay with ⟨same, entry⟩ | ⟨k, p, entry, granted⟩
    · rw [← same, ← entry, ← h.now]
      exact g.bay
    · refine .inr ⟨k, p, entry, ?_⟩
      rw [g.kept h.matched (by rw [granted]; exact BayRec.granted_state_ne k _ _ _ (by decide) (by decide)), granted]
  converter diag := by
    rcases g.converter diag with ⟨before, same⟩ | ⟨before, tested⟩
    · rw [same]
      exact h.converter before
    · refine .inr ⟨fun here => before ?_, by rw [tested, h.now]⟩
      rcases h.bay with ⟨same, -⟩ | ⟨k, p, entry, granted⟩
      · rw [same]; exact here
      · cases k with
        | test => rw [granted]; rfl
        | spin =>
          have later := g.kept h.matched (by
            rw [granted]; exact BayRec.granted_state_ne _ _ _ _ (by decide) (by decide))
          rw [later, granted] at diag
          exact nomatch diag

/-- A change that leaves the bay, its entry and the converter. -/
theorem State.Onward.of_kept (matched : t.queuesMatch) (now : t.now = s.now) (bay : t.bay b = s.bay b)
    (entry : t.entryKind b = s.entryKind b) (converter : (s.bay b).state = .diag → t.arbiter.converter = s.arbiter.converter) :
    s.Onward b t :=
  ⟨matched, now, .inl ⟨bay, entry⟩, fun diag => .inl ⟨bay ▸ diag, converter (bay ▸ diag)⟩⟩

/-- What the grant of a bay does not write. -/
theorem BayRec.granted_kept (k : EntryKind) (p : Profile) (now : Nat) (r : BayRec) :
    (r.granted k p now).loadOnArrival = r.loadOnArrival ∧ (r.granted k p now).pending = r.pending ∧
      (r.granted k p now).winding = r.winding := by
  cases k <;> exact ⟨rfl, rfl, rfl⟩

theorem State.Onward.flags (h : s.Onward b t) : (t.bay b).loadOnArrival = (s.bay b).loadOnArrival ∧
    (t.bay b).pending = (s.bay b).pending ∧ (t.bay b).winding = (s.bay b).winding := by
  rcases h.bay with ⟨same, -⟩ | ⟨k, p, -, granted⟩
  · rw [same]; exact ⟨rfl, rfl, rfl⟩
  · rw [granted]; exact BayRec.granted_kept k p _ _

/-- While a test runs, no test is granted (R35, R153). -/
theorem State.onward_carryOut {p : PassResult} (q : s.queuesMatch) (pass : s.pass = some p) (b : BayNo) :
    s.Onward b (s.carryOut p) := by
  have grants := State.grants_of_pass pass
  have bay (x : BayNo) : (s.raised p).bay x = s.bay x := by rw [State.raised_eq]; rfl
  have matched := (State.keeps_carryOut pass).queues q
  have now : (s.carryOut p).now = s.now := by simp
  have raisedNow : (s.raised p).now = s.now := by rw [State.raised_eq]
  have converter : (s.raised p).arbiter.converter = s.arbiter.converter := by rw [State.raised_eq]
  have nodup := q.nodup
  have entries : (s.carryOut p).arbiter.entries.Sublist s.arbiter.entries := by
    rw [State.carryOut_eq, ← s.raised_entries p, Arbiter.entries, State.grant_queue]
    exact List.filter_sublist.map _
  by_cases here : b = p.granted.bay
  · subst here
    have queued : (s.bay p.granted.bay).state = .queued := grants.queued q
    have granted : (s.carryOut p).bay p.granted.bay =
        (s.bay p.granted.bay).granted p.granted.kind (s.effective p.granted.bay) s.now := by
      rw [State.carryOut_eq, State.grant_bay_self, bay, raisedNow,
        State.effective_of_store (s := s) (by rw [State.raised_eq])]
    refine ⟨matched, now, .inr ⟨p.granted.kind, _, (State.entryKind_eq_some nodup).mpr grants.entry, granted⟩,
      fun diag => .inr ⟨by rw [queued]; decide, ?_⟩⟩
    rw [granted, BayRec.granted_state] at diag
    rw [State.carryOut_eq, State.grant_converter]
    cases kind : p.granted.kind with
    | spin => rw [kind] at diag; exact nomatch diag
    | test => rw [raisedNow]; rfl
  · have same : (s.carryOut p).bay b = s.bay b := by rw [State.carryOut_eq, State.grant_bay_ne _ _ here, bay]
    refine .of_kept matched now same ?_ fun diag => ?_
    · by_cases queued : (s.bay b).state = .queued
      · obtain ⟨k, entry⟩ := (matched.entry_iff b).mpr (by rw [same]; exact queued)
        rw [entry, (State.entryKind_eq_some nodup).mpr (entries.subset ((State.entryKind_eq_some matched.nodup).mp entry))]
      · rw [State.entryKind, State.entryKind, q.entryOf queued, matched.entryOf (by rw [same]; exact queued)]
    · rw [State.carryOut_eq, State.grant_converter, converter]
      cases kind : p.granted.kind with
      | spin => rfl
      | test =>
        have eligible := grants.eligible
        have some' : s.someDiag = true := (s.bays_any_iff _).mpr ⟨b, by rw [diag]; rfl⟩
        simp [State.eligible, kind, some'] at eligible

theorem State.onward_evaluate (q : s.queuesMatch) (b : BayNo) : s.Onward b s.evaluate :=
  State.evaluate_induct (P := fun t => s.Onward b t)
    (fun _ _ pass h => h.trans (State.onward_carryOut h.matched pass b)) s (.refl q b)

/-! ### Joins (R28) -/

theorem State.joinQueue_bay_self (s : State) (b : BayNo) (k : EntryKind) :
    (s.joinQueue b k).bay b = (s.bay b).enter .queued (s.governing b) s.now := by
  rw [State.joinQueue, State.enter_bay_self]
  rfl

theorem State.joinQueue_bay_ne (s : State) (other : x ≠ b) (k : EntryKind) : (s.joinQueue b k).bay x = s.bay x := by
  rw [State.joinQueue, State.enter_bay_ne _ _ other]
  rfl

theorem State.joinQueue_arbiter (s : State) (b : BayNo) (k : EntryKind) : (s.joinQueue b k).arbiter =
    { s.arbiter with queue := s.arbiter.queue ++ [{ bay := b, kind := k, skip := 0 }] } := by
  rw [State.joinQueue, State.enter_arbiter]
  rfl

theorem State.sameCase_joinQueue (s : State) (b : BayNo) (k : EntryKind) : s.SameCase (s.joinQueue b k) :=
  (s.sameCase_modArbiter _).trans (State.sameCase_enter _ b .queued)

theorem State.joinQueue_scheduler (s : State) (b : BayNo) (k : EntryKind) : (s.joinQueue b k).scheduler = s.scheduler := by
  rw [State.joinQueue, State.enter_scheduler]
  rfl

theorem State.joinQueue_entryKind_ne (s : State) (other : x ≠ b) (k : EntryKind) :
    (s.joinQueue b k).entryKind x = s.entryKind x := by
  rw [State.entryKind, State.entryOf, State.joinQueue_arbiter, List.find?_append]
  rw [State.entryKind, State.entryOf]
  cases s.arbiter.queue.find? (fun e => e.bay == x) with
  | some e => rfl
  | none => simp [Ne.symm other]

theorem State.joinQueue_entryKind_self (matched : (s.joinQueue b k).queuesMatch) : (s.joinQueue b k).entryKind b = some k := by
  rw [State.entryKind_eq_some matched.nodup, State.joinQueue_arbiter]
  simp [Arbiter.entries]

/-- A join of another bay. -/
theorem State.onward_joinQueue (matched : (s.joinQueue x k).queuesMatch) (other : b ≠ x) : s.Onward b (s.joinQueue x k) :=
  .of_kept matched (s.sameCase_joinQueue x k).now (s.joinQueue_bay_ne other k) (s.joinQueue_entryKind_ne other k)
    fun _ => by rw [State.joinQueue_arbiter]

/-- The bay after its join waits on with its entry, or has its grant (R28, R39). -/
theorem State.Onward.joined (h : (s.joinQueue b k).Onward b t) (matched : (s.joinQueue b k).queuesMatch) :
    t.bay b = (s.bay b).enter .queued (s.governing b) s.now ∧ t.entryKind b = some k ∨
      ∃ p, t.bay b = ((s.bay b).enter .queued (s.governing b) s.now).granted k p s.now ∧
        (k = .test → t.arbiter.converter = { holder := some b, offsetDue := some (s.now + 1000), offset := none }) := by
  have entry := State.joinQueue_entryKind_self matched
  have now := (s.sameCase_joinQueue b k).now
  rcases h.bay with ⟨same, kind⟩ | ⟨j, p, kind, granted⟩
  · exact .inl ⟨same.trans (s.joinQueue_bay_self b k), kind.trans entry⟩
  · rw [entry] at kind
    cases kind
    rw [State.joinQueue_bay_self, now] at granted
    refine .inr ⟨p, granted, fun test => ?_⟩
    subst test
    rcases h.converter (by rw [granted]; rfl) with ⟨diag, -⟩ | ⟨-, converter⟩
    · rw [State.joinQueue_bay_self] at diag
      exact nomatch diag
    · rw [converter, now]

/-! ### The turns of a bay-set request -/

/-- What the turns of other bays pass on, the bay finds at its turn. -/
theorem State.atTurn_onward {C : State → Prop}
    (passes : ∀ x, x ≠ b → ∀ t : State, C t → C (f x t).2 ∧ t.Onward b (f x t).2) (q : s.queuesMatch) (start : C s) :
    C (s.atTurn set f b) ∧ s.Onward b (s.atTurn set f b) :=
  State.atTurn_induct (P := fun t => C t ∧ s.Onward b t) (fun x earlier _ t ⟨here, onward⟩ =>
    have ⟨after, moved⟩ := passes x (Fin.ne_of_lt earlier) t here
    ⟨after, onward.trans moved⟩) ⟨start, .refl q b⟩

/-- What the bay leaves after its turn, the turns of the bays after it pass on. -/
theorem State.allTurns_onward {C : State → Prop}
    (passes : ∀ x, x ≠ b → ∀ t : State, C t → C (f x t).2 ∧ t.Onward b (f x t).2) (named : set.getLsbD b.val = true)
    (matched : (f b (s.atTurn set f b)).2.queuesMatch) (own : C (f b (s.atTurn set f b)).2) :
    C (s.allTurns set f) ∧ (f b (s.atTurn set f b)).2.Onward b (s.allTurns set f) :=
  State.allTurns_brings (Q := fun _ t => C t ∧ (f b (s.atTurn set f b)).2.Onward b t) (by exact named)
    ⟨own, .refl matched b⟩ (fun x later _ _ t ⟨here, onward⟩ =>
      have ⟨after, moved⟩ := passes x (Fin.ne_of_gt later) t here
      ⟨after, onward.trans moved⟩)

/-- A bay outside the set. -/
theorem State.allTurns_onward_of_unnamed {C : State → Prop}
    (passes : ∀ x, x ≠ b → ∀ t : State, C t → C (f x t).2 ∧ t.Onward b (f x t).2) (unnamed : set.getLsbD b.val = false)
    (q : s.queuesMatch) (start : C s) : C (s.allTurns set f) ∧ s.Onward b (s.allTurns set f) :=
  State.allTurns_induct (P := fun t => C t ∧ s.Onward b t) (fun x here t ⟨holds, onward⟩ =>
    have apart : x ≠ b := by
      rintro rfl
      rw [inSet, unnamed] at here
      exact nomatch here
    have ⟨after, moved⟩ := passes x apart t holds
    ⟨after, onward.trans moved⟩) ⟨start, .refl q b⟩

/-- Where no turn can do anything but turn away, nothing changes. -/
theorem State.allTurns_of_safe (safe : s.transit.mode = .transitSafe) (r : Req) (set : BaySet)
    (f : BayNo → State → Status × State) : s.allTurns set (checkedBay r (safeBay f)) = s :=
  State.allTurns_induct (P := fun t => t = s) (fun x _ t same => by
    subst same
    unfold checkedBay
    split
    · rfl
    · rw [safeBay_of_safe safe]) rfl

theorem State.atTurn_of_safe (safe : s.transit.mode = .transitSafe) (r : Req) (set : BaySet)
    (f : BayNo → State → Status × State) (b : BayNo) : s.atTurn set (checkedBay r (safeBay f)) b = s :=
  State.atTurn_induct (P := fun t => t = s) (fun x _ _ t same => by
    subst same
    unfold checkedBay
    split
    · rfl
    · rw [safeBay_of_safe safe]) rfl

/-- The CHECK flag and the transit mode at one bay turn a bay away or let it be handled (R149). -/
theorem checkedBay_cases (r : Req) (f : BayNo → State → Status × State) (x : BayNo) (t : State) :
    checkedBay r f x t = (.pending, t) ∨ checkedBay r f x t = f x t := by
  unfold checkedBay
  split
  · exact .inl rfl
  · exact .inr rfl

theorem safeBay_cases (f : BayNo → State → Status × State) (x : BayNo) (t : State) :
    safeBay f x t = (.safeMode, t) ∨ t.transit.mode = .normal ∧ safeBay f x t = f x t := by
  cases mode : t.transit.mode with
  | transitSafe => exact .inl (safeBay_of_safe mode f)
  | normal => exact .inr ⟨rfl, safeBay_of_normal mode f⟩

/-- A pass that grants nothing grants nothing after the turns that evaluate or leave it (R34). -/
theorem State.allTurns_pass (own : (f b (s.atTurn set f b)).2.pass = none) (named : set.getLsbD b.val = true)
    (after : ∀ (x : BayNo) (t : State), t.pass = none → (f x t).2.pass = none) : (s.allTurns set f).pass = none :=
  State.allTurns_brings (Q := fun _ t => t.pass = none) (by exact named) own (fun x _ _ _ t none' => after x t none')

/-! ### The room of the joins -/

/-- Time, the case and the scheduler stand, and the queues match. -/
structure State.JoinRoom (s t : State) : Prop where
  matched : t.queuesMatch
  same : s.SameCase t
  scheduler : t.scheduler = s.scheduler

theorem State.JoinRoom.refl (q : s.queuesMatch) : s.JoinRoom s := ⟨q, .refl s, rfl⟩

theorem State.JoinRoom.trans (h : s.JoinRoom t) (g : t.JoinRoom u) : s.JoinRoom u :=
  ⟨g.matched, h.same.trans g.same, g.scheduler.trans h.scheduler⟩

theorem State.joinRoom_evaluate (q : s.queuesMatch) : s.JoinRoom s.evaluate :=
  ⟨s.keeps_evaluate.queues q, s.sameCase_evaluate, s.evaluate_scheduler⟩

/-- A join of a STOPPED bay with its evaluation (R29, R152). -/
def State.joined (b : BayNo) (k : EntryKind) (s : State) : State := (s.joinQueue b k).evaluate

theorem State.joinQueue_matched (q : s.queuesMatch) (stopped : (s.bay b).state = .stopped)
    (normal : s.transit.mode = .normal) (k : EntryKind) : (s.joinQueue b k).queuesMatch :=
  (State.keeps_joinQueue (by rw [stopped]; rfl) normal k).queues q

theorem State.joinRoom_joinQueue (q : s.queuesMatch) (stopped : (s.bay b).state = .stopped)
    (normal : s.transit.mode = .normal) (k : EntryKind) : s.JoinRoom (s.joinQueue b k) :=
  ⟨State.joinQueue_matched q stopped normal k, s.sameCase_joinQueue b k, s.joinQueue_scheduler b k⟩

theorem State.joinRoom_joined (q : s.queuesMatch) (stopped : (s.bay b).state = .stopped)
    (normal : s.transit.mode = .normal) (k : EntryKind) : s.JoinRoom (s.joined b k) :=
  (State.joinRoom_joinQueue q stopped normal k).trans (State.joinRoom_evaluate (State.joinQueue_matched q stopped normal k))

/-- A join of another bay with its evaluation. -/
theorem State.joined_passes (q : s.queuesMatch) (stopped : (s.bay x).state = .stopped)
    (normal : s.transit.mode = .normal) (k : EntryKind) (other : x ≠ b) : s.Onward b (s.joined x k) :=
  have matched := State.joinQueue_matched q stopped normal k
  (State.onward_joinQueue matched (Ne.symm other)).trans (State.onward_evaluate matched b)

/-- A request whose turns in a NORMAL case join bays to the queue, load them, or leave them. -/
structure JoinTurns (f : BayNo → State → Status × State) : Prop where
  room : ∀ (x : BayNo) (t : State), t.queuesMatch → t.transit.mode = .normal → t.JoinRoom (f x t).2
  onward : ∀ (b x : BayNo), x ≠ b → ∀ t : State, t.queuesMatch → t.transit.mode = .normal → t.Onward b (f x t).2
  pass : ∀ (x : BayNo) (t : State), t.pass = none → (f x t).2.pass = none

namespace JoinTurns

theorem turn_room (h : JoinTurns f) (r : Req) (x : BayNo) (t : State) (q : t.queuesMatch) :
    t.JoinRoom (checkedBay r (safeBay f) x t).2 := by
  rcases checkedBay_cases r (safeBay f) x t with turn | turn <;> rw [turn]
  · exact .refl q
  · rcases safeBay_cases f x t with turn | ⟨normal, turn⟩ <;> rw [turn]
    · exact .refl q
    · exact h.room x t q normal

theorem turn_onward (h : JoinTurns f) (r : Req) (other : x ≠ b) (t : State) (q : t.queuesMatch) :
    t.Onward b (checkedBay r (safeBay f) x t).2 := by
  rcases checkedBay_cases r (safeBay f) x t with turn | turn <;> rw [turn]
  · exact .refl q b
  · rcases safeBay_cases f x t with turn | ⟨normal, turn⟩ <;> rw [turn]
    · exact .refl q b
    · exact h.onward b x other t q normal

theorem turn_pass (h : JoinTurns f) (r : Req) (x : BayNo) (t : State) (pass : t.pass = none) :
    (checkedBay r (safeBay f) x t).2.pass = none := by
  rcases checkedBay_cases r (safeBay f) x t with turn | turn <;> rw [turn]
  · exact pass
  · rcases safeBay_cases f x t with turn | ⟨-, turn⟩ <;> rw [turn]
    · exact pass
    · exact h.pass x t pass

theorem passes (h : JoinTurns f) (r : Req) (s : State) (b x : BayNo) (other : x ≠ b) (t : State) (room : s.JoinRoom t) :
    s.JoinRoom (checkedBay r (safeBay f) x t).2 ∧ t.Onward b (checkedBay r (safeBay f) x t).2 :=
  ⟨room.trans (h.turn_room r x t room.matched), h.turn_onward r other t room.matched⟩

theorem allTurns_room (h : JoinTurns f) (r : Req) (set : BaySet) (q : s.queuesMatch) :
    s.JoinRoom (s.allTurns set (checkedBay r (safeBay f))) :=
  State.allTurns_induct (P := fun t => s.JoinRoom t) (fun x _ t room => room.trans (h.turn_room r x t room.matched)) (.refl q)

/-- What a bay finds at its turn. -/
theorem atTurn (h : JoinTurns f) (r : Req) (set : BaySet) (q : s.queuesMatch) (b : BayNo) :
    s.JoinRoom (s.atTurn set (checkedBay r (safeBay f)) b) ∧ s.Onward b (s.atTurn set (checkedBay r (safeBay f)) b) :=
  State.atTurn_onward (h.passes r s b) q (.refl q)

/-- A bay that the CHECK flag turns away. -/
theorem refused (h : JoinTurns f) (q : s.queuesMatch) (named : set.getLsbD b.val = true) (refused : ¬ s.takes r set b) :
    s.outcome set (checkedBay r (safeBay f)) b = .pending ∧
      s.Onward b (s.allTurns set (checkedBay r (safeBay f))) := by
  obtain ⟨room, onward⟩ := h.atTurn r set q b
  have turn := checkedBay_of_pending named (mt (State.takes_congr onward.flags.2.1).mp refused) (safeBay f)
  have after := State.allTurns_onward (f := checkedBay r (safeBay f)) (h.passes r s b) named
    (by rw [turn]; exact room.matched) (by rw [turn]; exact room)
  rw [turn] at after
  exact ⟨congrArg Prod.fst turn, onward.trans after.2⟩

/-- A bay that is handled at its turn. -/
theorem handled (h : JoinTurns f) (q : s.queuesMatch) (takes : s.takes r set b) (normal : s.transit.mode = .normal) :
    ∃ t, s.JoinRoom t ∧ s.Onward b t ∧ s.outcome set (checkedBay r (safeBay f)) b = (f b t).1 ∧
      (f b t).2.Onward b (s.allTurns set (checkedBay r (safeBay f))) ∧
      ((f b t).2.pass = none → (s.allTurns set (checkedBay r (safeBay f))).pass = none) := by
  obtain ⟨room, onward⟩ := h.atTurn r set q b
  have mode : (s.atTurn set (checkedBay r (safeBay f)) b).transit.mode = .normal := by rw [room.same.transit]; exact normal
  have turn := (checkedBay_of_takes ((State.takes_congr onward.flags.2.1).mpr takes) (safeBay f)).trans
    (safeBay_of_normal mode f)
  have own := h.room b _ room.matched mode
  have after := State.allTurns_onward (f := checkedBay r (safeBay f)) (h.passes r s b) takes.1
    (by rw [turn]; exact own.matched) (by rw [turn]; exact room.trans own)
  rw [turn] at after
  refine ⟨_, room, onward, congrArg Prod.fst turn, after.2, fun pass => ?_⟩
  exact State.allTurns_pass (by rw [turn]; exact pass) takes.1 (h.turn_pass r)

theorem unnamed (h : JoinTurns f) (r : Req) (q : s.queuesMatch) (outside : set.getLsbD b.val = false) :
    s.Onward b (s.allTurns set (checkedBay r (safeBay f))) :=
  (State.allTurns_onward_of_unnamed (h.passes r s b) outside q (.refl q)).2

end JoinTurns

/-! ### TEST WINDING at one bay (R152) -/

theorem State.testBay_of_stopped (stopped : (s.bay b).state = .stopped) : s.testBay b = (.accepted, s.joined b .test) :=
  if_pos stopped

theorem State.testBay_of_other (other : (s.bay b).state ≠ .stopped) : s.testBay b = (.state, s) := if_neg other

theorem State.testBay_pass (x : BayNo) (t : State) (pass : t.pass = none) : (t.testBay x).2.pass = none := by
  by_cases stopped : (t.bay x).state = .stopped
  · rw [State.testBay_of_stopped stopped]
    exact State.evaluate_pass _
  · rw [State.testBay_of_other stopped]
    exact pass

theorem joinTurns_testBay : JoinTurns State.testBay where
  room x t q normal := by
    by_cases stopped : (t.bay x).state = .stopped
    · rw [State.testBay_of_stopped stopped]
      exact State.joinRoom_joined q stopped normal .test
    · rw [State.testBay_of_other stopped]
      exact .refl q
  onward b x other t q normal := by
    by_cases stopped : (t.bay x).state = .stopped
    · rw [State.testBay_of_stopped stopped]
      exact State.joined_passes q stopped normal .test other
    · rw [State.testBay_of_other stopped]
      exact .refl q b
  pass := State.testBay_pass

end

/-- Settles O44. -/
theorem testWindingOutcomes : Obligations.TestWindingOutcomes := by
  intro dt r s lo hi set hands body here
  obtain rfl : set = word16 lo hi := here
  have handles (t : State) : handler .testWinding r t = t.checkedBays .testWinding r (word16 lo hi) (safeBay State.testBay) := by
    simp only [handler, handleTestWinding, body]
  refine ⟨fun empty => State.bays_argument hands dt fun t => by rw [handles, empty],
    fun named refuses => State.bays_refused hands dt handles named refuses, fun named accepts q => ?_⟩
  have step := exec_of_bays hands dt handles named accepts
  obtain ⟨bays, arbiter, scheduler, motion, supply, faults, store, now, transit, -⟩ := s.arrived_blocks dt
  have matched := State.arrived_queuesMatch q dt
  have bay (x : BayNo) : (s.elapse dt).frameArrived.bay x = s.bay x := State.bay_of_bays bays x
  generalize (s.elapse dt).frameArrived = u at *
  have turns := joinTurns_testBay
  have room := turns.allTurns_room r (word16 lo hi) matched
  have mode : u.transit.mode = s.transit.mode := by rw [transit]; rfl
  have takes_iff (b : BayNo) : u.takes r (word16 lo hi) b ↔ s.takes r (word16 lo hi) b := State.takes_congr (by rw [bay])
  have kept {b : BayNo} {t : State} (onward : u.Onward b t) (queued : (s.bay b).state ≠ .queued) : t.bay b = s.bay b := by
    rw [onward.kept matched (by rw [bay]; exact queued), bay]
  refine ⟨_, _, step, State.listed_lineUp _ _ _ _, fun b named' refused => ?_, fun b takes safe => ?_,
    fun b takes normal stopped => ?_, fun b takes normal other => ?_, fun b takes normal stopped => ?_,
    fun b outside queued => ?_, ?_, ?_, ?_, ?_, ?_, ?_, ?_⟩
  · obtain ⟨outcome, onward⟩ := turns.refused matched named' (mt (takes_iff b).mp refused)
    rw [State.lineUp_bay, State.answer_bay, outcome]
    exact ⟨rfl, kept onward, by rw [onward.flags.1, bay]⟩
  · have safeAt : u.transit.mode = .transitSafe := by rw [mode]; exact safe
    rw [State.lineUp_bay, State.answer_bay, State.allTurns_of_safe safeAt, State.outcome, State.atTurn_of_safe safeAt,
      checkedBay_of_takes ((takes_iff b).mpr takes), safeBay_of_safe safeAt]
    exact ⟨rfl, bay b⟩
  · obtain ⟨t, roomAt, onward, outcome, after, -⟩ := turns.handled matched ((takes_iff b).mpr takes)
      (by rw [mode]; exact normal)
    have same : t.bay b = s.bay b := kept onward (by rw [stopped]; decide)
    have stoppedAt : (t.bay b).state = .stopped := by rw [same]; exact stopped
    have joined := State.joinQueue_matched roomAt.matched stoppedAt (by rw [roomAt.same.transit, mode]; exact normal) .test
    rw [State.testBay_of_stopped stoppedAt] at outcome after
    rw [State.lineUp_bay, State.answer_bay, outcome, State.lineUp_arbiter, State.answer_arbiter]
    refine ⟨rfl, ?_⟩
    have onward' := (State.onward_evaluate joined b).trans after
    rcases onward'.joined joined with ⟨waits, entry⟩ | ⟨p, granted, converter⟩
    · rw [waits, same]
      refine ⟨rfl, rfl, .inl ⟨rfl, ?_⟩⟩
      rw [State.entryKind_congr (State.lineUp_arbiter _), State.entryKind_congr (State.answer_arbiter _ _ _ _ _)]
      exact entry
    · rw [granted, same, converter rfl, roomAt.same.now, now]
      exact ⟨rfl, rfl, .inr ⟨rfl, rfl, rfl, rfl⟩⟩
  · obtain ⟨t, roomAt, onward, outcome, after, -⟩ := turns.handled matched ((takes_iff b).mpr takes)
      (by rw [mode]; exact normal)
    have otherAt : (t.bay b).state ≠ .stopped := by
      rcases onward.bay with ⟨same, -⟩ | ⟨k, p, -, granted⟩
      · rw [same, bay]; exact other
      · rw [granted]; exact BayRec.granted_state_ne k _ _ _ (by decide) (by decide)
    rw [State.testBay_of_other otherAt] at outcome after
    rw [State.lineUp_bay, State.answer_bay, outcome]
    exact ⟨rfl, kept (onward.trans after)⟩
  · obtain ⟨t, roomAt, onward, -, -, pass⟩ := turns.handled matched ((takes_iff b).mpr takes) (by rw [mode]; exact normal)
    have stoppedAt : (t.bay b).state = .stopped := by rw [kept onward (by rw [stopped]; decide)]; exact stopped
    rw [State.pass_answered]
    exact pass (by rw [State.testBay_of_stopped stoppedAt]; exact State.evaluate_pass _)
  · rw [State.lineUp_bay, State.answer_bay, kept (turns.unnamed r matched outside) queued]
  · rw [State.lineUp_scheduler, State.answer_scheduler, room.scheduler, scheduler]
  · rw [State.lineUp_motion, State.answer_motion, room.same.motion, motion]
  · rw [State.lineUp_supply, State.answer_supply, room.same.supply, supply]
  · rw [State.lineUp_faults, State.answer_faults, room.same.faults, faults]
  · rw [State.lineUp_store, State.answer_store, room.same.store, store]
  · rw [State.lineUp_transit, State.answer_transit, room.same.transit, transit]
  · rw [State.lineUp_now, State.answer_now, room.same.now, now]

end Sys2Proof.Machine
end

section
/-! PROOFS. SPIN UP (R52 to R54). -/

namespace Sys2Proof.Machine

section

variable {s t : State} {b x : BayNo} {v : Bool}

/-! ### The flag asked for (R53) -/

theorem State.askLoad_bay_self (s : State) (b : BayNo) (v : Bool) :
    (s.askLoad b v).bay b = { s.bay b with loadOnArrival := (s.bay b).loadOnArrival || v } := by
  unfold State.askLoad
  cases v with
  | true =>
    rw [if_pos rfl, State.setLoadOnArrival, State.bay_modBay_self, Bool.or_true]
  | false =>
    rw [if_neg (by decide), Bool.or_false]

theorem State.askLoad_bay_ne (s : State) (other : x ≠ b) (v : Bool) : (s.askLoad b v).bay x = s.bay x := by
  unfold State.askLoad
  split
  · exact State.bay_modBay_ne _ _ other
  · rfl

theorem State.askLoad_arbiter (s : State) (b : BayNo) (v : Bool) : (s.askLoad b v).arbiter = s.arbiter := by
  unfold State.askLoad
  split <;> rfl

theorem State.sameCase_askLoad (s : State) (b : BayNo) (v : Bool) : s.SameCase (s.askLoad b v) := by
  unfold State.askLoad
  split
  · exact s.sameCase_modBay b _
  · exact .refl s

theorem State.askLoad_scheduler (s : State) (b : BayNo) (v : Bool) : (s.askLoad b v).scheduler = s.scheduler := by
  unfold State.askLoad
  split <;> rfl

theorem State.joinRoom_askLoad (q : s.queuesMatch) (normal : s.transit.mode = .normal) (b : BayNo) (v : Bool) :
    s.JoinRoom (s.askLoad b v) :=
  ⟨(State.keeps_askLoad normal b v).queues q, s.sameCase_askLoad b v, s.askLoad_scheduler b v⟩

theorem State.onward_askLoad (q : s.queuesMatch) (normal : s.transit.mode = .normal) (other : b ≠ x) (v : Bool) :
    s.Onward b (s.askLoad x v) :=
  .of_kept ((State.keeps_askLoad normal x v).queues q) (s.sameCase_askLoad x v).now (s.askLoad_bay_ne other v)
    (State.entryKind_congr (s.askLoad_arbiter x v) b) fun _ => by rw [s.askLoad_arbiter x v]

theorem State.askLoad_pass (s : State) (b : BayNo) (v : Bool) : (s.askLoad b v).pass = s.pass := by
  have same := s.sameCase_askLoad b v
  refine State.pass_congr (s.askLoad_arbiter b v) same.store (by rw [same.supply]) (by rw [same.motion])
    (by rw [same.transit]) fun x => ?_
  by_cases here : x = b
  · rw [here, State.askLoad_bay_self]
  · rw [State.askLoad_bay_ne _ here]

/-! ### The load of a SPUN bay (R54) -/

theorem State.sameCase_loadSpun (s : State) (b : BayNo) : s.SameCase (s.loadSpun b).2 :=
  have room := s.sameRoom_loadSpun b
  ⟨room.now, room.motion, room.supply, room.transit, s.loadSpun_faults b, room.store⟩

theorem State.joinRoom_loadSpun (q : s.queuesMatch) (spun : (s.bay b).state = .spun) (normal : s.transit.mode = .normal) :
    s.JoinRoom (s.loadSpun b).2 :=
  ⟨(State.keeps_loadSpun spun normal).queues q, s.sameCase_loadSpun b, (s.sameRoom_loadSpun b).scheduler⟩

theorem State.onward_loadSpun (q : s.queuesMatch) (spun : (s.bay x).state = .spun) (normal : s.transit.mode = .normal)
    (other : b ≠ x) : s.Onward b (s.loadSpun x).2 :=
  have arbiter := (s.sameRoom_loadSpun x).arbiter
  .of_kept ((State.keeps_loadSpun spun normal).queues q) (s.sameRoom_loadSpun x).now (s.loadSpun_bay_ne other)
    (State.entryKind_congr arbiter b) fun _ => by rw [arbiter]

theorem State.loadSpun_state_ne (spun : (s.bay b).state = .spun) : ((s.loadSpun b).2.bay b).state ≠ .queued := by
  rw [State.loadSpun_bay]
  split
  · rw [spun]; decide
  · split
    · simp
    · rw [spun]; decide

theorem State.loadSpun_pass (spun : (s.bay b).state = .spun) : (s.loadSpun b).2.pass = s.pass := by
  have same := s.sameRoom_loadSpun b
  refine State.pass_congr same.arbiter same.store (by rw [same.supply]) (by rw [same.motion])
    (by rw [same.transit]) fun x => ?_
  by_cases here : x = b
  · rw [here, State.loadSpun_bay, spun]
    split
    · rw [spun]
    · split
      · simp
      · rw [spun]
  · rw [State.loadSpun_bay_ne _ here]

/-! ### One bay (R53) -/

/-- The bay that SPIN UP joins to the queue. -/
def State.spinJoined (b : BayNo) (v : Bool) (s : State) : State := (s.askLoad b v).joined b .spin

theorem State.spinUpBay_of_stopped (stopped : (s.bay b).state = .stopped) :
    s.spinUpBay v b = (.accepted, s.spinJoined b v) := by
  rw [State.spinUpBay, stopped]
  rfl

theorem State.spinUpBay_of_awaits (awaits : s.awaitsLoad b) : s.spinUpBay v b = (.accepted, s.askLoad b v) := by
  unfold State.spinUpBay
  rcases awaits with ⟨state, kind⟩ | state
  · rw [state]
    exact if_pos ((s.queuedForSpin_iff b).mpr kind)
  · rw [state]

theorem State.spinUpBay_of_spun (spun : (s.bay b).state = .spun) :
    s.spinUpBay v b = if v then s.loadSpun b else (.done, s) := by
  rw [State.spinUpBay, spun]

theorem State.spinUpBay_of_loaded (state : (s.bay b).state = .loading ∨ (s.bay b).state = .loaded) :
    s.spinUpBay v b = (.done, s) := by
  unfold State.spinUpBay
  rcases state with state | state <;> rw [state]

theorem State.spinUpBay_of_other (stopped : (s.bay b).state ≠ .stopped) (spun : (s.bay b).state ≠ .spun)
    (awaits : ¬ s.awaitsLoad b) (loading : (s.bay b).state ≠ .loading) (loaded : (s.bay b).state ≠ .loaded) :
    s.spinUpBay v b = (.state, s) := by
  unfold State.spinUpBay
  cases state : (s.bay b).state with
  | stopped => exact absurd state stopped
  | spun => exact absurd state spun
  | loading => exact absurd state loading
  | loaded => exact absurd state loaded
  | spinningUp => exact absurd (.inr state) awaits
  | queued => exact if_neg fun spin => awaits (.inl ⟨state, (s.queuedForSpin_iff b).mp spin⟩)
  | vacant | parkQueued | unloading | spinningDown | diag | held | fenced => rfl

/-- The turn of a bay: a join, the flag, a load, or nothing (R53, R54). -/
theorem State.spinUpBay_cases (s : State) (v : Bool) (b : BayNo) :
    ((s.bay b).state = .stopped ∧ (s.spinUpBay v b).2 = s.spinJoined b v) ∨ (s.spinUpBay v b).2 = s.askLoad b v ∨
    ((s.bay b).state = .spun ∧ (s.spinUpBay v b).2 = (s.loadSpun b).2) ∨ (s.spinUpBay v b).2 = s := by
  by_cases stopped : (s.bay b).state = .stopped
  · exact .inl ⟨stopped, by rw [State.spinUpBay_of_stopped stopped]⟩
  by_cases spun : (s.bay b).state = .spun
  · rw [State.spinUpBay_of_spun spun]
    split
    · exact .inr (.inr (.inl ⟨spun, rfl⟩))
    · exact .inr (.inr (.inr rfl))
  by_cases awaits : s.awaitsLoad b
  · exact .inr (.inl (by rw [State.spinUpBay_of_awaits awaits]))
  by_cases loaded : (s.bay b).state = .loading ∨ (s.bay b).state = .loaded
  · exact .inr (.inr (.inr (by rw [State.spinUpBay_of_loaded loaded])))
  · obtain ⟨loading, loaded⟩ := not_or.mp loaded
    exact .inr (.inr (.inr (by rw [State.spinUpBay_of_other stopped spun awaits loading loaded])))

theorem State.spinJoined_askLoad (q : s.queuesMatch) (stopped : (s.bay b).state = .stopped)
    (normal : s.transit.mode = .normal) (v : Bool) : (s.askLoad b v).queuesMatch ∧
      ((s.askLoad b v).bay b).state = .stopped ∧ (s.askLoad b v).transit.mode = .normal :=
  ⟨(State.keeps_askLoad normal b v).queues q, by rw [State.askLoad_state]; exact stopped,
    by rw [State.askLoad_mode]; exact normal⟩

/-- A bay that is not QUEUED has no kind of entry. -/
theorem State.queuesMatch.noEntry (q : s.queuesMatch) (h : (s.bay b).state ≠ .queued) : s.entryKind b = none := by
  rw [State.entryKind, q.entryOf h]
  rfl

theorem joinTurns_spinUpBay (v : Bool) : JoinTurns (State.spinUpBay v) where
  room x t q normal := by
    rcases t.spinUpBay_cases v x with ⟨stopped, turn⟩ | turn | ⟨spun, turn⟩ | turn <;> rw [turn]
    · obtain ⟨asked, stoppedAt, normalAt⟩ := State.spinJoined_askLoad q stopped normal v
      exact (State.joinRoom_askLoad q normal x v).trans (State.joinRoom_joined asked stoppedAt normalAt .spin)
    · exact State.joinRoom_askLoad q normal x v
    · exact State.joinRoom_loadSpun q spun normal
    · exact .refl q
  onward b x other t q normal := by
    rcases t.spinUpBay_cases v x with ⟨stopped, turn⟩ | turn | ⟨spun, turn⟩ | turn <;> rw [turn]
    · obtain ⟨asked, stoppedAt, normalAt⟩ := State.spinJoined_askLoad q stopped normal v
      exact (State.onward_askLoad q normal (Ne.symm other) v).trans
        (State.joined_passes asked stoppedAt normalAt .spin other)
    · exact State.onward_askLoad q normal (Ne.symm other) v
    · exact State.onward_loadSpun q spun normal (Ne.symm other)
    · exact .refl q b
  pass x t pass := by
    rcases t.spinUpBay_cases v x with ⟨stopped, turn⟩ | turn | ⟨spun, turn⟩ | turn <;> rw [turn]
    · exact State.evaluate_pass _
    · rw [State.askLoad_pass, pass]
    · rw [State.loadSpun_pass spun, pass]
    · exact pass

theorem choiceOf_above {c : Byte} (above : 1 < c.toNat) : choiceOf c = none := by
  have zero : c ≠ 0 := by rintro rfl; exact absurd above (by decide)
  have one : c ≠ 1 := by rintro rfl; exact absurd above (by decide)
  rw [choiceOf, if_neg zero, if_neg one]

/-- A choice that has a meaning (R189). -/
theorem choiceOf_named {c : Byte} (named : c.toNat ≤ 1) : (c = 0 ∨ c = 1) ∧ choiceOf c = some (c == 1) := by
  have either : c = 0 ∨ c = 1 := by
    rcases Nat.le_one_iff_eq_zero_or_eq_one.mp named with zero | one
    · exact .inl (BitVec.eq_of_toNat_eq zero)
    · exact .inr (BitVec.eq_of_toNat_eq one)
  refine ⟨either, ?_⟩
  rcases either with rfl | rfl <;> rfl

end

/-- Settles O40. -/
theorem spinUpOutcomes : Obligations.SpinUpOutcomes := by
  intro dt r s lo hi choice set hands body here
  obtain rfl : set = word16 lo hi := here
  have handles (named : choice.toNat ≤ 1) (t : State) : handler .spinUp r t =
      t.checkedBays .spinUp r (word16 lo hi) (safeBay (State.spinUpBay (choice == 1))) := by
    simp only [handler, handleSpinUp, body, (choiceOf_named named).2]
  refine ⟨fun bad => ?_, fun meaning named refuses => State.bays_refused hands dt (handles meaning) named refuses,
    fun meaning named accepts q => ?_⟩
  · by_cases above : 1 < choice.toNat
    · obtain ⟨t, step, kept, -, replied⟩ := State.answers_of_hands hands dt (st := .argument) (body := [])
        (show handleSpinUp r (s.elapse dt).frameArrived = _ by simp only [handleSpinUp, body, choiceOf_above above])
      exact ⟨t, step, replied, kept⟩
    · have empty := bad.resolve_left above
      exact State.bays_argument hands dt fun t => by rw [handles (Nat.le_of_not_lt above), empty]
  have step := exec_of_bays hands dt (handles meaning) named accepts
  obtain ⟨bays, arbiter, scheduler, motion, supply, faults, store, now, transit, -⟩ := s.arrived_blocks dt
  have matched := State.arrived_queuesMatch q dt
  have bay (x : BayNo) : (s.elapse dt).frameArrived.bay x = s.bay x := State.bay_of_bays bays x
  generalize (s.elapse dt).frameArrived = u at *
  have turns := joinTurns_spinUpBay (choice == 1)
  have room := turns.allTurns_room r (word16 lo hi) matched
  have mode : u.transit.mode = s.transit.mode := by rw [transit]; rfl
  have kind (x : BayNo) : u.entryKind x = s.entryKind x := State.entryKind_congr arbiter x
  have takes_iff (b : BayNo) : u.takes r (word16 lo hi) b ↔ s.takes r (word16 lo hi) b := State.takes_congr (by rw [bay])
  have kept {b : BayNo} {t : State} (onward : u.Onward b t) (queued : (s.bay b).state ≠ .queued) : t.bay b = s.bay b := by
    rw [onward.kept matched (by rw [bay]; exact queued), bay]
  refine ⟨_, _, step, State.listed_lineUp _ _ _ _, fun b named' refused => ?_, fun b takes safe => ?_,
    fun b takes normal => ?_, fun b takes normal stopped => ?_,
    fun b outside queued => ?_, ?_, ?_, ?_, ?_, ?_, ?_, ?_⟩
  · obtain ⟨outcome, onward⟩ := turns.refused matched named' (mt (takes_iff b).mp refused)
    rw [State.lineUp_bay, State.answer_bay, outcome]
    exact ⟨rfl, kept onward, by rw [onward.flags.1, bay]⟩
  · have safeAt : u.transit.mode = .transitSafe := by rw [mode]; exact safe
    rw [State.lineUp_bay, State.answer_bay, State.allTurns_of_safe safeAt, State.outcome, State.atTurn_of_safe safeAt,
      checkedBay_of_takes ((takes_iff b).mpr takes), safeBay_of_safe safeAt]
    exact ⟨rfl, bay b⟩
  · obtain ⟨t, roomAt, onward, outcome, after, -⟩ := turns.handled matched ((takes_iff b).mpr takes)
      (by rw [mode]; exact normal)
    have normalAt : t.transit.mode = .normal := by rw [roomAt.same.transit, mode]; exact normal
    rw [State.lineUp_bay, State.answer_bay, outcome, State.entryKind_congr (State.lineUp_arbiter _),
      State.entryKind_congr (State.answer_arbiter _ _ _ _ _)]
    generalize u.allTurns (word16 lo hi) (checkedBay r (safeBay (State.spinUpBay (choice == 1)))) = w at *
    have done (turn : t.spinUpBay (choice == 1) b = (.done, t)) (queued : (s.bay b).state ≠ .queued) :
        (t.spinUpBay (choice == 1) b).1 = .done ∧ w.bay b = s.bay b := by
      rw [turn] at after ⊢
      exact ⟨rfl, kept (onward.trans after) queued⟩
    have flagged (awaits : t.awaitsLoad b) : (t.spinUpBay (choice == 1) b).1 = .accepted ∧
        (w.bay b).loadOnArrival = ((s.bay b).loadOnArrival || choice == 1) := by
      rw [State.spinUpBay_of_awaits awaits] at after ⊢
      refine ⟨rfl, ?_⟩
      rw [after.flags.1, State.askLoad_bay_self]
      dsimp only
      rw [onward.flags.1, bay]
    have refused (stopped : (t.bay b).state ≠ .stopped) (spun : (t.bay b).state ≠ .spun) (awaits : ¬ t.awaitsLoad b)
        (loading : (t.bay b).state ≠ .loading) (loaded : (t.bay b).state ≠ .loaded) :
        (t.spinUpBay (choice == 1) b).1 = .state ∧ u.Onward b w := by
      rw [State.spinUpBay_of_other stopped spun awaits loading loaded] at after ⊢
      exact ⟨rfl, onward.trans after⟩
    cases state : (s.bay b).state with
    | stopped =>
      have same := kept onward (by rw [state]; decide)
      have stoppedAt : (t.bay b).state = .stopped := by rw [same]; exact state
      obtain ⟨asked, askedStopped, askedNormal⟩ := State.spinJoined_askLoad roomAt.matched stoppedAt normalAt (choice == 1)
      have joined := State.joinQueue_matched asked askedStopped askedNormal .spin
      rw [State.spinUpBay_of_stopped stoppedAt] at after ⊢
      have whole := ((State.onward_evaluate joined b).trans after).joined joined
      rw [State.askLoad_bay_self, same] at whole
      rcases whole with ⟨waits, entry⟩ | ⟨p, granted, -⟩
      · rw [waits]
        exact ⟨rfl, .inl ⟨rfl, entry⟩, rfl⟩
      · rw [granted]
        exact ⟨rfl, .inr rfl, rfl⟩
    | queued =>
      refine ⟨fun spin => flagged ?_, fun test => ?_⟩
      · rcases onward.bay with ⟨same, entry⟩ | ⟨k, p, entry, granted⟩
        · exact .inl ⟨by rw [same, bay]; exact state, by rw [entry, kind]; exact spin⟩
        · rw [kind, spin] at entry
          cases entry
          exact .inr (by rw [granted]; rfl)
      · have waits : (t.bay b).state = .queued ∧ t.entryKind b = some .test ∨ (t.bay b).state = .diag := by
          rcases onward.bay with ⟨same, entry⟩ | ⟨k, p, entry, granted⟩
          · exact .inl ⟨by rw [same, bay]; exact state, by rw [entry, kind]; exact test⟩
          · rw [kind, test] at entry
            cases entry
            exact .inr (by rw [granted]; rfl)
        obtain ⟨status, whole⟩ := refused (by rcases waits with ⟨h, -⟩ | h <;> rw [h] <;> decide)
          (by rcases waits with ⟨h, -⟩ | h <;> rw [h] <;> decide)
          (by
            rintro (⟨-, spin⟩ | up)
            · rcases waits with ⟨-, entry⟩ | diag
              · rw [entry] at spin; exact nomatch spin
              · rw [roomAt.matched.noEntry (by rw [diag]; decide)] at spin; exact nomatch spin
            · rcases waits with ⟨h, -⟩ | h <;> rw [h] at up <;> exact nomatch up)
          (by rcases waits with ⟨h, -⟩ | h <;> rw [h] <;> decide) (by rcases waits with ⟨h, -⟩ | h <;> rw [h] <;> decide)
        exact ⟨status, by rw [whole.flags.1, bay]⟩
    | spinningUp =>
      have same := kept onward (by rw [state]; decide)
      have awaits : t.awaitsLoad b := .inr (by rw [same]; exact state)
      refine ⟨(flagged awaits).1, ?_⟩
      rw [State.spinUpBay_of_awaits awaits] at after
      rw [after.kept ((State.keeps_askLoad normalAt b _).queues roomAt.matched)
        (by rw [State.askLoad_state, same, state]; decide), State.askLoad_bay_self, same]
    | spun =>
      have same := kept onward (by rw [state]; decide)
      have spunAt : (t.bay b).state = .spun := by rw [same]; exact state
      have turn := State.spinUpBay_of_spun (v := choice == 1) spunAt
      refine ⟨fun zero => done (by rw [turn, zero]; rfl) (by rw [state]; decide), fun one => ?_⟩
      rw [one] at turn after ⊢
      have loads : t.spinUpBay ((1 : Byte) == 1) b = t.loadSpun b := turn
      rw [loads] at after ⊢
      have admission : t.admission b = s.admission b :=
        State.admission_congr (congrArg (·.working.case) (roomAt.same.store.trans store)) (by rw [same])
          (by rw [roomAt.same.motion, motion]) (by rw [roomAt.same.supply, supply])
      have record : w.bay b = (t.loadSpun b).2.bay b := after.kept (State.joinRoom_loadSpun roomAt.matched spunAt normalAt).matched
        (State.loadSpun_state_ne spunAt)
      rw [record, State.loadSpun_bay, admission, same]
      refine ⟨?_, fun accepted => ?_, fun exposed => by rw [if_pos exposed], fun barred => ?_⟩
      · rw [State.loadSpun_eq, admission]
      · rw [if_neg (by rw [accepted]; decide), if_pos accepted]
        exact ⟨rfl, rfl, rfl⟩
      · rw [if_neg (by rcases barred with h | h <;> rw [h] <;> decide),
          if_neg (by rcases barred with h | h <;> rw [h] <;> decide)]
    | loading =>
      have same := kept onward (by rw [state]; decide)
      exact done (State.spinUpBay_of_loaded (.inl (by rw [same]; exact state))) (by rw [state]; decide)
    | loaded =>
      have same := kept onward (by rw [state]; decide)
      exact done (State.spinUpBay_of_loaded (.inr (by rw [same]; exact state))) (by rw [state]; decide)
    | vacant | parkQueued | unloading | spinningDown | diag | held | fenced =>
      have same := kept onward (by rw [state]; decide)
      have awaits : ¬ t.awaitsLoad b := by
        rw [State.awaitsLoad, same, state]
        rintro (⟨queued, -⟩ | spinningUp)
        · exact nomatch queued
        · exact nomatch spinningUp
      obtain ⟨status, whole⟩ := refused (by rw [same, state]; decide) (by rw [same, state]; decide) awaits
        (by rw [same, state]; decide) (by rw [same, state]; decide)
      exact ⟨status, kept whole (by rw [state]; decide)⟩
  · obtain ⟨t, roomAt, onward, -, -, pass⟩ := turns.handled matched ((takes_iff b).mpr takes) (by rw [mode]; exact normal)
    have stoppedAt : (t.bay b).state = .stopped := by rw [kept onward (by rw [stopped]; decide)]; exact stopped
    rw [State.pass_answered]
    exact pass (by rw [State.spinUpBay_of_stopped stoppedAt]; exact State.evaluate_pass _)
  · rw [State.lineUp_bay, State.answer_bay, kept (turns.unnamed r matched outside) queued]
  · rw [State.lineUp_scheduler, State.answer_scheduler, room.scheduler, scheduler]
  · rw [State.lineUp_motion, State.answer_motion, room.same.motion, motion]
  · rw [State.lineUp_supply, State.answer_supply, room.same.supply, supply]
  · rw [State.lineUp_faults, State.answer_faults, room.same.faults, faults]
  · rw [State.lineUp_store, State.answer_store, room.same.store, store]
  · rw [State.lineUp_transit, State.answer_transit, room.same.transit, transit]
  · rw [State.lineUp_now, State.answer_now, room.same.now, now]

end Sys2Proof.Machine
end

section
/-! PROOFS. Bay-set requests whose turns run start passes: what the turns of other bays make of a bay (R64 to R66, R180). -/

namespace Sys2Proof.Machine

section

variable {set : BaySet} {f : BayNo → State → Status × State} {s t u : State} {b x : BayNo} {r : Req} {mode : TransitMode}
  {p : Profile} {now : Nat} {tame : Prop}

/-! ### A record on its way out of the loaded condition -/

/-- The record waits to unload or has begun to; without PRK it goes no further (R64 to R66, R69). -/
structure BayRec.Unloads (r r' : BayRec) : Prop where
  prk : r'.prk = r.prk
  pending : r'.pending = r.pending
  flag : r.loadOnArrival = false → r'.loadOnArrival = false
  free : r.prk = false → r'.state = .parkQueued ∨ r'.state = .unloading
  intent : r'.state = .parkQueued ∨ r'.state = .unloading → r'.intent = r.intent
  stops : r.intent = .stopAfter → r'.intent = .stopAfter ∧
    (r'.state = .parkQueued ∨ r'.state = .unloading ∨ r'.state = .spinningDown)

theorem BayRec.unloads_parkQueued (r : BayRec) (p : Profile) (now : Nat) : r.Unloads (r.enter .parkQueued p now) where
  prk := rfl
  pending := rfl
  flag := id
  free _ := .inl rfl
  intent _ := rfl
  stops h := ⟨h, .inl rfl⟩

theorem BayRec.unloads_of_parkQueued {r : BayRec} (waits : r.state = .parkQueued) : r.Unloads r where
  prk := rfl
  pending := rfl
  flag := id
  free _ := .inl waits
  intent _ := rfl
  stops h := ⟨h, .inl waits⟩

theorem BayRec.unloads_of_unloading {r : BayRec} (unloading : r.state = .unloading) : r.Unloads r where
  prk := rfl
  pending := rfl
  flag := id
  free _ := .inr unloading
  intent _ := rfl
  stops h := ⟨h, .inr (.inl unloading)⟩

/-- A park leaves the unload queue and UNLOADING. -/
theorem BayRec.unloads_parked (r : BayRec) (mode : TransitMode) (p : Profile) (now : Nat) (prk : r.prk = true) :
    r.Unloads (r.parked mode p now) := by
  obtain ⟨-, pending, -, same, -⟩ := r.parked_kept mode p now
  have state := BayRec.parked_state mode p now r
  refine ⟨same, pending, fun flag => ?_, fun free => absurd (prk.symm.trans free) (by decide), fun waits => ?_, fun stop => ?_⟩
  · unfold BayRec.parked
    split
    · exact flag
    · exact flag
    · rfl
  · rw [state] at waits
    split at waits <;> rcases waits with h | h <;> exact nomatch h
  · have after : r.afterPark mode = .spinDown .stopAfter := by rw [BayRec.afterPark, stop]
    rw [BayRec.parked, after]
    exact ⟨rfl, .inr (.inr rfl)⟩

theorem BayRec.unloads_unloadStarted (r : BayRec) (mode : TransitMode) (p : Profile) (now : Nat) :
    r.Unloads (r.unloadStarted mode p now) := by
  cases prk : r.prk with
  | false =>
    rw [BayRec.unloadStarted_of_free prk]
    exact ⟨rfl, rfl, id, fun _ => .inr rfl, fun _ => rfl, fun h => ⟨h, .inr (.inl rfl)⟩⟩
  | true =>
    rw [BayRec.unloadStarted_of_parked prk]
    have parks := BayRec.unloads_parked (r.enter .unloading p now) mode p now prk
    exact ⟨parks.prk, parks.pending, parks.flag, parks.free, parks.intent, parks.stops⟩

theorem BayRec.Unloads.trans {r r' r'' : BayRec} (h : r.Unloads r') (g : r'.Unloads r'')
    (waits : r'.state = .parkQueued ∨ r'.state = .unloading) : r.Unloads r'' where
  prk := g.prk.trans h.prk
  pending := g.pending.trans h.pending
  flag := g.flag ∘ h.flag
  free prk := g.free (h.prk.trans prk)
  intent on := (g.intent on).trans (h.intent waits)
  stops stop := g.stops ((h.intent waits).trans stop)

/-! ### What start passes make of a bay -/

/-- The bay stands, or it was PARK_QUEUED and its unload has started; a full count starts none (R64). -/
structure State.Startward (b : BayNo) (s t : State) : Prop where
  now : t.now = s.now
  store : t.store = s.store
  transit : t.transit = s.transit
  count : s.scheduler.unloading ≤ t.scheduler.unloading
  bay : t.bay b = s.bay b ∨ (s.bay b).state = .parkQueued ∧ s.scheduler.unloading < s.settings.unloadWidth ∧
    t.bay b = (s.bay b).unloadStarted s.transit.mode (s.governing b) s.now

theorem State.Startward.of_kept (now : t.now = s.now) (store : t.store = s.store) (transit : t.transit = s.transit)
    (scheduler : t.scheduler = s.scheduler) (bay : t.bay b = s.bay b) : s.Startward b t :=
  ⟨now, store, transit, Nat.le_of_eq (by rw [scheduler]), .inl bay⟩

theorem State.Startward.refl (b : BayNo) (s : State) : s.Startward b s := .of_kept rfl rfl rfl rfl rfl

theorem State.Startward.settings (h : s.Startward b t) : t.settings = s.settings := congrArg (·.working.case) h.store

theorem State.Startward.kept (h : s.Startward b t) (waits : (s.bay b).state ≠ .parkQueued) : t.bay b = s.bay b :=
  h.bay.elim id fun ⟨queued, _⟩ => absurd queued waits

theorem State.Startward.kept_of_full (h : s.Startward b t) (full : s.settings.unloadWidth ≤ s.scheduler.unloading) :
    t.bay b = s.bay b :=
  h.bay.elim id fun ⟨_, room, _⟩ => absurd room (Nat.not_lt.mpr full)

theorem State.Startward.full (h : s.Startward b t) (full : s.settings.unloadWidth ≤ s.scheduler.unloading) :
    t.settings.unloadWidth ≤ t.scheduler.unloading := by
  rw [h.settings]
  exact Nat.le_trans full h.count

theorem State.Startward.trans (h : s.Startward b t) (g : t.Startward b u) : s.Startward b u where
  now := g.now.trans h.now
  store := g.store.trans h.store
  transit := g.transit.trans h.transit
  count := Nat.le_trans h.count g.count
  bay := by
    rcases h.bay with same | ⟨waits, room, started⟩
    · rcases g.bay with still | ⟨waits, room, started⟩
      · exact .inl (still.trans same)
      · rw [h.settings] at room
        rw [same] at waits
        rw [same, h.transit, h.now, State.governing_congr h.store same] at started
        exact .inr ⟨waits, Nat.lt_of_le_of_lt h.count room, started⟩
    · refine .inr ⟨waits, room, (g.kept ?_).trans started⟩
      rw [started]
      rcases BayRec.unloadStarted_state s.transit.mode (s.governing b) s.now (s.bay b) with h | h | h | h <;>
        rw [h] <;> decide

theorem State.Startward.wasQueued (h : s.Startward b t) (queued : (t.bay b).state = .queued) : (s.bay b).state = .queued := by
  rcases h.bay with same | ⟨-, -, started⟩
  · rw [← same]; exact queued
  · rw [started] at queued
    rcases BayRec.unloadStarted_state s.transit.mode (s.governing b) s.now (s.bay b) with h | h | h | h <;>
      rw [h] at queued <;> exact nomatch queued

theorem State.Startward.pending (h : s.Startward b t) : (t.bay b).pending = (s.bay b).pending := by
  rcases h.bay with same | ⟨-, -, started⟩
  · rw [same]
  · rw [started]
    exact (BayRec.unloads_unloadStarted _ _ _ _).pending

/-- A PARK_QUEUED bay after the turns of others. -/
theorem State.Startward.unloads (h : s.Startward b t) (waits : (s.bay b).state = .parkQueued) :
    (s.bay b).Unloads (t.bay b) := by
  rcases h.bay with same | ⟨-, -, started⟩
  · rw [same]
    exact BayRec.unloads_of_parkQueued waits
  · rw [started]
    exact BayRec.unloads_unloadStarted _ _ _ _

/-- A bay on its way goes on after the turns of others. -/
theorem BayRec.Unloads.startward {r : BayRec} (h : r.Unloads (s.bay b)) (g : s.Startward b t) : r.Unloads (t.bay b) := by
  by_cases waits : (s.bay b).state = .parkQueued
  · exact h.trans (g.unloads waits) (.inl waits)
  · rw [g.kept waits]
    exact h

theorem State.startPass_count (s : State) : s.scheduler.unloading ≤ s.startPass.scheduler.unloading := by
  refine State.startPass_induct (P := fun t => s.scheduler.unloading ≤ t.scheduler.unloading) (fun t b rest pop h => ?_) s
    (Nat.le_refl _)
  have same : rest.unloading = t.scheduler.unloading := (Scheduler.waiting_of_popHead pop).2.1
  rw [State.startUnload_scheduler]
  split
  · exact Nat.le_trans h (Nat.le_of_eq same.symm)
  · exact Nat.le_trans h (Nat.le_trans (Nat.le_of_eq same.symm) (Nat.le_succ _))

theorem State.startward_startPass (q : s.queuesMatch) (b : BayNo) : s.Startward b s.startPass := by
  refine ⟨s.startPass_now, s.startPass_store, s.startPass_transit, s.startPass_count, ?_⟩
  obtain ⟨-, -, -, parked⟩ := s.queuesMatch_iff.mp q
  rcases (State.starts_startPass q).bays b with same | ⟨waits, started⟩
  · exact .inl same
  · rcases Nat.lt_or_ge s.scheduler.unloading s.settings.unloadWidth with room | full
    · exact .inr ⟨(parked b).mp waits, room, started⟩
    · exact .inl (by rw [State.startPass_of_full full])

/-! ### Ordinary unloads (R66) -/

theorem State.ordinaryUnload_cases (s : State) (b : BayNo) :
    s.ordinaryUnload b = s.startUnload b ∨ s.ordinaryUnload b = (s.ordinaryPlaced b).startPass := by
  unfold State.ordinaryUnload
  split
  · exact .inl rfl
  · exact .inr rfl

theorem State.keeps_ordinaryPlaced (h : (s.bay b).state.claimless = true) : s.Keeps (s.ordinaryPlaced b) := by
  refine (State.OnlyBay.turns_parkQueued ((s.onlyBay_modScheduler b _).trans (State.onlyBay_enter _ b _)) (by simp)
    (fun _ => State.enter_outputsFollow _ _ _) ?_ ?_ ?_ ?_).keeps
  · rw [State.releaseClaim_of_claimless h]; simp
  · rw [State.releaseClaim_of_claimless h]
    simp [Scheduler.waiting]
  · rw [State.releaseClaim_of_claimless h]; simp
  · intro set
    rw [State.enter_bay_self] at set
    exact BayRec.loadOnArrival_of_enter set

theorem State.ordinaryPlaced_bay_self (s : State) (b : BayNo) :
    (s.ordinaryPlaced b).bay b = (s.bay b).enter .parkQueued (s.governing b) s.now := State.enter_bay_self _ _ _

theorem State.startward_ordinaryUnload (q : s.queuesMatch) (claimless : (s.bay x).state.claimless = true) (other : b ≠ x) :
    s.Startward b (s.ordinaryUnload x) := by
  rcases s.ordinaryUnload_cases x with started | placed
  · rw [started]
    refine ⟨s.startUnload_now x, s.startUnload_store x, s.startUnload_transit x, ?_, .inl (s.startUnload_bay_ne other)⟩
    rw [State.startUnload_scheduler]
    split
    · exact Nat.le_refl _
    · exact Nat.le_succ _
  · rw [placed]
    have alone := s.alone_ordinaryPlaced x
    have step : s.Startward b (s.ordinaryPlaced x) := by
      refine ⟨State.enter_now _ _ _, alone.store, alone.transit, ?_, .inl (alone.others b other)⟩
      rw [State.ordinaryPlaced, State.enter_scheduler]
      exact Nat.le_refl _
    exact step.trans (State.startward_startPass ((State.keeps_ordinaryPlaced claimless).queues q) b)

/-- The bay of an ordinary unload itself. -/
theorem State.unloads_ordinaryUnload (q : s.queuesMatch) (claimless : (s.bay b).state.claimless = true) :
    (s.bay b).Unloads ((s.ordinaryUnload b).bay b) := by
  rcases s.ordinaryUnload_cases b with started | placed
  · rw [started, State.startUnload_bay_self]
    exact BayRec.unloads_unloadStarted _ _ _ _
  · rw [placed]
    have waits : (s.bay b).Unloads ((s.ordinaryPlaced b).bay b) := by
      rw [State.ordinaryPlaced_bay_self]
      exact BayRec.unloads_parkQueued _ _ _
    exact waits.startward (State.startward_startPass ((State.keeps_ordinaryPlaced claimless).queues q) b)

/-! ### The blocks that these turns leave -/

/-- The queues match; time and the blocks of the case but for the motion records stand. -/
structure State.DriveRoom (s t : State) : Prop where
  matched : t.queuesMatch
  now : t.now = s.now
  supply : t.supply = s.supply
  transit : t.transit = s.transit
  faults : t.faults = s.faults
  store : t.store = s.store

theorem State.DriveRoom.refl (q : s.queuesMatch) : s.DriveRoom s := ⟨q, rfl, rfl, rfl, rfl, rfl⟩

theorem State.DriveRoom.trans (h : s.DriveRoom t) (g : t.DriveRoom u) : s.DriveRoom u :=
  ⟨g.matched, g.now.trans h.now, g.supply.trans h.supply, g.transit.trans h.transit, g.faults.trans h.faults,
    g.store.trans h.store⟩

theorem State.SameCase.driveRoom (h : s.SameCase t) (q : t.queuesMatch) : s.DriveRoom t :=
  ⟨q, h.now, h.supply, h.transit, h.faults, h.store⟩

theorem State.driveRoom_ordinaryUnload (q : s.queuesMatch) (claimless : (s.bay b).state.claimless = true) :
    s.DriveRoom (s.ordinaryUnload b) := by
  have matched := (State.keeps_ordinaryUnload claimless).queues q
  rcases s.ordinaryUnload_cases b with started | placed
  · refine ⟨matched, ?_, ?_, ?_, ?_, ?_⟩ <;> rw [started] <;> simp
  · refine ⟨matched, ?_, ?_, ?_, ?_, ?_⟩ <;> rw [placed] <;> simp [State.ordinaryPlaced]

theorem State.ordinaryUnload_arbiter (s : State) (b : BayNo) : (s.ordinaryUnload b).arbiter = s.arbiter := by
  rcases s.ordinaryUnload_cases b with started | placed
  · rw [started, State.startUnload_arbiter]
  · rw [placed, State.startPass_arbiter, State.ordinaryPlaced, State.enter_arbiter]
    rfl

/-! ### The turns of a bay-set request -/

/-- At the turn of the first bay of the set nothing has happened. -/
theorem State.atTurn_of_first (first : ∀ x : BayNo, x < b → set.getLsbD x.val = false) : s.atTurn set f b = s :=
  State.atTurn_induct (P := fun t => t = s) (fun x earlier named _ _ => by
    rw [inSet, first x earlier] at named
    exact nomatch named) rfl

/-- A request whose turns may start unloads at the other bays; it leaves the QUEUED ones where it is tame. -/
structure StartTurns (tame : Prop) (f : BayNo → State → Status × State) : Prop where
  room : ∀ (x : BayNo) (t : State), t.queuesMatch → t.DriveRoom (f x t).2
  startward : ∀ (b x : BayNo), x ≠ b → ∀ t : State, t.queuesMatch → ((t.bay b).state = .queued → tame) → t.Startward b (f x t).2

namespace StartTurns

theorem checked (h : StartTurns tame f) (r : Req) : StartTurns tame (checkedBay r f) where
  room x t q := by
    rcases checkedBay_cases r f x t with turn | turn <;> rw [turn]
    · exact .refl q
    · exact h.room x t q
  startward b x other t q queued := by
    rcases checkedBay_cases r f x t with turn | turn <;> rw [turn]
    · exact .refl b t
    · exact h.startward b x other t q queued

theorem allTurns_room (h : StartTurns tame f) (set : BaySet) (q : s.queuesMatch) : s.DriveRoom (s.allTurns set f) :=
  State.allTurns_induct (P := fun t => s.DriveRoom t) (fun x _ t room => room.trans (h.room x t room.matched)) (.refl q)

/-- The turn of another bay puts no bay into the queue. -/
theorem passes (h : StartTurns tame f) (other : x ≠ b) (room : s.DriveRoom t) (queued : (t.bay b).state = .queued → tame) :
    s.DriveRoom (f x t).2 ∧ (((f x t).2.bay b).state = .queued → tame) ∧ t.Startward b (f x t).2 := by
  have moved := h.startward b x other t room.matched queued
  exact ⟨room.trans (h.room x t room.matched), queued ∘ moved.wasQueued, moved⟩

/-- What a bay finds at its turn. -/
theorem atTurn (h : StartTurns tame f) (set : BaySet) (q : s.queuesMatch) (queued : (s.bay b).state = .queued → tame) :
    s.DriveRoom (s.atTurn set f b) ∧ s.Startward b (s.atTurn set f b) := by
  have holds : s.DriveRoom (s.atTurn set f b) ∧ (((s.atTurn set f b).bay b).state = .queued → tame) ∧
      s.Startward b (s.atTurn set f b) :=
    State.atTurn_induct (P := fun t => s.DriveRoom t ∧ ((t.bay b).state = .queued → tame) ∧ s.Startward b t)
      (fun x earlier _ t ⟨room, queued, before⟩ =>
        have ⟨after, still, moved⟩ := h.passes (Fin.ne_of_lt earlier) room queued
        ⟨after, still, before.trans moved⟩) ⟨.refl q, queued, .refl b s⟩
  exact ⟨holds.1, holds.2.2⟩

/-- What the bay leaves after its turn, the turns of the bays after it pass on. -/
theorem after (h : StartTurns tame f) (named : set.getLsbD b.val = true) (matched : (s.atTurn set f b).queuesMatch)
    (queued : ((f b (s.atTurn set f b)).2.bay b).state = .queued → tame) :
    (f b (s.atTurn set f b)).2.Startward b (s.allTurns set f) := by
  have own := h.room b _ matched
  have holds := State.allTurns_brings (set := set) (f := f) (s := s) (b := b)
    (Q := fun _ t => (s.atTurn set f b).DriveRoom t ∧ ((t.bay b).state = .queued → tame) ∧
      (f b (s.atTurn set f b)).2.Startward b t) (by exact named) ⟨own, queued, .refl b _⟩
    (fun x later _ _ t ⟨room, queued, before⟩ =>
      have ⟨after, still, moved⟩ := h.passes (Fin.ne_of_gt later) room queued
      ⟨after, still, before.trans moved⟩)
  exact holds.2.2

/-- A bay outside the set. -/
theorem unnamed (h : StartTurns tame f) (q : s.queuesMatch) (queued : (s.bay b).state = .queued → tame)
    (outside : set.getLsbD b.val = false) : s.Startward b (s.allTurns set f) := by
  have holds : s.DriveRoom (s.allTurns set f) ∧ (((s.allTurns set f).bay b).state = .queued → tame) ∧
      s.Startward b (s.allTurns set f) :=
    State.allTurns_induct (P := fun t => s.DriveRoom t ∧ ((t.bay b).state = .queued → tame) ∧ s.Startward b t)
      (fun x here t ⟨room, queued, before⟩ =>
        have apart : x ≠ b := by
          rintro rfl
          rw [inSet, outside] at here
          exact nomatch here
        have ⟨after, still, moved⟩ := h.passes apart room queued
        ⟨after, still, before.trans moved⟩) ⟨.refl q, queued, .refl b s⟩
  exact holds.2.2

/-- A bay that the CHECK flag turns away. -/
theorem refused (h : StartTurns tame f) (q : s.queuesMatch) (queued : (s.bay b).state = .queued → tame)
    (named : set.getLsbD b.val = true) (refused : ¬ s.takes r set b) :
    s.outcome set (checkedBay r f) b = .pending ∧ s.Startward b (s.allTurns set (checkedBay r f)) := by
  have turns := h.checked r
  obtain ⟨room, before⟩ := turns.atTurn set q queued
  have turn := checkedBay_of_pending named (mt (State.takes_congr before.pending).mp refused) f
  have after := turns.after named room.matched (by rw [turn]; exact queued ∘ before.wasQueued)
  rw [turn] at after
  exact ⟨congrArg Prod.fst turn, before.trans after⟩

/-- A bay that is handled at its turn. -/
theorem handled (h : StartTurns tame f) (q : s.queuesMatch) (queued : (s.bay b).state = .queued → tame) (takes : s.takes r set b) :
    ∃ t, s.DriveRoom t ∧ s.Startward b t ∧ ((∀ x : BayNo, x < b → set.getLsbD x.val = false) → t = s) ∧
      s.outcome set (checkedBay r f) b = (f b t).1 ∧
      ((((f b t).2.bay b).state = .queued → tame) → (f b t).2.Startward b (s.allTurns set (checkedBay r f))) := by
  have turns := h.checked r
  obtain ⟨room, before⟩ := turns.atTurn set q queued
  have turn := checkedBay_of_takes ((State.takes_congr before.pending).mpr takes) f
  have after := turns.after takes.1 room.matched
  rw [turn] at after
  exact ⟨_, room, before, State.atTurn_of_first, congrArg Prod.fst turn, after⟩

end StartTurns

end

end Sys2Proof.Machine
end

section
/-! PROOFS. UNLOAD (R66, R77). -/

namespace Sys2Proof.Machine

section

variable {s t : State} {b x : BayNo} {v : Bool}

/-! ### One bay (R77) -/

/-- The intent that UNLOAD writes on a bay that waits or unloads (R77). -/
def unloadIntent (v : Bool) (i : Intent) : Intent := if v then i.toStop else i

/-- The record with its flag cleared and its intent written. -/
def BayRec.toldTo (i : Intent) (r : BayRec) : BayRec := { r with loadOnArrival := false, intent := i }

/-- The bay with its flag cleared and its intent written. -/
def State.tells (b : BayNo) (i : BayRec → Intent) (s : State) : State := s.modBay b (fun r => r.toldTo (i r))

theorem State.tells_bay_self (s : State) (b : BayNo) (i : BayRec → Intent) :
    (s.tells b i).bay b = (s.bay b).toldTo (i (s.bay b)) := s.bay_modBay_self b _

theorem State.tells_bay_ne (s : State) (other : x ≠ b) (i : BayRec → Intent) : (s.tells b i).bay x = s.bay x :=
  s.bay_modBay_ne _ other

theorem State.tells_scheduler (s : State) (b : BayNo) (i : BayRec → Intent) : (s.tells b i).scheduler = s.scheduler := rfl

theorem State.tells_arbiter (s : State) (b : BayNo) (i : BayRec → Intent) : (s.tells b i).arbiter = s.arbiter := rfl

theorem State.sameCase_tells (s : State) (b : BayNo) (i : BayRec → Intent) : s.SameCase (s.tells b i) := s.sameCase_modBay b _

theorem State.keeps_tells (s : State) (b : BayNo) (i : BayRec → Intent) : s.Keeps (s.tells b i) :=
  s.keeps_modBay (b := b) ⟨rfl, rfl, rfl, rfl, id⟩ fun _ set => nomatch set

theorem State.startward_tells (s : State) (other : b ≠ x) (i : BayRec → Intent) : s.Startward b (s.tells x i) :=
  .of_kept rfl rfl rfl rfl (s.tells_bay_ne other i)

/-- UNLOAD at one bay, by its state (R77). -/
theorem State.unloadBay_of_loaded (state : (s.bay b).state = .loading ∨ (s.bay b).state = .loaded) :
    s.unloadBay v b = (.accepted, (s.tells b fun _ => if v then .stopAfter else .none).ordinaryUnload b) := by
  have told : (s.setLoadOnArrival b false).setIntent b (if v then .stopAfter else .none) =
      s.tells b fun _ => if v then .stopAfter else .none := State.modBay_modBay _ _ _ _
  rw [← told]
  unfold State.unloadBay
  rcases state with state | state <;> rw [state]

theorem State.unloadBay_of_waiting (state : (s.bay b).state = .parkQueued ∨ (s.bay b).state = .unloading) :
    s.unloadBay v b = (.accepted, s.tells b fun r => unloadIntent v r.intent) := by
  have told : (s.setLoadOnArrival b false).modBay b (fun r => { r with intent := if v then r.intent.toStop else r.intent }) =
      s.tells b fun r => unloadIntent v r.intent := State.modBay_modBay _ _ _ _
  rw [← told]
  unfold State.unloadBay
  rcases state with state | state <;> rw [state]

theorem State.unloadBay_of_spun (state : (s.bay b).state = .spun) : s.unloadBay v b =
    if v then (.accepted, (s.setLoadOnArrival b false).spinDownWith b .stopAfter) else (.done, s.setLoadOnArrival b false) := by
  rw [State.unloadBay, state]

/-- The states in which UNLOAD finds nothing to do. -/
def BayState.unloadRefused : BayState → Bool
  | .vacant | .stopped | .queued | .spinningUp | .spinningDown | .diag | .held | .fenced => true
  | .spun | .loading | .loaded | .parkQueued | .unloading => false

theorem State.unloadBay_of_refused (state : (s.bay b).state.unloadRefused = true) : s.unloadBay v b = (.state, s) := by
  unfold State.unloadBay
  cases here : (s.bay b).state <;> simp [here, BayState.unloadRefused] at state ⊢

/-- What the turn of a bay does (R77). -/
theorem State.unloadBay_cases (s : State) (v : Bool) (b : BayNo) :
    (((s.bay b).state = .loading ∨ (s.bay b).state = .loaded) ∧
      (s.unloadBay v b).2 = (s.tells b fun _ => if v then .stopAfter else .none).ordinaryUnload b) ∨
    (∃ i, (s.unloadBay v b).2 = s.tells b i) ∨
    ((s.bay b).state = .spun ∧ (s.unloadBay v b).2 = (s.setLoadOnArrival b false).spinDownWith b .stopAfter) ∨
    (s.unloadBay v b).2 = s := by
  cases state : (s.bay b).state with
  | loading => exact .inl ⟨.inl rfl, by rw [State.unloadBay_of_loaded (.inl state)]⟩
  | loaded => exact .inl ⟨.inr rfl, by rw [State.unloadBay_of_loaded (.inr state)]⟩
  | parkQueued => exact .inr (.inl ⟨_, by rw [State.unloadBay_of_waiting (.inl state)]⟩)
  | unloading => exact .inr (.inl ⟨_, by rw [State.unloadBay_of_waiting (.inr state)]⟩)
  | spun =>
    rw [State.unloadBay_of_spun state]
    cases v with
    | true => exact .inr (.inr (.inl ⟨rfl, rfl⟩))
    | false => exact .inr (.inl ⟨fun r => r.intent, rfl⟩)
  | vacant | stopped | queued | spinningUp | spinningDown | diag | held | fenced =>
    exact .inr (.inr (.inr (by rw [State.unloadBay_of_refused (by rw [state]; rfl)])))

theorem State.tells_claimless (state : (s.bay b).state = .loading ∨ (s.bay b).state = .loaded) (i : BayRec → Intent) :
    ((s.tells b i).bay b).state.claimless = true := by
  rw [State.tells_bay_self]
  change (s.bay b).state.claimless = true
  rcases state with h | h <;> rw [h] <;> rfl

theorem State.unloadBay_arbiter (v : Bool) (b : BayNo) (s : State) : (s.unloadBay v b).2.arbiter = s.arbiter := by
  rcases s.unloadBay_cases v b with ⟨-, turn⟩ | ⟨i, turn⟩ | ⟨-, turn⟩ | turn <;> rw [turn]
  · rw [State.ordinaryUnload_arbiter]
    rfl
  · rfl
  · rw [State.spinDownWith, State.enter_arbiter]
    rfl

theorem startTurns_unloadBay (v : Bool) : StartTurns True (State.unloadBay v) where
  room x t q := by
    have matched := (t.keeps_unloadBay v x).queues q
    rcases t.unloadBay_cases v x with ⟨loaded, turn⟩ | ⟨i, turn⟩ | ⟨-, turn⟩ | turn <;> rw [turn] at matched ⊢
    · have told := (t.keeps_tells x fun _ => if v then .stopAfter else .none).queues q
      exact ((t.sameCase_tells x _).driveRoom told).trans (State.driveRoom_ordinaryUnload told (State.tells_claimless loaded _))
    · exact (t.sameCase_tells x i).driveRoom matched
    · exact ((t.sameCase_modBay x _).trans (State.sameCase_spinDownWith _ x _)).driveRoom matched
    · exact .refl q
  startward b x other t q _ := by
    rcases t.unloadBay_cases v x with ⟨loaded, turn⟩ | ⟨i, turn⟩ | ⟨-, turn⟩ | turn <;> rw [turn]
    · have told := (t.keeps_tells x fun _ => if v then .stopAfter else .none).queues q
      exact (t.startward_tells (Ne.symm other) _).trans
        (State.startward_ordinaryUnload told (State.tells_claimless loaded _) (Ne.symm other))
    · exact t.startward_tells (Ne.symm other) i
    · have same := (t.sameCase_modBay x (fun r => { r with loadOnArrival := false })).trans
        (State.sameCase_spinDownWith (t.setLoadOnArrival x false) x .stopAfter)
      refine .of_kept same.now same.store same.transit ?_ ?_
      · rw [State.spinDownWith, State.enter_scheduler]
        rfl
      · rw [State.spinDownWith_bay_ne _ _ (Ne.symm other)]
        exact t.bay_modBay_ne _ (Ne.symm other)
    · exact .refl b t

theorem unloadIntent_eq (c : Byte) (i : Intent) :
    unloadIntent (c == 1) i = if c = 1 ∧ i ≠ .holdAfter then .stopAfter else i := by
  unfold unloadIntent
  by_cases one : c = 1
  · subst one
    cases i <;> rfl
  · rw [if_neg (by simpa using one), if_neg fun h => one h.1]

/-- The intent of an ordinary unload by request (R77). -/
theorem requestIntent_eq (c : Byte) :
    (if (c == 1) = true then Intent.stopAfter else Intent.none) = if c = 1 then .stopAfter else .none := by
  simp only [beq_iff_eq]

end

/-- Settles O43. -/
theorem unloadOutcomes : Obligations.UnloadOutcomes := by
  intro dt r s lo hi choice set hands body here
  obtain rfl : set = word16 lo hi := here
  have handles (named : choice.toNat ≤ 1) (t : State) : handler .unload r t =
      t.checkedBays .unload r (word16 lo hi) (State.unloadBay (choice == 1)) := by
    simp only [handler, handleUnload, body, (choiceOf_named named).2]
  refine ⟨fun bad => ?_, fun meaning named refuses => State.bays_refused hands dt (handles meaning) named refuses,
    fun meaning named accepts q => ?_⟩
  · by_cases above : 1 < choice.toNat
    · obtain ⟨t, step, kept, -, replied⟩ := State.answers_of_hands hands dt (st := .argument) (body := [])
        (show handleUnload r (s.elapse dt).frameArrived = _ by simp only [handleUnload, body, choiceOf_above above])
      exact ⟨t, step, replied, kept⟩
    · have empty := bad.resolve_left above
      exact State.bays_argument hands dt fun t => by rw [handles (Nat.le_of_not_lt above), empty]
  have step := exec_of_bays hands dt (handles meaning) named accepts
  obtain ⟨bays, arbiter, scheduler, motion, supply, faults, store, now, transit, -⟩ := s.arrived_blocks dt
  have matched := State.arrived_queuesMatch q dt
  have bay (x : BayNo) : (s.elapse dt).frameArrived.bay x = s.bay x := State.bay_of_bays bays x
  generalize (s.elapse dt).frameArrived = u at *
  have turns := startTurns_unloadBay (choice == 1)
  have room := (turns.checked r).allTurns_room (word16 lo hi) matched
  have settings : u.settings = s.settings := congrArg (·.working.case) store
  have takes_iff (b : BayNo) : u.takes r (word16 lo hi) b ↔ s.takes r (word16 lo hi) b := State.takes_congr (by rw [bay])
  have fullAt (full : s.settings.unloadWidth ≤ s.scheduler.unloading) : u.settings.unloadWidth ≤ u.scheduler.unloading := by
    rw [settings, scheduler]; exact full
  have arbiter' : (u.allTurns (word16 lo hi) (checkedBay r (State.unloadBay (choice == 1)))).arbiter = u.arbiter :=
    State.allTurns_induct (P := fun t => t.arbiter = u.arbiter) (fun x _ t same => by
      rcases checkedBay_cases r (State.unloadBay (choice == 1)) x t with turn | turn <;> rw [turn]
      · exact same
      · exact (State.unloadBay_arbiter _ x t).trans same) rfl
  refine ⟨_, _, step, State.listed_lineUp _ _ _ _, fun b named' refused => ?_, fun b takes => ?_,
    fun b outside waits => ?_, ?_, ?_, ?_, ?_, ?_, ?_⟩
  · obtain ⟨outcome, onward⟩ := turns.refused matched (fun _ => trivial) named' (mt (takes_iff b).mp refused)
    rw [State.lineUp_bay, State.answer_bay, outcome]
    exact ⟨rfl, fun waits => by rw [onward.kept (by rw [bay]; exact waits), bay],
      fun _ full => by rw [onward.kept_of_full (fullAt full), bay]⟩
  · obtain ⟨t, roomAt, before, first, outcome, after⟩ := turns.handled matched (fun _ => trivial) ((takes_iff b).mpr takes)
    replace after := after fun _ => trivial
    rw [State.lineUp_bay, State.answer_bay, outcome]
    generalize u.allTurns (word16 lo hi) (checkedBay r (State.unloadBay (choice == 1))) = w at *
    have kept (waits : (s.bay b).state ≠ .parkQueued) : t.bay b = s.bay b := by
      rw [before.kept (by rw [bay]; exact waits), bay]
    have refused (state : (s.bay b).state.unloadRefused = true) :
        (t.unloadBay (choice == 1) b).1 = .state ∧ w.bay b = s.bay b := by
      have waits : (s.bay b).state ≠ .parkQueued := by intro h; rw [h] at state; exact nomatch state
      have same := kept waits
      rw [State.unloadBay_of_refused (by rw [same]; exact state)] at after ⊢
      exact ⟨rfl, by rw [after.kept (by rw [same]; exact waits), same]⟩
    have told (waits : (t.bay b).state = .parkQueued ∨ (t.bay b).state = .unloading) :
        (t.unloadBay (choice == 1) b).1 = .accepted ∧
          ((t.bay b).toldTo (unloadIntent (choice == 1) (t.bay b).intent)).Unloads (w.bay b) := by
      rw [State.unloadBay_of_waiting waits] at after ⊢
      refine ⟨rfl, ?_⟩
      rw [← t.tells_bay_self b fun r => unloadIntent (choice == 1) r.intent]
      refine BayRec.Unloads.startward ?_ after
      rw [State.tells_bay_self]
      rcases waits with h | h
      · exact BayRec.unloads_of_parkQueued h
      · exact BayRec.unloads_of_unloading h
    have loaded (state : (s.bay b).state = .loading ∨ (s.bay b).state = .loaded) :
        (t.unloadBay (choice == 1) b).1 = .accepted ∧ (w.bay b).loadOnArrival = false ∧
          ((w.bay b).state = .parkQueued ∨ (w.bay b).state = .unloading →
            (w.bay b).intent = if choice = 1 then .stopAfter else .none) ∧
          ((s.bay b).prk = false → (w.bay b).state = .parkQueued ∨ (w.bay b).state = .unloading) := by
      have same := kept (by rcases state with h | h <;> rw [h] <;> decide)
      have stateAt : (t.bay b).state = .loading ∨ (t.bay b).state = .loaded := by rw [same]; exact state
      rw [State.unloadBay_of_loaded stateAt, requestIntent_eq] at after ⊢
      have tells := (t.keeps_tells b fun _ => if choice = 1 then .stopAfter else .none).queues roomAt.matched
      have unloads := (State.unloads_ordinaryUnload tells (State.tells_claimless stateAt _)).startward after
      rw [State.tells_bay_self, same] at unloads
      exact ⟨rfl, unloads.flag rfl, unloads.intent, unloads.free⟩
    cases state : (s.bay b).state with
    | loading => exact loaded (.inl state)
    | loaded => exact loaded (.inr state)
    | parkQueued =>
      have waits : (u.bay b).state = .parkQueued := by rw [bay]; exact state
      have unloads := before.unloads waits
      rw [bay] at unloads
      refine ⟨fun isFirst => ?_, fun prk => ?_, fun full => ?_⟩
      · obtain ⟨status, further⟩ := told (.inl (by rw [first isFirst]; exact waits))
        exact ⟨status, further.flag rfl⟩
      · have stateAt := unloads.free prk
        obtain ⟨status, further⟩ := told stateAt
        refine ⟨status, further.flag rfl, ?_, further.free (unloads.prk.trans prk)⟩
        rw [further.intent (further.free (unloads.prk.trans prk)), ← unloadIntent_eq, ← unloads.intent stateAt]
        rfl
      · have same := before.kept_of_full (fullAt full)
        have waitsAt : (t.bay b).state = .parkQueued := by rw [same]; exact waits
        rw [State.unloadBay_of_waiting (.inl waitsAt)] at after ⊢
        rw [after.kept_of_full (before.full (fullAt full)), State.tells_bay_self, same, bay, ← unloadIntent_eq]
        exact ⟨rfl, rfl⟩
    | unloading =>
      have same := kept (by rw [state]; decide)
      rw [State.unloadBay_of_waiting (.inr (by rw [same]; exact state))] at after ⊢
      have record := t.tells_bay_self b fun r => unloadIntent (choice == 1) r.intent
      rw [after.kept (by rw [record, same]; exact fun h => nomatch state.symm.trans h), record, same, ← unloadIntent_eq]
      exact ⟨rfl, rfl⟩
    | spun =>
      have same := kept (by rw [state]; decide)
      have spun : (t.bay b).state = .spun := by rw [same]; exact state
      have turn := State.unloadBay_of_spun (v := choice == 1) spun
      refine ⟨fun zero => ?_, fun one => ?_⟩
      · have cleared : t.unloadBay (choice == 1) b = (.done, t.setLoadOnArrival b false) := by rw [turn, zero]; rfl
        have record : (t.setLoadOnArrival b false).bay b = { t.bay b with loadOnArrival := false } := t.bay_modBay_self b _
        rw [cleared] at after ⊢
        rw [after.kept (by rw [record, same]; exact fun h => nomatch state.symm.trans h), record, same]
        exact ⟨rfl, rfl⟩
      · have stopped : t.unloadBay (choice == 1) b =
            (.accepted, (t.setLoadOnArrival b false).spinDownWith b .stopAfter) := by rw [turn, one]; rfl
        have record := (t.setLoadOnArrival b false).spinDownWith_bay_self b .stopAfter
        rw [stopped] at after ⊢
        rw [after.kept (by rw [record]; exact fun h => nomatch h), record, State.setLoadOnArrival, State.bay_modBay_self]
        exact ⟨rfl, rfl, rfl, rfl, rfl⟩
    | vacant | stopped | queued | spinningUp | spinningDown | diag | held | fenced =>
      exact refused (by rw [state]; rfl)
  · have onward := (turns.checked r).unnamed matched (fun _ => trivial) outside
    rw [State.lineUp_bay, State.answer_bay, onward.kept (by rw [bay]; exact waits), bay]
  · rw [State.lineUp_arbiter, State.answer_arbiter, arbiter', arbiter]
  · rw [State.lineUp_supply, State.answer_supply, room.supply, supply]
  · rw [State.lineUp_faults, State.answer_faults, room.faults, faults]
  · rw [State.lineUp_store, State.answer_store, room.store, store]
  · rw [State.lineUp_transit, State.answer_transit, room.transit, transit]
  · rw [State.lineUp_now, State.answer_now, room.now, now]

end Sys2Proof.Machine
end

section
/-! PROOFS. SPIN DOWN (R34, R39, R46, R51, R55, R56). -/

namespace Sys2Proof.Machine

section

variable {s t : State} {b x : BayNo} {r : Req}

/-! ### A bay that leaves the queue (R55) -/

/-- The bay STOPPED, its entry dropped and its flag cleared, ahead of the evaluation. -/
def State.unqueued (b : BayNo) (s : State) : State := ((s.dropEntry b).enter b .stopped).setLoadOnArrival b false

theorem State.unqueued_bay_self (s : State) (b : BayNo) : (s.unqueued b).bay b =
    { (s.bay b).enter .stopped (s.governing b) s.now with loadOnArrival := false } := by
  rw [State.unqueued, State.setLoadOnArrival, State.bay_modBay_self, State.enter_bay_self]
  rfl

theorem State.unqueued_bay_ne (s : State) (other : x ≠ b) : (s.unqueued b).bay x = s.bay x := by
  rw [State.unqueued, State.setLoadOnArrival, State.bay_modBay_ne _ _ other, State.enter_bay_ne _ _ other]
  rfl

theorem State.unqueued_arbiter (s : State) (b : BayNo) : (s.unqueued b).arbiter =
    { s.arbiter with queue := s.arbiter.queue.filter (fun e => e.bay != b) } := by
  rw [State.unqueued, State.setLoadOnArrival, State.modBay_arbiter, State.enter_arbiter]
  rfl

theorem State.unqueued_scheduler (s : State) (b : BayNo) : (s.unqueued b).scheduler = s.scheduler := by
  rw [State.unqueued, State.setLoadOnArrival, State.modBay_scheduler, State.enter_scheduler]
  rfl

theorem State.sameCase_unqueued (s : State) (b : BayNo) : s.SameCase (s.unqueued b) :=
  ((s.sameCase_modArbiter (fun a => { a with queue := a.queue.filter (fun e => e.bay != b) })).trans
    (State.sameCase_enter _ b .stopped)).trans (State.sameCase_modBay _ b (fun r => { r with loadOnArrival := false }))

theorem State.unqueued_entryKind_ne (s : State) (other : x ≠ b) : (s.unqueued b).entryKind x = s.entryKind x := by
  rw [State.entryKind, State.entryKind, State.entryOf, State.entryOf, State.unqueued_arbiter]
  dsimp only
  rw [List.find?_filter]
  congr 2
  funext e
  by_cases here : e.bay = x
  · simp [here, other]
  · simp [here]

theorem State.keeps_unqueued (queued : (s.bay b).state = .queued) : s.Keeps (s.unqueued b) := by
  have dropped : s.Leaves b (s.dropEntry b) := State.releaseClaim_of_queued queued ▸ .of_releaseClaim s b
  exact (dropped.keeps_enter rfl (by decide) (by decide) (by decide)).trans (State.keeps_clearLoadOnArrival _ b)

/-! ### One bay (R55) -/

/-- The spin-up aborted, and the flag cleared (R46, R55). -/
def State.spinAborted (b : BayNo) (s : State) : State := (s.abortSpinUp b .stopAfter).setLoadOnArrival b false

/-- The unload requested with STOP_AFTER, and the flag cleared (R55, R66). -/
def State.unloadToStop (b : BayNo) (s : State) : State :=
  ((s.setIntent b .stopAfter).ordinaryUnload b).setLoadOnArrival b false

theorem State.spinDownBay_of_queued (state : (s.bay b).state = .queued) :
    s.spinDownBay b = (.done, (s.unqueued b).evaluate) := by
  rw [State.spinDownBay, state]
  rfl

theorem State.spinDownBay_of_spinningUp (state : (s.bay b).state = .spinningUp) :
    s.spinDownBay b = (.accepted, s.spinAborted b) := by
  rw [State.spinDownBay, state]
  rfl

theorem State.spinDownBay_of_spun (state : (s.bay b).state = .spun) :
    s.spinDownBay b = (.accepted, (s.spinDownWith b .stopAfter).setLoadOnArrival b false) := by
  rw [State.spinDownBay, state]

theorem State.spinDownBay_of_loaded (state : (s.bay b).state = .loading ∨ (s.bay b).state = .loaded) :
    s.spinDownBay b = (.accepted, s.unloadToStop b) := by
  unfold State.spinDownBay
  rcases state with state | state <;> rw [state] <;> rfl

theorem State.spinDownBay_of_waiting (state : (s.bay b).state = .parkQueued ∨ (s.bay b).state = .unloading) :
    s.spinDownBay b = (.accepted, s.tells b fun r => r.intent.toStop) := by
  have told : (s.modBay b (fun r => { r with intent := r.intent.toStop })).setLoadOnArrival b false =
      s.tells b fun r => r.intent.toStop := State.modBay_modBay _ _ _ _
  rw [← told]
  unfold State.spinDownBay
  rcases state with state | state <;> rw [state]

theorem State.spinDownBay_of_stopped (state : (s.bay b).state = .stopped) :
    s.spinDownBay b = (.done, s.tells b fun r => r.intent) := by
  rw [State.spinDownBay, state]
  rfl

theorem State.spinDownBay_of_spinningDown (state : (s.bay b).state = .spinningDown) :
    s.spinDownBay b = (.done, s.tells b fun r => if r.intent = .respin then .stopAfter else r.intent) := by
  have told : (s.modBay b (fun r => { r with intent := if r.intent = .respin then .stopAfter else r.intent })).setLoadOnArrival
      b false = s.tells b fun r => if r.intent = .respin then .stopAfter else r.intent := State.modBay_modBay _ _ _ _
  rw [← told, State.spinDownBay, state]

theorem State.spinDownBay_of_refused
    (state : (s.bay b).state = .diag ∨ (s.bay b).state = .held ∨ (s.bay b).state = .fenced ∨ (s.bay b).state = .vacant) :
    s.spinDownBay b = (.state, s) := by
  unfold State.spinDownBay
  rcases state with h | h | h | h <;> rw [h]

/-- What the turn of a bay does. -/
inductive State.SpinDownTurn (b : BayNo) (s : State) : State → Prop
  | leaves (queued : (s.bay b).state = .queued) : SpinDownTurn b s (s.unqueued b).evaluate
  | aborts (spinningUp : (s.bay b).state = .spinningUp) : SpinDownTurn b s (s.spinAborted b)
  | stops (spun : (s.bay b).state = .spun) : SpinDownTurn b s ((s.spinDownWith b .stopAfter).setLoadOnArrival b false)
  | unloads (loaded : (s.bay b).state = .loading ∨ (s.bay b).state = .loaded) : SpinDownTurn b s (s.unloadToStop b)
  | tells (i : BayRec → Intent) : SpinDownTurn b s (s.tells b i)
  | stays : SpinDownTurn b s s

theorem State.spinDownTurn (s : State) (b : BayNo) : s.SpinDownTurn b (s.spinDownBay b).2 := by
  cases state : (s.bay b).state with
  | queued => rw [State.spinDownBay_of_queued state]; exact .leaves state
  | spinningUp => rw [State.spinDownBay_of_spinningUp state]; exact .aborts state
  | spun => rw [State.spinDownBay_of_spun state]; exact .stops state
  | loading => rw [State.spinDownBay_of_loaded (.inl state)]; exact .unloads (.inl state)
  | loaded => rw [State.spinDownBay_of_loaded (.inr state)]; exact .unloads (.inr state)
  | parkQueued => rw [State.spinDownBay_of_waiting (.inl state)]; exact .tells fun r => r.intent.toStop
  | unloading => rw [State.spinDownBay_of_waiting (.inr state)]; exact .tells fun r => r.intent.toStop
  | stopped => rw [State.spinDownBay_of_stopped state]; exact .tells fun r => r.intent
  | spinningDown =>
    rw [State.spinDownBay_of_spinningDown state]
    exact .tells fun r => if r.intent = .respin then .stopAfter else r.intent
  | diag | held | fenced | vacant => rw [State.spinDownBay_of_refused (by simp [state])]; exact .stays

/-! ### What a turn leaves of the case -/

theorem State.keeps_setToStop (s : State) (b : BayNo) : s.Keeps (s.setIntent b .stopAfter) := s.keeps_setIntent b _

theorem State.setIntent_claimless (loaded : (s.bay b).state = .loading ∨ (s.bay b).state = .loaded) (i : Intent) :
    ((s.setIntent b i).bay b).state.claimless = true := by
  rw [State.setIntent, State.bay_modBay_self]
  change (s.bay b).state.claimless = true
  rcases loaded with h | h <;> rw [h] <;> rfl

theorem State.SpinDownTurn.room (turn : s.SpinDownTurn b t) (q : s.queuesMatch) (matched : t.queuesMatch) : s.DriveRoom t := by
  cases turn with
  | leaves queued => exact ((s.sameCase_unqueued b).trans (State.sameCase_evaluate _)).driveRoom matched
  | aborts spinningUp => exact ((s.sameCase_abortSpinUp b _).trans (State.sameCase_modBay _ b _)).driveRoom matched
  | stops spun => exact ((s.sameCase_spinDownWith b _).trans (State.sameCase_modBay _ b _)).driveRoom matched
  | unloads loaded =>
    have told := (s.keeps_setToStop b).queues q
    have unloaded := State.driveRoom_ordinaryUnload told (State.setIntent_claimless loaded .stopAfter)
    exact (((s.sameCase_modBay b _).driveRoom told).trans unloaded).trans ((State.sameCase_modBay _ b _).driveRoom matched)
  | tells i => exact (s.sameCase_tells b i).driveRoom matched
  | stays => exact .refl q

theorem State.startward_clear (s : State) (other : b ≠ x) : s.Startward b (s.setLoadOnArrival x false) :=
  .of_kept rfl rfl rfl rfl (s.bay_modBay_ne _ other)

theorem State.SameCase.startward (h : s.SameCase t) (scheduler : t.scheduler = s.scheduler) (bay : t.bay b = s.bay b) :
    s.Startward b t := .of_kept h.now h.store h.transit scheduler bay

/-- What a turn makes of another bay that is not QUEUED. -/
theorem State.SpinDownTurn.startward (turn : s.SpinDownTurn x t) (q : s.queuesMatch) (other : b ≠ x)
    (queued : (s.bay b).state ≠ .queued) : s.Startward b t := by
  cases turn with
  | leaves queued' =>
    have same := s.unqueued_bay_ne other
    refine ((s.sameCase_unqueued x).trans (State.sameCase_evaluate _)).startward ?_ ?_
    · rw [State.evaluate_scheduler, State.unqueued_scheduler]
    · rw [State.evaluate_bay ((State.keeps_unqueued queued').queues q) (by rw [same]; exact queued), same]
  | aborts spinningUp =>
    refine State.Startward.trans ((s.sameCase_abortSpinUp x _).startward ?_
      (State.abortSpinUp_bay_ne q spinningUp .stopAfter other queued)) (State.startward_clear _ other)
    simp [State.abortSpinUp, State.spinDownWith, State.setIntent]
  | stops spun =>
    refine State.Startward.trans ((s.sameCase_spinDownWith x _).startward ?_ (s.spinDownWith_bay_ne .stopAfter other))
      (State.startward_clear _ other)
    simp [State.spinDownWith, State.setIntent]
  | unloads loaded =>
    have told := (s.keeps_setToStop x).queues q
    have first : s.Startward b (s.setIntent x .stopAfter) := .of_kept rfl rfl rfl rfl (s.bay_modBay_ne _ other)
    exact (first.trans (State.startward_ordinaryUnload told (State.setIntent_claimless loaded .stopAfter) other)).trans
      (State.startward_clear _ other)
  | tells i => exact s.startward_tells other i
  | stays => exact .refl b s

theorem startTurns_spinDownBay : StartTurns False State.spinDownBay where
  room x t q := (t.spinDownTurn x).room q ((t.keeps_spinDownBay x).queues q)
  startward _ x other t q queued := (t.spinDownTurn x).startward q (Ne.symm other) fun here => queued here

/-! ### What a turn makes of a QUEUED bay -/

theorem State.onward_of_arbiter (matched : t.queuesMatch) (now : t.now = s.now) (arbiter : t.arbiter = s.arbiter)
    (bay : t.bay b = s.bay b) : s.Onward b t :=
  .of_kept matched now bay (State.entryKind_congr arbiter b) fun _ => by rw [arbiter]

theorem State.keeps_unloadToStop (loaded : (s.bay b).state = .loading ∨ (s.bay b).state = .loaded) :
    s.Keeps (s.unloadToStop b) :=
  ((s.keeps_setToStop b).trans (State.keeps_ordinaryUnload (State.setIntent_claimless loaded .stopAfter))).trans
    (State.keeps_clearLoadOnArrival _ b)

/-- The spin-up given up, ahead of its evaluation. -/
theorem State.onward_given (q : s.queuesMatch) (spinningUp : (s.bay x).state = .spinningUp) (other : b ≠ x) :
    s.Onward b ((s.releaseGrant x).spinDownWith x .stopAfter) := by
  have same : ((s.releaseGrant x).spinDownWith x .stopAfter).arbiter = (s.releaseGrant x).arbiter := by
    rw [State.spinDownWith, State.enter_arbiter]
    rfl
  refine .of_kept (q.aborted spinningUp .stopAfter) ?_ (State.spinDownWith_bay_ne _ _ other) ?_ fun _ => ?_
  · exact ((s.sameCase_releaseGrant x).trans (State.sameCase_spinDownWith _ x _)).now
  · rw [State.entryKind, State.entryOf, same]
    rfl
  · rw [same, State.releaseGrant_of_spinningUp spinningUp]

theorem State.SpinDownTurn.onward (turn : s.SpinDownTurn x t) (q : s.queuesMatch) (other : b ≠ x)
    (waits : (s.bay b).state ≠ .parkQueued) (matched : t.queuesMatch) : s.Onward b t := by
  cases turn with
  | leaves queued =>
    have left := (State.keeps_unqueued queued).queues q
    have first : s.Onward b (s.unqueued x) := .of_kept left (s.sameCase_unqueued x).now (s.unqueued_bay_ne other)
      (s.unqueued_entryKind_ne other) fun _ => by rw [s.unqueued_arbiter]
    exact first.trans (State.onward_evaluate left b)
  | aborts spinningUp =>
    have given := State.onward_given q spinningUp other
    have evaluated := given.trans (State.onward_evaluate given.matched b)
    exact evaluated.trans (State.onward_of_arbiter matched rfl rfl (State.bay_modBay_ne _ _ other))
  | stops spun =>
    refine State.onward_of_arbiter matched (s.sameCase_spinDownWith x .stopAfter).now ?_ ?_
    · rw [State.setLoadOnArrival, State.modBay_arbiter, State.spinDownWith, State.enter_arbiter]
      rfl
    · rw [State.setLoadOnArrival, State.bay_modBay_ne _ _ other, State.spinDownWith_bay_ne _ _ other]
  | unloads loaded =>
    have told := (s.keeps_setToStop x).queues q
    have kept : (s.setIntent x .stopAfter).bay b = s.bay b := s.bay_modBay_ne _ other
    have moved := State.startward_ordinaryUnload told (State.setIntent_claimless loaded .stopAfter) other
    refine State.onward_of_arbiter matched moved.now ?_ ?_
    · rw [State.unloadToStop, State.setLoadOnArrival, State.modBay_arbiter, State.ordinaryUnload_arbiter]
      rfl
    · rw [State.unloadToStop, State.setLoadOnArrival, State.bay_modBay_ne _ _ other,
        moved.kept (by rw [kept]; exact waits), kept]
  | tells i => exact State.onward_of_arbiter matched rfl rfl (s.tells_bay_ne other i)
  | stays => exact .refl q b

/-! ### Evaluations (R34) -/

theorem State.clear_pass (s : State) (b : BayNo) : (s.setLoadOnArrival b false).pass = s.pass := by
  refine State.pass_of_alike rfl (s.sameCase_modBay b _) fun x => ?_
  by_cases here : x = b
  · rw [here, State.setLoadOnArrival, State.bay_modBay_self]
  · rw [State.setLoadOnArrival, State.bay_modBay_ne _ _ here]

theorem State.setIntent_pass (s : State) (b : BayNo) (i : Intent) : (s.setIntent b i).pass = s.pass := by
  refine State.pass_of_alike rfl (s.sameCase_modBay b _) fun x => ?_
  by_cases here : x = b
  · rw [here, State.setIntent, State.bay_modBay_self]
  · rw [State.setIntent, State.bay_modBay_ne _ _ here]

theorem State.spinAborted_pass (s : State) (b : BayNo) : (s.spinAborted b).pass = none := by
  rw [State.spinAborted, State.clear_pass]
  exact State.evaluate_pass _

theorem State.tells_pass (s : State) (b : BayNo) (i : BayRec → Intent) : (s.tells b i).pass = s.pass := by
  refine State.pass_of_alike rfl (s.sameCase_tells b i) fun x => ?_
  by_cases here : x = b
  · rw [here, State.tells_bay_self]
    exact Iff.rfl
  · rw [State.tells_bay_ne _ here]

theorem State.ordinaryUnload_pass (q : s.queuesMatch) (loaded : (s.bay b).state = .loading ∨ (s.bay b).state = .loaded) :
    (s.ordinaryUnload b).pass = s.pass := by
  have claimless : (s.bay b).state.claimless = true := by rcases loaded with h | h <;> rw [h] <;> rfl
  have notDiag : (s.bay b).state ≠ .diag := by rcases loaded with h | h <;> rw [h] <;> decide
  rcases s.ordinaryUnload_cases b with started | placed
  · rw [started]
    refine State.pass_congr (by simp) (by simp) (by simp) (s.marks_startUnload b).cls (by simp) fun x => ?_
    by_cases here : x = b
    · rw [here, State.startUnload_bay_self]
      refine ⟨fun diag => ?_, fun diag => absurd diag notDiag⟩
      rcases BayRec.unloadStarted_state s.transit.mode (s.governing b) s.now (s.bay b) with h | h | h | h <;>
        rw [h] at diag <;> exact nomatch diag
    · rw [State.startUnload_bay_ne _ here]
  · have alone := s.alone_ordinaryPlaced b
    rw [placed, State.startPass_pass ((State.keeps_ordinaryPlaced claimless).queues q)]
    refine State.pass_congr ?_ alone.store (by rw [alone.supply]) (by rw [alone.motion]) (by rw [alone.transit]) fun x => ?_
    · rw [State.ordinaryPlaced, State.enter_arbiter]
      rfl
    · by_cases here : x = b
      · rw [here, State.ordinaryPlaced_bay_self]
        exact ⟨fun diag => (nomatch diag), fun diag => absurd diag notDiag⟩
      · rw [alone.others x here]

/-- A turn keeps an arbiter that has nothing to grant, or evaluates. -/
theorem State.SpinDownTurn.pass (turn : s.SpinDownTurn b t) (q : s.queuesMatch) (pass : s.pass = none) : t.pass = none := by
  cases turn with
  | leaves queued => exact State.evaluate_pass _
  | aborts spinningUp => exact s.spinAborted_pass b
  | stops spun =>
    rw [State.clear_pass, State.pass_of_alike _ (s.sameCase_spinDownWith b _) fun x => ?_, pass]
    · simp [State.spinDownWith, State.setIntent]
    · by_cases here : x = b
      · rw [here, State.spinDownWith_bay_self, spun]; simp [BayRec.spunDown]
      · rw [State.spinDownWith_bay_ne _ _ here]
  | unloads loaded =>
    have state : ((s.setIntent b .stopAfter).bay b).state = (s.bay b).state := by rw [State.setIntent, State.bay_modBay_self]
    rw [State.unloadToStop, State.clear_pass,
      State.ordinaryUnload_pass ((s.keeps_setToStop b).queues q) (by rw [state]; exact loaded), State.setIntent_pass, pass]
  | tells i => rw [State.tells_pass, pass]
  | stays => exact pass

/-- A QUEUED bay is granted by evaluations alone (R34). -/
theorem State.SpinDownTurn.queued (turn : s.SpinDownTurn x t) (q : s.queuesMatch) (other : b ≠ x)
    (queued : (s.bay b).state = .queued) : (t.bay b).state = .queued ∨ t.pass = none := by
  have waits : (s.bay b).state ≠ .parkQueued := by rw [queued]; decide
  cases turn with
  | leaves _ => exact .inr (State.evaluate_pass _)
  | aborts _ => exact .inr (s.spinAborted_pass x)
  | stops _ =>
    rw [State.setLoadOnArrival, State.bay_modBay_ne _ _ other, State.spinDownWith_bay_ne _ _ other]
    exact .inl queued
  | unloads loaded =>
    have kept : (s.setIntent x .stopAfter).bay b = s.bay b := s.bay_modBay_ne _ other
    have moved := State.startward_ordinaryUnload ((s.keeps_setToStop x).queues q)
      (State.setIntent_claimless loaded .stopAfter) other
    rw [State.unloadToStop, State.setLoadOnArrival, State.bay_modBay_ne _ _ other,
      moved.kept (by rw [kept]; exact waits), kept]
    exact .inl queued
  | tells i =>
    rw [s.tells_bay_ne other]
    exact .inl queued
  | stays => exact .inl queued

/-! ### The turns of the request -/

theorem State.Onward.ne_parkQueued (h : s.Onward b t) (waits : (s.bay b).state ≠ .parkQueued) :
    (t.bay b).state ≠ .parkQueued := by
  rcases h.bay with ⟨same, -⟩ | ⟨k, p, -, granted⟩
  · rw [same]; exact waits
  · rw [granted]
    exact BayRec.granted_state_ne k _ _ _ (by decide) (by decide)

/-- The turn of another bay, for a bay that does not wait to unload. -/
theorem State.spinDown_passes (r : Req) (x : BayNo) (other : x ≠ b) (t : State)
    (holds : s.DriveRoom t ∧ (t.bay b).state ≠ .parkQueued) :
    (s.DriveRoom (checkedBay r State.spinDownBay x t).2 ∧
      ((checkedBay r State.spinDownBay x t).2.bay b).state ≠ .parkQueued) ∧
      t.Onward b (checkedBay r State.spinDownBay x t).2 := by
  obtain ⟨room, waits⟩ := holds
  have matched := (startTurns_spinDownBay.checked r).room x t room.matched
  have moved : t.Onward b (checkedBay r State.spinDownBay x t).2 := by
    rcases checkedBay_cases r State.spinDownBay x t with turn | turn <;> rw [turn] at matched ⊢
    · exact .refl room.matched b
    · exact (t.spinDownTurn x).onward room.matched (Ne.symm other) waits matched.matched
  exact ⟨⟨room.trans matched, moved.ne_parkQueued waits⟩, moved⟩

theorem State.spinDown_pass (q : t.queuesMatch) (pass : t.pass = none) (r : Req) (x : BayNo) :
    (checkedBay r State.spinDownBay x t).2.pass = none := by
  rcases checkedBay_cases r State.spinDownBay x t with turn | turn <;> rw [turn]
  · exact pass
  · exact (t.spinDownTurn x).pass q pass

/-- What a QUEUED bay finds at its turn: an arbiter with nothing to grant, where the bay is QUEUED no more (R34). -/
theorem State.spinDown_queued (q : s.queuesMatch) (queued : (s.bay b).state = .queued) (r : Req) (set : BaySet) :
    ((s.atTurn set (checkedBay r State.spinDownBay) b).bay b).state = .queued ∨
      (s.atTurn set (checkedBay r State.spinDownBay) b).pass = none := by
  have holds := State.atTurn_induct (set := set) (f := checkedBay r State.spinDownBay) (s := s) (b := b)
    (P := fun t => t.queuesMatch ∧ ((t.bay b).state = .queued ∨ t.pass = none)) (fun x earlier _ t ⟨q, either⟩ => by
      refine ⟨((startTurns_spinDownBay.checked r).room x t q).matched, ?_⟩
      rcases either with queued | pass
      · rcases checkedBay_cases r State.spinDownBay x t with turn | turn <;> rw [turn]
        · exact .inl queued
        · exact (t.spinDownTurn x).queued q (Fin.ne_of_gt earlier) queued
      · exact .inr (State.spinDown_pass q pass r x)) ⟨q, .inl queued⟩
  exact holds.2

/-- The turn of a bay that was QUEUED or spins up evaluates, or finds nothing to grant (R34). -/
theorem State.spinDown_answered {set : BaySet} (q : s.queuesMatch) (takes : s.takes r set b)
    (state : (s.bay b).state = .queued ∨ (s.bay b).state = .spinningUp) :
    (s.allTurns set (checkedBay r State.spinDownBay)).pass = none := by
  have turns := startTurns_spinDownBay.checked r
  obtain ⟨matched, own⟩ : (s.atTurn set (checkedBay r State.spinDownBay) b).queuesMatch ∧
      (checkedBay r State.spinDownBay b (s.atTurn set (checkedBay r State.spinDownBay) b)).2.pass = none := by
    rcases state with queued | spinningUp
    · obtain ⟨⟨room, -⟩, onward⟩ := State.atTurn_onward (set := set) (b := b) (s := s)
        (State.spinDown_passes (s := s) r) q ⟨.refl q, by rw [queued]; decide⟩
      refine ⟨room.matched, ?_⟩
      rcases State.spinDown_queued q queued r set with queuedAt | pass
      · rw [checkedBay_of_takes ((State.takes_congr onward.flags.2.1).mpr takes), State.spinDownBay_of_queued queuedAt]
        exact State.evaluate_pass _
      · exact State.spinDown_pass room.matched pass r b
    · obtain ⟨room, before⟩ := turns.atTurn set q (fun queued => nomatch spinningUp.symm.trans queued)
      refine ⟨room.matched, ?_⟩
      rw [checkedBay_of_takes ((State.takes_congr before.pending).mpr takes), State.spinDownBay_of_spinningUp]
      · exact State.spinAborted_pass _ b
      · rw [before.kept (by rw [spinningUp]; decide)]
        exact spinningUp
  have holds := State.allTurns_brings (set := set) (f := checkedBay r State.spinDownBay) (s := s) (b := b)
    (Q := fun _ t => t.queuesMatch ∧ t.pass = none) (by exact takes.1) ⟨(turns.room b _ matched).matched, own⟩
    (fun x _ _ _ t ⟨q, pass⟩ => ⟨(turns.room x t q).matched, State.spinDown_pass q pass r x⟩)
  exact holds.2

/-- A QUEUED bay of the set at its turn and after it. -/
theorem State.spinDown_handled {set : BaySet} (q : s.queuesMatch) (queued : (s.bay b).state = .queued) (takes : s.takes r set b) :
    ∃ t, s.DriveRoom t ∧ s.Onward b t ∧ ((∀ x : BayNo, x < b → set.getLsbD x.val = false) → t = s) ∧
      s.outcome set (checkedBay r State.spinDownBay) b = (t.spinDownBay b).1 ∧
      (((t.spinDownBay b).2.bay b).state ≠ .parkQueued →
        (t.spinDownBay b).2.Onward b (s.allTurns set (checkedBay r State.spinDownBay))) := by
  have passes := State.spinDown_passes (s := s) (b := b) r
  obtain ⟨⟨room, -⟩, onward⟩ := State.atTurn_onward (set := set) passes q ⟨.refl q, by rw [queued]; decide⟩
  have turn := checkedBay_of_takes ((State.takes_congr onward.flags.2.1).mpr takes) State.spinDownBay
  refine ⟨_, room, onward, State.atTurn_of_first, congrArg Prod.fst turn, fun waits => ?_⟩
  rw [← turn] at waits ⊢
  have own := (startTurns_spinDownBay.checked r).room b _ room.matched
  exact (State.allTurns_onward passes takes.1 own.matched ⟨room.trans own, waits⟩).2

/-- A QUEUED bay that the CHECK flag turns away. -/
theorem State.spinDown_refused {set : BaySet} (q : s.queuesMatch) (queued : (s.bay b).state = .queued)
    (named : set.getLsbD b.val = true) (refused : ¬ s.takes r set b) :
    s.outcome set (checkedBay r State.spinDownBay) b = .pending ∧
      s.Onward b (s.allTurns set (checkedBay r State.spinDownBay)) := by
  have passes := State.spinDown_passes (s := s) (b := b) r
  obtain ⟨holds, onward⟩ := State.atTurn_onward (set := set) passes q ⟨.refl q, by rw [queued]; decide⟩
  have turn := checkedBay_of_pending named (mt (State.takes_congr onward.flags.2.1).mp refused) State.spinDownBay
  have after := State.allTurns_onward passes named (by rw [turn]; exact holds.1.matched) (by rw [turn]; exact holds)
  rw [turn] at after
  exact ⟨congrArg Prod.fst turn, onward.trans after.2⟩

theorem Intent.toStop_eq (i : Intent) : i.toStop = if i = .holdAfter then .holdAfter else .stopAfter := by cases i <;> rfl

theorem State.unqueued_evaluated (q : s.queuesMatch) (queued : (s.bay b).state = .queued) :
    (s.unqueued b).evaluate.bay b = { (s.bay b).enter .stopped (s.governing b) s.now with loadOnArrival := false } := by
  rw [State.evaluate_bay ((State.keeps_unqueued queued).queues q) (by rw [State.unqueued_bay_self]; exact fun h => nomatch h),
    State.unqueued_bay_self]

theorem State.spinAborted_bay_self (q : s.queuesMatch) (spinningUp : (s.bay b).state = .spinningUp) :
    (s.spinAborted b).bay b = { (s.bay b).spunDown .stopAfter (s.governing b) s.now with loadOnArrival := false } := by
  rw [State.spinAborted, State.setLoadOnArrival, State.bay_modBay_self, State.abortSpinUp_bay_self q spinningUp]

/-- The record of a bay unloaded with STOP_AFTER. -/
theorem State.unloadToStop_bay_self (q : s.queuesMatch) (loaded : (s.bay b).state = .loading ∨ (s.bay b).state = .loaded) :
    ((s.unloadToStop b).bay b).loadOnArrival = false ∧ ((s.unloadToStop b).bay b).intent = .stopAfter ∧
      (((s.unloadToStop b).bay b).state = .parkQueued ∨ ((s.unloadToStop b).bay b).state = .unloading ∨
        ((s.unloadToStop b).bay b).state = .spinningDown) := by
  have unloads := State.unloads_ordinaryUnload ((s.keeps_setToStop b).queues q) (State.setIntent_claimless loaded .stopAfter)
  have told : ((s.setIntent b .stopAfter).bay b).intent = .stopAfter := by rw [State.setIntent, State.bay_modBay_self]
  rw [State.unloadToStop, State.setLoadOnArrival, State.bay_modBay_self]
  exact ⟨rfl, unloads.stops told⟩

end

/-- Settles O41. -/
theorem spinDownOutcomes : Obligations.SpinDownOutcomes := by
  intro dt r s lo hi set hands body here
  obtain rfl : set = word16 lo hi := here
  have handles (t : State) : handler .spinDown r t = t.checkedBays .spinDown r (word16 lo hi) State.spinDownBay := by
    simp only [handler, handleSpinDown, body]
  refine ⟨fun empty => State.bays_argument hands dt fun t => by rw [handles, empty],
    fun named refuses => State.bays_refused hands dt handles named refuses, fun named accepts q => ?_⟩
  have step := exec_of_bays hands dt handles named accepts
  obtain ⟨bays, arbiter, scheduler, motion, supply, faults, store, now, transit, -⟩ := s.arrived_blocks dt
  have matched := State.arrived_queuesMatch q dt
  have bay (x : BayNo) : (s.elapse dt).frameArrived.bay x = s.bay x := State.bay_of_bays bays x
  generalize (s.elapse dt).frameArrived = u at *
  have turns := startTurns_spinDownBay
  have room := (turns.checked r).allTurns_room (word16 lo hi) matched
  have settings : u.settings = s.settings := congrArg (·.working.case) store
  have kind (x : BayNo) : u.entryKind x = s.entryKind x := State.entryKind_congr arbiter x
  have takes_iff (b : BayNo) : u.takes r (word16 lo hi) b ↔ s.takes r (word16 lo hi) b := State.takes_congr (by rw [bay])
  have fullAt (full : s.settings.unloadWidth ≤ s.scheduler.unloading) : u.settings.unloadWidth ≤ u.scheduler.unloading := by
    rw [settings, scheduler]; exact full
  have tame {b : BayNo} (queued : (s.bay b).state ≠ .queued) (here : (u.bay b).state = .queued) : False :=
    queued (by rw [← bay]; exact here)
  refine ⟨_, _, step, State.listed_lineUp _ _ _ _, fun b named' refused => ?_, fun b takes => ?_, fun b takes state => ?_,
    fun b outside queued waits => ?_, ?_, ?_, ?_, ?_, ?_⟩
  · rw [State.lineUp_bay, State.answer_bay]
    by_cases queued : (s.bay b).state = .queued
    · obtain ⟨outcome, onward⟩ := State.spinDown_refused matched (by rw [bay]; exact queued) named'
        (mt (takes_iff b).mp refused)
      rw [outcome, queued]
      exact ⟨rfl, fun h => absurd rfl h, fun _ => by rw [onward.flags.1, bay], fun h => nomatch h⟩
    · obtain ⟨outcome, onward⟩ := turns.refused matched (tame queued) named' (mt (takes_iff b).mp refused)
      rw [outcome]
      exact ⟨rfl, fun _ waits => by rw [onward.kept (by rw [bay]; exact waits), bay], fun h => absurd h queued,
        fun _ full => by rw [onward.kept_of_full (fullAt full), bay]⟩
  · rw [State.lineUp_bay, State.answer_bay, State.entryOf_congr (State.lineUp_arbiter _),
      State.entryOf_congr (State.answer_arbiter _ _ _ _ _)]
    by_cases queued : (s.bay b).state = .queued
    · obtain ⟨t, roomAt, onward, first, outcome, after⟩ :=
        State.spinDown_handled matched (by rw [bay]; exact queued) ((takes_iff b).mpr takes)
      rw [outcome]
      generalize u.allTurns (word16 lo hi) (checkedBay r State.spinDownBay) = w at *
      have settled {r' : BayRec} (own : (t.spinDownBay b).2.bay b = r') (waits : r'.state ≠ .parkQueued)
          (left : r'.state ≠ .queued) : w.bay b = r' ∧ w.entryOf b = none := by
        have same : w.bay b = r' := by
          rw [(after (by rw [own]; exact waits)).kept ((t.keeps_spinDownBay b).queues roomAt.matched)
            (by rw [own]; exact left), own]
        exact ⟨same, room.matched.entryOf (by rw [same]; exact left)⟩
      have leaves (queuedAt : (t.bay b).state = .queued) : (t.spinDownBay b).1 = .done ∧ (w.bay b).state = .stopped ∧
          (w.bay b).loadOnArrival = false ∧ w.entryOf b = none := by
        have turn := State.spinDownBay_of_queued queuedAt
        obtain ⟨same, none'⟩ := settled ((congrArg (·.2.bay b) turn).trans (State.unqueued_evaluated roomAt.matched queuedAt))
          (fun h => nomatch h) (fun h => nomatch h)
        rw [turn, same]
        exact ⟨rfl, rfl, rfl, none'⟩
      rw [queued]
      refine ⟨fun isFirst => leaves (by rw [first isFirst, bay]; exact queued), fun spin => ?_, fun test => ?_⟩
      · rcases onward.bay with ⟨same, -⟩ | ⟨k, p, entry, granted⟩
        · obtain ⟨status, stopped, flag, none'⟩ := leaves (by rw [same, bay]; exact queued)
          exact ⟨flag, none', .inl ⟨status, stopped⟩⟩
        · rw [kind, spin] at entry
          cases entry
          have spinningUp : (t.bay b).state = .spinningUp := by rw [granted]; rfl
          have turn := State.spinDownBay_of_spinningUp spinningUp
          obtain ⟨same, none'⟩ := settled ((congrArg (·.2.bay b) turn).trans
            (State.spinAborted_bay_self roomAt.matched spinningUp)) (fun h => nomatch h) (fun h => nomatch h)
          rw [turn, same]
          refine ⟨rfl, none', .inr ⟨rfl, rfl, rfl, rfl, ?_⟩⟩
          rw [BayRec.spunDown_eq, granted, bay]
          rfl
      · rcases onward.bay with ⟨same, -⟩ | ⟨k, p, entry, granted⟩
        · obtain ⟨status, stopped, flag, none'⟩ := leaves (by rw [same, bay]; exact queued)
          exact ⟨none', .inl ⟨status, stopped, flag⟩⟩
        · rw [kind, test] at entry
          cases entry
          have diag : (t.bay b).state = .diag := by rw [granted]; rfl
          have turn := State.spinDownBay_of_refused (.inl diag)
          obtain ⟨same, none'⟩ := settled (congrArg (·.2.bay b) turn) (by rw [diag]; decide) (by rw [diag]; decide)
          rw [turn, same]
          exact ⟨none', .inr ⟨rfl, diag⟩⟩
    obtain ⟨t, roomAt, before, first, outcome, after⟩ := turns.handled matched (tame queued) ((takes_iff b).mpr takes)
    rw [outcome]
    generalize u.allTurns (word16 lo hi) (checkedBay r State.spinDownBay) = w at *
    have kept (waits : (s.bay b).state ≠ .parkQueued) : t.bay b = s.bay b := by
      rw [before.kept (by rw [bay]; exact waits), bay]
    have settled {r' : BayRec} (own : (t.spinDownBay b).2.bay b = r') (waits : r'.state ≠ .parkQueued)
        (left : r'.state ≠ .queued) : w.bay b = r' := by
      rw [(after (by rw [own]; exact left)).kept (by rw [own]; exact waits), own]
    have refused (state : (s.bay b).state = .diag ∨ (s.bay b).state = .held ∨ (s.bay b).state = .fenced ∨
        (s.bay b).state = .vacant) : (t.spinDownBay b).1 = .state ∧ w.bay b = s.bay b := by
      have waits : (s.bay b).state ≠ .parkQueued := by rcases state with h | h | h | h <;> rw [h] <;> decide
      have turn := State.spinDownBay_of_refused (s := t) (b := b) (by rw [kept waits]; exact state)
      rw [settled (congrArg (·.2.bay b) turn) (by rw [kept waits]; exact waits) (by rw [kept waits]; exact queued),
        turn]
      exact ⟨rfl, kept waits⟩
    have told (waits : (t.bay b).state = .parkQueued ∨ (t.bay b).state = .unloading) :
        (t.spinDownBay b).1 = .accepted ∧ ((t.bay b).toldTo (t.bay b).intent.toStop).Unloads (w.bay b) := by
      rw [State.spinDownBay_of_waiting waits] at after ⊢
      have record := t.tells_bay_self b fun r => r.intent.toStop
      refine ⟨rfl, ?_⟩
      rw [← record]
      refine BayRec.Unloads.startward ?_ (after ?_)
      · rw [record]
        rcases waits with h | h
        · exact BayRec.unloads_of_parkQueued h
        · exact BayRec.unloads_of_unloading h
      · rw [record]
        intro h
        rcases waits with here | here <;> exact nomatch here.symm.trans h
    have loaded (state : (s.bay b).state = .loading ∨ (s.bay b).state = .loaded) :
        (t.spinDownBay b).1 = .accepted ∧ (w.bay b).intent = .stopAfter ∧ (w.bay b).loadOnArrival = false ∧
          ((w.bay b).state = .parkQueued ∨ (w.bay b).state = .unloading ∨ (w.bay b).state = .spinningDown) := by
      have same := kept (by rcases state with h | h <;> rw [h] <;> decide)
      have stateAt : (t.bay b).state = .loading ∨ (t.bay b).state = .loaded := by rw [same]; exact state
      rw [State.spinDownBay_of_loaded stateAt] at after ⊢
      obtain ⟨flag, intent, states⟩ := State.unloadToStop_bay_self roomAt.matched stateAt
      replace after := after fun h => by rcases states with here | here | here <;> exact nomatch here.symm.trans h
      by_cases waits : ((t.unloadToStop b).bay b).state = .parkQueued
      · have unloads := after.unloads waits
        exact ⟨rfl, (unloads.stops intent).1, unloads.flag flag, (unloads.stops intent).2⟩
      · rw [after.kept waits]
        exact ⟨rfl, intent, flag, states⟩
    cases state : (s.bay b).state with
    | queued => exact absurd state queued
    | spinningUp =>
      have same := kept (by rw [state]; decide)
      have spinningUp : (t.bay b).state = .spinningUp := by rw [same]; exact state
      have turn := State.spinDownBay_of_spinningUp spinningUp
      rw [settled ((congrArg (·.2.bay b) turn).trans (State.spinAborted_bay_self roomAt.matched spinningUp))
        (fun h => nomatch h) (fun h => nomatch h), turn]
      exact ⟨rfl, rfl, rfl, rfl, rfl, by rw [BayRec.spunDown_eq, same]⟩
    | spun =>
      have turn := State.spinDownBay_of_spun (s := t) (b := b) (by rw [kept (by rw [state]; decide)]; exact state)
      have record : ((t.spinDownWith b .stopAfter).setLoadOnArrival b false).bay b =
          { (t.bay b).spunDown .stopAfter (t.governing b) t.now with loadOnArrival := false } := by
        rw [State.setLoadOnArrival, State.bay_modBay_self, State.spinDownWith_bay_self]
      rw [settled ((congrArg (·.2.bay b) turn).trans record) (fun h => nomatch h) (fun h => nomatch h), turn]
      exact ⟨rfl, rfl, rfl, rfl, rfl⟩
    | loading => exact loaded (.inl state)
    | loaded => exact loaded (.inr state)
    | parkQueued =>
      have waits : (u.bay b).state = .parkQueued := by rw [bay]; exact state
      have unloads := before.unloads waits
      rw [bay] at unloads
      refine ⟨fun isFirst => ?_, fun prk => ?_, fun full => ?_⟩
      · obtain ⟨status, further⟩ := told (.inl (by rw [first isFirst]; exact waits))
        exact ⟨status, further.flag rfl⟩
      · have stateAt := unloads.free prk
        obtain ⟨status, further⟩ := told stateAt
        have states := further.free (unloads.prk.trans prk)
        refine ⟨status, further.flag rfl, ?_, states⟩
        rw [further.intent states, ← Intent.toStop_eq, ← unloads.intent stateAt]
        rfl
      · have same := before.kept_of_full (fullAt full)
        have waitsAt : (t.bay b).state = .parkQueued := by rw [same]; exact waits
        have record := t.tells_bay_self b fun r => r.intent.toStop
        rw [State.spinDownBay_of_waiting (.inl waitsAt)] at after ⊢
        rw [(after (by rw [record]; exact fun h => nomatch waitsAt.symm.trans h)).kept_of_full (before.full (fullAt full)),
          record, same, bay, ← Intent.toStop_eq]
        exact ⟨rfl, rfl⟩
    | unloading =>
      have same := kept (by rw [state]; decide)
      have turn := State.spinDownBay_of_waiting (s := t) (b := b) (.inr (by rw [same]; exact state))
      have record := t.tells_bay_self b fun r => r.intent.toStop
      rw [settled ((congrArg (·.2.bay b) turn).trans record) (by rw [same]; exact fun h => nomatch state.symm.trans h)
        (by rw [same]; exact fun h => nomatch state.symm.trans h), turn, same, ← Intent.toStop_eq]
      exact ⟨rfl, rfl⟩
    | stopped =>
      have same := kept (by rw [state]; decide)
      have turn := State.spinDownBay_of_stopped (s := t) (b := b) (by rw [same]; exact state)
      have record := t.tells_bay_self b fun r => r.intent
      rw [settled ((congrArg (·.2.bay b) turn).trans record) (by rw [same]; exact fun h => nomatch state.symm.trans h)
        (by rw [same]; exact fun h => nomatch state.symm.trans h), turn, same]
      exact ⟨rfl, rfl⟩
    | spinningDown =>
      have same := kept (by rw [state]; decide)
      have turn := State.spinDownBay_of_spinningDown (s := t) (b := b) (by rw [same]; exact state)
      have record := t.tells_bay_self b fun r => if r.intent = .respin then .stopAfter else r.intent
      rw [settled ((congrArg (·.2.bay b) turn).trans record) (by rw [same]; exact fun h => nomatch state.symm.trans h)
        (by rw [same]; exact fun h => nomatch state.symm.trans h), turn, same]
      exact ⟨rfl, rfl⟩
    | diag => exact refused (.inl state)
    | held => exact refused (.inr (.inl state))
    | fenced => exact refused (.inr (.inr (.inl state)))
    | vacant => exact refused (.inr (.inr (.inr state)))
  · rw [State.pass_answered]
    exact State.spinDown_answered matched ((takes_iff b).mpr takes) (by rw [bay]; exact state)
  · have onward := (turns.checked r).unnamed matched (tame queued) outside
    rw [State.lineUp_bay, State.answer_bay, onward.kept (by rw [bay]; exact waits), bay]
  · rw [State.lineUp_supply, State.answer_supply, room.supply, supply]
  · rw [State.lineUp_faults, State.answer_faults, room.faults, faults]
  · rw [State.lineUp_store, State.answer_store, room.store, store]
  · rw [State.lineUp_transit, State.answer_transit, room.transit, transit]
  · rw [State.lineUp_now, State.answer_now, room.now, now]

end Sys2Proof.Machine
end

section
/-! PROOFS. The spin-up queue: what a pass reads, the order of the mode, the skip rule, and a pass carried out
(R5, R34 to R40, R154). -/

namespace Sys2Proof.Machine

section

variable {s : State} {e candidate : SpinEntry} {rest before after : List SpinEntry} {p : PassResult}

/-! ### Insertion by keys -/

theorem mem_insertByKey {α : Type} {key : α → Nat} {a x : α} {l : List α} : x ∈ insertByKey key a l ↔ x = a ∨ x ∈ l := by
  rw [(insertByKey_perm key a l).mem_iff, List.mem_cons]

theorem pairwise_insertByKey {α : Type} (key : α → Nat) (a : α) {l : List α} (sorted : l.Pairwise (key · ≤ key ·)) :
    (insertByKey key a l).Pairwise (key · ≤ key ·) := by
  induction l with
  | nil => exact List.pairwise_singleton _ _
  | cons x xs ih =>
    obtain ⟨first, tail⟩ := List.pairwise_cons.mp sorted
    unfold insertByKey
    split
    · rename_i le
      refine List.pairwise_cons.mpr ⟨fun y mem => ?_, sorted⟩
      rcases List.mem_cons.mp mem with rfl | mem
      · exact le
      · exact Nat.le_trans le (first y mem)
    · rename_i gt
      refine List.pairwise_cons.mpr ⟨fun y mem => ?_, ih tail⟩
      rcases mem_insertByKey.mp mem with rfl | mem
      · exact Nat.le_of_not_le gt
      · exact first y mem

theorem pairwise_sortByKey {α : Type} (key : α → Nat) (l : List α) : (sortByKey key l).Pairwise (key · ≤ key ·) := by
  induction l with
  | nil => exact List.Pairwise.nil
  | cons x xs ih => exact pairwise_insertByKey key x ih

/-- Among the entries of one key, an entry is inserted as the first. -/
theorem filter_insertByKey {α : Type} {key : α → Nat} {P : α → Bool} (alike : ∀ x y, P x = true → P y = true → key x = key y)
    (a : α) (l : List α) : (insertByKey key a l).filter P = (a :: l).filter P := by
  induction l with
  | nil => rfl
  | cons x xs ih =>
    unfold insertByKey
    split
    · rfl
    · rename_i gt
      rw [List.filter_cons, ih, List.filter_cons, List.filter_cons, List.filter_cons]
      by_cases here : P a = true
      · have apart : ¬ P x = true := fun there => gt (Nat.le_of_eq (alike a x here there))
        rw [if_neg apart, if_neg apart]
      · rw [if_neg here, if_neg here]

/-- Entries of equal key keep their order. -/
theorem filter_sortByKey {α : Type} {key : α → Nat} {P : α → Bool} (alike : ∀ x y, P x = true → P y = true → key x = key y)
    (l : List α) : (sortByKey key l).filter P = l.filter P := by
  induction l with
  | nil => rfl
  | cons x xs ih =>
    have inserted := filter_insertByKey alike x (sortByKey key xs)
    rw [sortByKey, inserted, List.filter_cons, List.filter_cons, ih]

/-! ### The order of the mode (R36) -/

theorem State.inModeOrder_of_arrival (mode : s.settings.arbiterMode = .arrival) (es : List SpinEntry) :
    s.inModeOrder es = es := by
  rw [State.inModeOrder, mode]

theorem State.inModeOrder_of_rotate (mode : s.settings.arbiterMode = .rotate) (es : List SpinEntry) :
    s.inModeOrder es = sortByKey (fun e => rotateDistance s.arbiter.pointer e.bay) es := by
  rw [State.inModeOrder, mode]

theorem State.inModeOrder_of_ranked (mode : s.settings.arbiterMode = .ranked) (es : List SpinEntry) :
    s.inModeOrder es = sortByKey (fun e => 3 - (s.effective e.bay).rank) es := by
  rw [State.inModeOrder, mode]

theorem rotateDistance_eq (pointer b : BayNo) : rotateDistance pointer b = (b - (pointer + 1)).val := by
  rw [rotateDistance, Fin.val_sub, Fin.val_add, Fin.val_one]
  omega

theorem State.effective_rank (valid : s.store.working.valid = true) (b : BayNo) : (s.effective b).rank ≤ 3 := by
  have all : s.store.working.profiles.all Profile.valid = true := by
    rw [WorkingSettings.valid, Bool.and_eq_true] at valid
    exact valid.2
  have checked (i : Nat) (below : i < 8) : (s.store.working.profiles[i]).rank ≤ 3 := by
    have profile := Vector.all_eq_true.mp all i below
    simp only [Profile.valid, within, Bool.and_eq_true, decide_eq_true_eq] at profile
    omega
  unfold State.effective
  split
  · exact checked 0 _
  · exact checked _ _

theorem State.inModeOrder_rotate (mode : s.settings.arbiterMode = .rotate) (es : List SpinEntry) :
    (s.inModeOrder es).Pairwise (fun a c => (a.bay - (s.arbiter.pointer + 1)).val ≤ (c.bay - (s.arbiter.pointer + 1)).val) := by
  rw [State.inModeOrder_of_rotate mode]
  refine (pairwise_sortByKey _ es).imp fun le => ?_
  rw [← rotateDistance_eq, ← rotateDistance_eq]
  exact le

theorem State.inModeOrder_ranked (valid : s.store.working.valid = true) (mode : s.settings.arbiterMode = .ranked)
    (es : List SpinEntry) :
    (s.inModeOrder es).Pairwise (fun a c => (s.effective c.bay).rank ≤ (s.effective a.bay).rank) ∧
      ∀ k, (s.inModeOrder es).filter (fun e => (s.effective e.bay).rank == k) =
        es.filter (fun e => (s.effective e.bay).rank == k) := by
  rw [State.inModeOrder_of_ranked mode]
  refine ⟨(pairwise_sortByKey _ es).imp fun {a c} le => ?_, fun k => filter_sortByKey (fun x y here there => ?_) es⟩
  · have first := State.effective_rank valid a.bay
    have second := State.effective_rank valid c.bay
    omega
  · rw [beq_iff_eq] at here there
    rw [here, there]

/-! ### What a pass reads (R5, R35, R37) -/

theorem State.motionAdmitsSpinUp_iff (s : State) : s.motionAdmitsSpinUp = true ↔ s.motion.cls ≠ .rolling ∨
    s.settings.spinWhileRolling = true ∧ s.settings.rollingPolicy ≠ .parkAndStop := by
  unfold State.motionAdmitsSpinUp
  cases s.motion.cls with
  | still | unsettled => simp
  | rolling => simp

theorem State.someDiag_iff (s : State) : s.someDiag = true ↔ ∃ b, (s.bay b).state = .diag := by
  rw [State.someDiag, s.bays_any_iff]
  simp only [beq_iff_eq]

theorem State.eligible_iff (s : State) (e : SpinEntry) :
    (e.kind = .spin → (s.eligible e = true ↔ s.motion.cls ≠ .rolling ∨
      s.settings.spinWhileRolling = true ∧ s.settings.rollingPolicy ≠ .parkAndStop)) ∧
    (e.kind = .test → (s.eligible e = true ↔ ∀ b, (s.bay b).state ≠ .diag)) := by
  refine ⟨fun spin => ?_, fun test => ?_⟩
  · rw [State.eligible, spin]
    exact s.motionAdmitsSpinUp_iff
  · rw [State.eligible, test]
    dsimp only
    rw [Bool.not_eq_true', ← Bool.not_eq_true, s.someDiag_iff]
    exact not_exists

theorem State.cost_eq (s : State) (e : SpinEntry) :
    (e.kind = .spin → s.cost e = (s.effective e.bay).surgeCost) ∧ (e.kind = .test → s.cost e = 1) :=
  ⟨fun spin => by rw [State.cost, spin], fun test => by rw [State.cost, test]⟩

theorem State.effective_eq (s : State) (b : BayNo) :
    (s.settings.commonProfile = true → s.effective b = s.store.working.profiles[0]) ∧
    (s.settings.commonProfile = false → s.effective b = s.store.working.profiles[s.store.working.selections[b]]) :=
  ⟨fun common => by rw [State.effective, if_pos common],
    fun own => by rw [State.effective, if_neg (by rw [own]; decide)]⟩

/-! ### The skip rule (R37, R38) -/

theorem State.fits_iff (s : State) (e : SpinEntry) : s.fits e = true ↔ s.arbiter.held + s.cost e ≤ s.supply.budget :=
  decide_eq_true_iff

/-- A pass that is open decides on the candidate and the entries behind it. -/
theorem State.pass_of_open (mode : s.transit.mode = .normal) (room : s.arbiter.grants < s.settings.concurrencyLimit)
    (order : s.inModeOrder (s.arbiter.queue.filter s.eligible) = candidate :: rest) : s.pass =
      if s.fits candidate then some { granted := candidate, skipped := none }
      else if 0 < s.settings.skipLimit && candidate.skip < s.settings.skipLimit then
        (rest.find? s.fits).map (fun e => { granted := e, skipped := some candidate.bay })
      else none := by
  rw [State.pass, if_neg, order]
  simp [mode, room]

section

variable (mode : s.transit.mode = .normal) (room : s.arbiter.grants < s.settings.concurrencyLimit)
  (order : s.inModeOrder (s.arbiter.queue.filter s.eligible) = candidate :: rest)

include mode room order

theorem State.pass_of_fits (fits : s.arbiter.held + s.cost candidate ≤ s.supply.budget) :
    s.pass = some { granted := candidate, skipped := none } := by
  rw [State.pass_of_open mode room order, if_pos ((s.fits_iff candidate).mpr fits)]

theorem State.pass_of_skip (barred : s.supply.budget < s.arbiter.held + s.cost candidate) (split : rest = before ++ e :: after)
    (others : ∀ x ∈ before, s.supply.budget < s.arbiter.held + s.cost x) (fits : s.arbiter.held + s.cost e ≤ s.supply.budget)
    (below : candidate.skip < s.settings.skipLimit) : s.pass = some { granted := e, skipped := some candidate.bay } := by
  have found : rest.find? s.fits = some e := List.find?_eq_some_iff_append.mpr
    ⟨(s.fits_iff e).mpr fits, before, after, split, fun x mem => by
      rw [Bool.not_eq_true', ← Bool.not_eq_true, s.fits_iff]
      exact Nat.not_le.mpr (others x mem)⟩
  rw [State.pass_of_open mode room order, if_neg (mt (s.fits_iff candidate).mp (Nat.not_le.mpr barred)), if_pos, found]
  · rfl
  · rw [Bool.and_eq_true, decide_eq_true_iff, decide_eq_true_iff]
    exact ⟨Nat.zero_lt_of_lt below, below⟩

theorem State.pass_of_barred (barred : s.supply.budget < s.arbiter.held + s.cost candidate)
    (stuck : (∀ x ∈ rest, s.supply.budget < s.arbiter.held + s.cost x) ∨ s.settings.skipLimit ≤ candidate.skip) :
    s.pass = none := by
  rw [State.pass_of_open mode room order, if_neg (mt (s.fits_iff candidate).mp (Nat.not_le.mpr barred))]
  rcases stuck with others | limit
  · have nothing : rest.find? s.fits = none :=
      List.find?_eq_none.mpr fun x mem => mt (s.fits_iff x).mp (Nat.not_le.mpr (others x mem))
    rw [nothing]
    split
    · rfl
    · rfl
  · rw [if_neg]
    rw [Bool.and_eq_true, decide_eq_true_iff, decide_eq_true_iff]
    exact fun ⟨_, below⟩ => absurd limit (Nat.not_le.mpr below)

end

/-! ### A pass carried out (R38 to R40, R154) -/

theorem State.granted_mem (pass : s.pass = some p) : p.granted ∈ s.arbiter.queue := by
  unfold State.pass at pass
  split at pass
  · exact nomatch pass
  split at pass
  · exact nomatch pass
  rename_i candidate rest order
  have queued {e : SpinEntry} (mem : e ∈ candidate :: rest) : e ∈ s.arbiter.queue :=
    (List.mem_filter.mp ((s.inModeOrder_perm _).mem_iff.mp (order ▸ mem))).1
  split at pass
  · rw [← Option.some.inj pass]
    exact queued List.mem_cons_self
  split at pass
  · obtain ⟨e, first, rfl⟩ := Option.map_eq_some_iff.mp pass
    exact queued (List.mem_cons_of_mem _ (List.mem_of_find?_eq_some first))
  · exact nomatch pass

theorem State.raised_queue (s : State) (p : PassResult) : (s.raised p).arbiter.queue =
    s.arbiter.queue.map (fun e => if p.skipped = some e.bay then { e with skip := e.skip + 1 } else e) := by
  unfold State.raised
  cases p.skipped with
  | none => simp
  | some c =>
    refine List.map_congr_left fun e _ => ?_
    simp only [beq_iff_eq, Option.some.injEq, eq_comm (a := c)]

theorem State.raised_cost (s : State) (p : PassResult) (e : SpinEntry) : (s.raised p).cost e = s.cost e := by
  rw [State.raised_eq]
  rfl

theorem State.carryOut_arbiter (s : State) (p : PassResult) :
    (s.carryOut p).arbiter.queue = (s.arbiter.queue.map (fun e =>
      if p.skipped = some e.bay then { e with skip := e.skip + 1 } else e)).filter (fun e => e.bay != p.granted.bay) ∧
    (s.carryOut p).arbiter.held = s.arbiter.held + s.cost p.granted ∧
    (s.carryOut p).arbiter.grants = s.arbiter.grants + 1 ∧ (s.carryOut p).arbiter.pointer = p.granted.bay := by
  rw [State.carryOut_eq, State.grant_queue, State.grant_held, State.grant_grants, State.grant_pointer, State.raised_queue,
    State.raised_cost, State.raised_eq]
  exact ⟨rfl, rfl, rfl, rfl⟩

theorem State.carryOut_converter (s : State) (p : PassResult) :
    (p.granted.kind = .spin → (s.carryOut p).arbiter.converter = s.arbiter.converter) ∧
    (p.granted.kind = .test → (s.carryOut p).arbiter.converter =
      { holder := some p.granted.bay, offsetDue := some (s.now + 1000), offset := none }) := by
  rw [State.carryOut_eq, State.grant_converter, State.raised_eq]
  refine ⟨fun spin => ?_, fun test => ?_⟩
  · simp only [spin]
  · simp only [test, offsetLength, ms]

theorem State.carryOut_bay_self (s : State) (p : PassResult) : (s.carryOut p).bay p.granted.bay =
    (s.bay p.granted.bay).granted p.granted.kind (s.effective p.granted.bay) s.now := by
  rw [State.carryOut_eq, State.grant_bay_self, State.raised_eq]
  rfl

theorem State.carryOut_others (s : State) (p : PassResult) : s.othersKept (s.carryOut p) p.granted.bay := fun x other => by
  rw [State.carryOut_eq, State.grant_bay_ne _ _ other, State.raised_eq]
  rfl

theorem State.carryOut_link (s : State) (p : PassResult) : (s.carryOut p).link = s.link := by
  rw [State.carryOut_eq, State.grant_link, State.raised_eq]

/-- The record of a spin-up granted (R40). -/
theorem BayRec.granted_spin (r : BayRec) (p : Profile) (now : Nat) : r.granted .spin p now =
    { r with
      state := .spinningUp, entryTime := caseClock now, latched := some p, grantTime := caseClock now, atSpeed := 0,
      armed := false, spen := some (p.surgeCost * 250), hld := false,
      timers := { Timers.stopped with
        tachFirst := some (now + p.tachFirst * 1000), hold := some (now + p.holdTime * 1000000) } } := by
  have hold : p.holdTime * 1000 * ms = p.holdTime * 1000000 := by rw [Nat.mul_assoc]; rfl
  rw [← hold]
  rfl

/-- The record of a test granted (R154). -/
theorem BayRec.granted_test (r : BayRec) (p : Profile) (now : Nat) : r.granted .test p now =
    { r with
      state := .diag, entryTime := caseClock now, armed := false, spen := none, hld := false, timers := Timers.stopped } :=
  rfl

end

end Sys2Proof.Machine
end

section
/-! PROOFS. The order of starts and sweeps (R62, R64, R65, R67, R69, R100 to R106), and the settled obligation about
passes. -/

namespace Sys2Proof.Machine

section

variable {s t : State} {b x : BayNo} {k : SweepKind} {rest : List BayNo}

/-! ### Starts (R62, R64, R65) -/

theorem State.startPass_of_emergency (room : s.scheduler.unloading < s.settings.unloadWidth)
    (head : s.scheduler.emergency = b :: rest) : s.startPass =
      (({ s with scheduler := { s.scheduler with emergency := rest } } : State).startUnload b).startPass :=
  State.startPass_of_pop room (by rw [Scheduler.popHead, head])

theorem State.startPass_of_ordinary (room : s.scheduler.unloading < s.settings.unloadWidth)
    (empty : s.scheduler.emergency = []) (head : s.scheduler.ordinary = b :: rest) : s.startPass =
      (({ s with scheduler := { s.scheduler with ordinary := rest } } : State).startUnload b).startPass :=
  State.startPass_of_pop room (by simp only [Scheduler.popHead, empty, head])

/-- The record of a bay that starts to unload (R65). -/
theorem BayRec.enter_unloading (r : BayRec) (p : Profile) (now : Nat) : r.enter .unloading p now =
    { r with
      state := .unloading, entryTime := caseClock now, spen := some (p.surgeCost * 250), hld := false,
      timers := { Timers.stopped with
        gap := r.timers.gap, unloadDeadline := some (now + p.unloadDeadline * 1000) } } := rfl

theorem State.startUnload_free (free : (s.bay b).prk = false) :
    (s.startUnload b).bay b = { s.bay b with
      state := .unloading, entryTime := s.clock, spen := some ((s.governing b).surgeCost * 250), hld := false,
      timers := { Timers.stopped with
        gap := (s.bay b).timers.gap, unloadDeadline := some (s.now + (s.governing b).unloadDeadline * 1000) } } ∧
    (s.startUnload b).scheduler = { s.scheduler with unloading := s.scheduler.unloading + 1 } ∧
    (s.startUnload b).motion = s.motion ∧ (s.startUnload b).link = s.link := by
  refine ⟨?_, ?_, ?_, ?_⟩
  · rw [State.startUnload_bay_self, BayRec.unloadStarted_of_free free, BayRec.enter_unloading]
    rfl
  · rw [State.startUnload_scheduler, if_neg (by rw [free]; decide)]
  · rw [State.startUnload_of_free free, State.enter_motion]
    rfl
  · rw [State.startUnload_of_free free]
    rfl

theorem State.startUnload_parked (parked : (s.bay b).prk = true) :
    ((s.startUnload b).bay b).state ≠ .unloading ∧ (s.startUnload b).scheduler = s.scheduler ∧
      (s.startUnload b).bayRaised b .parked := by
  refine ⟨?_, ?_, ?_⟩
  · rw [State.startUnload_bay_self, BayRec.unloadStarted_of_parked parked, BayRec.parked_state]
    split
    · decide
    · decide
    · decide
  · rw [State.startUnload_scheduler, if_pos parked]
  · obtain ⟨⟨n, mem, source⟩, all⟩ := State.notes_startUnload parked
    exact .inl ⟨n, mem, source, (all n mem source).1⟩

/-! ### The queue that a sweep leaves (R67, R102, R103) -/

/-- The bays that a sweep places behind the emergency entries. -/
def State.placedBySweep (s : State) (b : BayNo) : Bool :=
  (s.bay b).state == .loading || (s.bay b).state == .loaded || s.scheduler.ordinary.contains b

/-- The unload queue when the walk has passed some bays. -/
def Scheduler.placed (placed : BayNo → Bool) (past : List BayNo) (q : Scheduler) : Scheduler :=
  { q with
    emergency := q.emergency ++ past.filter placed
    ordinary := q.ordinary.filter (fun b => !past.contains b) }

theorem filter_ne_of_not_mem {l : List BayNo} (absent : b ∉ l) : l.filter (· != b) = l :=
  List.filter_eq_self.mpr fun x mem => by
    rw [bne_iff_ne]
    rintro rfl
    exact absent mem

theorem State.emergencyPlacement_scheduler_of_loaded (loaded : (s.bay b).state = .loading ∨ (s.bay b).state = .loaded) :
    (s.emergencyPlacement b).scheduler = { s.scheduler with emergency := s.scheduler.emergency ++ [b] } := by
  rw [State.emergencyPlacement_of_loaded loaded, State.enter_scheduler]
  rfl

theorem State.emergencyPlacement_scheduler_of_waiting (waits : (s.bay b).state = .parkQueued)
    (absent : b ∉ s.scheduler.emergency) : (s.emergencyPlacement b).scheduler =
      { s.scheduler with
        emergency := s.scheduler.emergency ++ [b], ordinary := s.scheduler.ordinary.filter (· != b) } := by
  rw [State.emergencyPlacement, waits]
  dsimp only
  rw [if_neg (by rw [List.contains_iff_mem]; exact absent)]
  change { s.scheduler with
    emergency := s.scheduler.emergency.filter (· != b) ++ [b], ordinary := s.scheduler.ordinary.filter (· != b) } = _
  rw [filter_ne_of_not_mem absent]

theorem State.emergencyPlacement_of_placed (waits : (s.bay b).state = .parkQueued) (here : b ∈ s.scheduler.emergency) :
    s.emergencyPlacement b = s := by
  rw [State.emergencyPlacement, waits]
  exact if_pos (List.contains_iff_mem.mpr here)

theorem State.emergencyPlacement_of_other (st : (s.bay b).state ≠ .loading ∧ (s.bay b).state ≠ .loaded)
    (waits : (s.bay b).state ≠ .parkQueued) : s.emergencyPlacement b = s := by
  unfold State.emergencyPlacement
  cases state : (s.bay b).state with
  | loading => exact absurd state st.1
  | loaded => exact absurd state st.2
  | parkQueued => exact absurd state waits
  | vacant | stopped | queued | spinningUp | spun | unloading | spinningDown | diag | held | fenced => rfl

/-- The turn of a bay does to the unload queue what its placement does. -/
theorem State.sweepBay_scheduler (s : State) (k : SweepKind) (b : BayNo) :
    (s.sweepBay k b).scheduler = (s.emergencyPlacement b).scheduler := by
  unfold State.sweepBay
  cases state : (s.bay b).state with
  | loading | loaded | parkQueued => exact State.sweepIntent_scheduler _ k b
  | unloading =>
    rw [State.emergencyPlacement_of_other (by rw [state]; decide) (by rw [state]; decide)]
    exact State.sweepIntent_scheduler _ k b
  | spun =>
    rw [State.emergencyPlacement_of_other (by rw [state]; decide) (by rw [state]; decide)]
    dsimp only
    split
    · simp [State.spinDownWith, State.setIntent]
    · rfl
  | spinningUp =>
    rw [State.emergencyPlacement_of_other (by rw [state]; decide) (by rw [state]; decide)]
    dsimp only
    split
    · simp [State.abortSpinUp, State.spinDownWith, State.setIntent]
    · rfl
  | vacant | stopped | queued | spinningDown | diag | held | fenced =>
    rw [State.emergencyPlacement_of_other (by rw [state]; decide) (by rw [state]; decide)]

theorem Scheduler.placed_one (placed : BayNo → Bool) (b : BayNo) (q : Scheduler) : q.placed placed [b] =
    { q with
      emergency := if placed b then q.emergency ++ [b] else q.emergency
      ordinary := q.ordinary.filter (· != b) } := by
  have rest : (fun x => !([b] : List BayNo).contains x) = (· != b) := by
    funext x
    rw [List.contains_cons, List.contains_nil, Bool.or_false]
    rfl
  rw [Scheduler.placed, rest]
  by_cases here : placed b = true
  · rw [if_pos here, List.filter_cons_of_pos here, List.filter_nil]
  · rw [if_neg here, List.filter_cons_of_neg here, List.filter_nil, List.append_nil]

/-- The turn of one bay places it, or finds it placed, or leaves the queue (R67, R106). -/
theorem State.sweepBay_placed (q : s.queuesMatch) (k : SweepKind) (b : BayNo) :
    (s.sweepBay k b).scheduler = s.scheduler.placed s.placedBySweep [b] := by
  obtain ⟨-, -, nodup, parked⟩ := s.queuesMatch_iff.mp q
  have waiting (mem : b ∈ s.scheduler.emergency ∨ b ∈ s.scheduler.ordinary) : (s.bay b).state = .parkQueued :=
    (parked b).mp (List.mem_append.mpr mem)
  rw [State.sweepBay_scheduler, Scheduler.placed_one]
  by_cases waits : (s.bay b).state = .parkQueued
  · by_cases here : b ∈ s.scheduler.emergency
    · have apart : b ∉ s.scheduler.ordinary := fun there => (List.nodup_append.mp nodup).2.2 b here b there rfl
      rw [State.emergencyPlacement_of_placed waits here, filter_ne_of_not_mem apart, if_neg]
      simp [State.placedBySweep, waits, apart]
    · have there : b ∈ s.scheduler.ordinary := (List.mem_append.mp ((parked b).mpr waits)).resolve_left here
      rw [State.emergencyPlacement_scheduler_of_waiting waits here, if_pos]
      simp [State.placedBySweep, there]
  · have absent : b ∉ s.scheduler.ordinary := fun mem => waits (waiting (.inr mem))
    rw [filter_ne_of_not_mem absent]
    by_cases loaded : (s.bay b).state = .loading ∨ (s.bay b).state = .loaded
    · rw [State.emergencyPlacement_scheduler_of_loaded loaded, if_pos]
      rcases loaded with h | h <;> simp [State.placedBySweep, h]
    · rw [State.emergencyPlacement_of_other (not_or.mp loaded) waits, if_neg]
      obtain ⟨loading, loaded⟩ := not_or.mp loaded
      simp [State.placedBySweep, loading, loaded, absent]

/-- The turn of another bay leaves what a bay's turn will do. -/
theorem State.sweepBay_placedBySweep (q : s.queuesMatch) (k : SweepKind) (other : x ≠ b) :
    (s.sweepBay k b).placedBySweep x = s.placedBySweep x := by
  have ordinary : (s.sweepBay k b).scheduler.ordinary.contains x = s.scheduler.ordinary.contains x := by
    rw [State.sweepBay_placed q, Scheduler.placed_one, Bool.eq_iff_iff, List.contains_iff_mem, List.contains_iff_mem,
      List.mem_filter, bne_iff_ne]
    exact and_iff_left other
  rw [State.placedBySweep, State.placedBySweep, ordinary]
  by_cases unloadable : (s.bay x).unloadable
  · obtain ⟨loading, loaded⟩ := unloadable
    obtain ⟨loading', loaded'⟩ := State.sweepBay_unloadable (k := k) q other ⟨loading, loaded⟩
    rw [beq_eq_false_iff_ne.mpr loading, beq_eq_false_iff_ne.mpr loaded, beq_eq_false_iff_ne.mpr loading',
      beq_eq_false_iff_ne.mpr loaded']
  · rw [State.sweepBay_bay_ne q k other]
    intro queued
    refine unloadable ⟨?_, ?_⟩ <;> rw [queued] <;> decide

/-- The walk over some bays, each once. -/
theorem State.turns_placed (q : s.queuesMatch) (k : SweepKind) {l : List BayNo} (nodup : l.Nodup) :
    (s.turns k l).scheduler = s.scheduler.placed s.placedBySweep l := by
  induction l generalizing s with
  | nil =>
    have all : s.scheduler.ordinary.filter (fun b => !([] : List BayNo).contains b) = s.scheduler.ordinary :=
      List.filter_eq_self.mpr fun _ _ => rfl
    rw [Scheduler.placed, all, List.filter_nil, List.append_nil]
    rfl
  | cons b l ih =>
    obtain ⟨apart, nodup⟩ := List.nodup_cons.mp nodup
    have later : l.filter (s.sweepBay k b).placedBySweep = l.filter s.placedBySweep :=
      List.filter_congr fun x mem => State.sweepBay_placedBySweep q k (ne_of_mem_of_not_mem mem apart)
    have turned := ih ((s.keeps_sweepBay k b).queues q) nodup
    change ((s.sweepBay k b).turns k l).scheduler = _
    rw [turned, State.sweepBay_placed q, Scheduler.placed, later]
    simp only [Scheduler.placed, List.append_assoc, ← List.filter_append, List.filter_filter, List.singleton_append]
    congr 2
    funext x
    simp [Bool.and_comm]

theorem State.walked_scheduler (q : s.queuesMatch) (k : SweepKind) : (s.walked k).scheduler =
    { emergency := s.scheduler.emergency ++
        ((List.finRange 16).map (fun i => s.scheduler.origin + i)).filter s.placedBySweep
      ordinary := []
      unloading := s.scheduler.unloading
      origin := if s.settings.originRotation = true then s.scheduler.origin + 1 else s.scheduler.origin
      pointer := s.scheduler.origin } := by
  have started := (s.keeps_turnPointer Scheduler.origin Scheduler.origin).queues q
  have turned := State.turns_placed started k (nodup_walkFrom s.scheduler.origin)
  have emptied : s.scheduler.ordinary.filter (fun b => !(walkFrom s.scheduler.origin).contains b) = [] :=
    List.filter_eq_nil_iff.mpr fun b _ => by simp [mem_walkFrom]
  rw [← allBays_eq_finRange, ← walkFrom_eq, State.walked, State.modScheduler]
  dsimp only
  rw [turned, Scheduler.placed]
  dsimp only [State.modScheduler]
  rw [emptied]
  rfl

end

/-- The intent that a sweep leaves (R105, R106). -/
theorem SweepKind.intent_eq (k : SweepKind) (i : Intent) : (if k.stops then i.toStop else i) =
    if (k = .transit ∨ k = .parkAndStop) ∧ i ≠ .holdAfter then .stopAfter else i := by
  cases k with
  | transit | parkAndStop => cases i <;> rfl
  | jolt | park | sensorLost | cut => simp [SweepKind.stops]

/-- Settles O23. -/
theorem queuePassesFollowTheirOrder : Obligations.QueuePassesFollowTheirOrder := by
  refine ⟨fun s => ⟨s.startPass_ends, s.evaluate_pass, State.evaluate_of_pass_none⟩,
    fun s e => ⟨(s.eligible_iff e).1, (s.eligible_iff e).2, (s.cost_eq e).1, (s.cost_eq e).2⟩, State.effective_eq,
    fun s candidate rest mode room order => ⟨State.pass_of_fits mode room order, fun barred =>
      ⟨fun e before after => State.pass_of_skip mode room order barred, State.pass_of_barred mode room order barred⟩⟩,
    fun s es valid => ⟨s.inModeOrder_perm es, fun mode => State.inModeOrder_of_arrival mode es,
      fun mode => State.inModeOrder_rotate mode es, fun mode => State.inModeOrder_ranked valid mode es⟩,
    fun s p pass => ?_,
    fun s => ⟨fun idle => idle.elim State.startPass_of_full fun empty =>
        State.startPass_of_noHead (Scheduler.popHead_eq_none.mpr empty),
      fun b rest => State.startPass_of_emergency, fun b rest => State.startPass_of_ordinary⟩,
    fun s b => ⟨State.startUnload_free, State.startUnload_parked, s.startUnload_others b, s.startUnload_arbiter b,
      s.startUnload_faults b⟩,
    fun k s q => ?_, State.sweep_pointers⟩
  · obtain ⟨queue, held, grants, pointer⟩ := s.carryOut_arbiter p
    have bay := s.carryOut_bay_self p
    obtain ⟨kept, tested⟩ := s.carryOut_converter p
    refine ⟨State.granted_mem pass, queue, held, grants, pointer, fun spin => ?_, fun test => ?_, s.carryOut_others p,
      s.carryOut_scheduler p, s.carryOut_faults p,
      ⟨s.carryOut_motion p, s.carryOut_supply p, s.carryOut_transit p, s.carryOut_store p⟩,
      by rw [State.carryOut_link], State.evaluate_of_pass pass⟩
    · rw [spin, BayRec.granted_spin] at bay
      exact ⟨bay, kept spin⟩
    · rw [test, BayRec.granted_test] at bay
      exact ⟨bay, tested test⟩
  · have same := s.sameCase_walked k
    refine ⟨s.walked k, s.sweep_eq k, State.walked_scheduler q k, fun b loaded => ?_, same.now, same.store, same.motion,
      same.transit⟩
    obtain ⟨state, prk, pending, intent⟩ := BayRec.swept_loaded loaded k (s.governing b) s.now
    rw [State.walked_bay q k (BayState.queued_of_loaded loaded), ← SweepKind.intent_eq]
    exact ⟨state, prk, pending, intent⟩

end Sys2Proof.Machine
end
